-- ==== Sys2Proof/Word.lean ====
section
/-! DEFINITION. The word types of the part: the 16-bit words of the drive link and of the parameter block (R160), and the
32-bit millisecond time (00_scope.md, Units and ranges). -/

namespace Sys2Proof

/-- A word of a frame or of the parameter block: 16 bits (R160). -/
abbrev Word16 := BitVec 16

/-- A time: milliseconds since the last power-on reset, 32 bits, wrapping (00_scope.md, Units and ranges). -/
abbrev Time := BitVec 32

end Sys2Proof
end

