-- ==== Sys2Proof/Syntax.lean ====
section
/-! DEFINITION. The commands of the D24: one constructor of `Instr` for each row of spec/opcode_table.json, with the
operands that the rows' rules give the step. -/

namespace Sys2Proof

/-- The two axles (00_scope.md, Axles and names). -/
inductive Axle where
  | front
  | rear
deriving DecidableEq, Repr

/-- The seven supervised streams, in STATUS order (section 2.4, R160). -/
inductive StreamId where
  | demand
  | frontStatus
  | rearStatus
  | power
  | reference
  | stability
  | tow
deriving DecidableEq, Repr

/-- The two filtered input lines (R137). -/
inductive LineId where
  | hold
  | mark
deriving DecidableEq, Repr

/-- A level of a filtered line; a line is ACTIVE at its high level (R137). -/
inductive Level where
  | inactive
  | active
deriving DecidableEq, Repr

/-- What the supply sense shows, cut at the two thresholds that the supply monitor reads (R138). -/
inductive SupplyLevel where
  /-- below 8.5 V -/
  | below
  /-- 8.5 V or above, and 9.5 V or below -/
  | between
  /-- above 9.5 V -/
  | above
deriving DecidableEq, Repr

/-- The two levels of the drive link (chapter 9). -/
inductive BusLevel where
  | dominant
  | recessive
deriving DecidableEq, Repr

/-- What the link controller has read on the bus by a time: the levels, bit by bit, in the order in which they came. -/
structure BusReading where
  time : Time
  levels : List BusLevel
deriving DecidableEq, Repr

/-- The commands: the rows of spec/opcode_table.json. A command that falls at a time carries it in its first operand, the
millisecond time at which the event is taken (log entry 1). -/
inductive Instr where
  /-- POWER_ON_RESET (R131): a power-on reset or the RESET line. -/
  | powerOnReset
  /-- READ_ATTEMPT_END (R162): the last byte of an attempt has been read; `bytes` are the 192 bytes read, in the order of
  their addresses (R161). -/
  | readAttemptEnd (t : Time) (bytes : List (BitVec 8))
  /-- FRAME_RECEPTION (R149): a frame on the bus has ended; `levels` are the bits read, from its start bit to the end of its end
  field, or to where it was cut short (R146). -/
  | frameReception (t : Time) (levels : List BusLevel)
  /-- DECODE (R28): the stream decoder takes the head of the intake queue. -/
  | decode (t : Time)
  /-- ALERT_SEEN (R170): an ALERT SEEN frame with this alert number is handed to the alert table. -/
  | alertSeen (t : Time) (number : Word16)
  /-- READ_CAPTURE (R174): a query of kind 1 with this argument is handed to the query service. -/
  | readCapture (t : Time) (argument : Word16)
  /-- RELEASE_CAPTURE (R173): a query of kind 2 with this argument is handed to the query service. -/
  | releaseCapture (t : Time) (argument : Word16)
  /-- READ_EXCEPTION (R174): a query of kind 3 is handed to the query service. -/
  | readException (t : Time)
  /-- RELEASE_EXCEPTION (R66): a query of kind 4 is handed to the query service. -/
  | releaseException (t : Time)
  /-- READ_COUNTERS (R174): a query of kind 5 is handed to the query service. -/
  | readCounters (t : Time)
  /-- READ_STREAM_COUNTS (R174): a query of kind 6 with this argument is handed to the query service. -/
  | readStreamCounts (t : Time) (argument : Word16)
  /-- WINDOW_EXPIRY (R35): the deadline of `stream` has been reached. -/
  | windowExpiry (t : Time) (stream : StreamId)
  /-- HOLD_EXPIRY (R58): the expiry time of a STABILITY cell has been reached. -/
  | holdExpiry (t : Time)
  /-- PASS_TIMER_EXPIRY (R4): the pass timer has expired. -/
  | passTimerExpiry (t : Time)
  /-- PASS_END (R8): the pass in flight ends. -/
  | passEnd (t : Time)
  /-- LINE_CHANGE (R137): the HOLD or MARK line changes to `level`. -/
  | lineChange (t : Time) (line : LineId) (level : Level)
  /-- FILTER_TIMER_EXPIRY (R137): the filter timer of the line has expired. -/
  | filterTimerExpiry (t : Time) (line : LineId)
  /-- SUPPLY_SENSE_CHANGE (R138): the supply sense has crossed a threshold and now shows `level`. -/
  | supplySenseChange (t : Time) (level : SupplyLevel)
  /-- LOW_EVENT (R140): the low timer has expired. -/
  | lowEvent (t : Time)
  /-- RESTORE_EVENT (R142): the restore timer has expired. -/
  | restoreEvent (t : Time)
  /-- STATUS_TIMER_EXPIRY (R167): the status timer has expired. -/
  | statusTimerExpiry (t : Time)
  /-- OFFER (R152): the occasion for an offer; `bus` are the bits read since the last frame ended or the last OFFER (R147). -/
  | offer (bus : BusReading)
  /-- CLEAN_TRANSMISSION (R153): the frame in transmission was echoed exactly to its end; `echo` are the bits read back. -/
  | cleanTransmission (echo : BusReading)
  /-- LOST_ARBITRATION (R154): the frame in transmission lost arbitration; `echo` are the bits read back, up to the one that
  settled it. -/
  | lostArbitration (echo : BusReading)
  /-- ECHO_MISMATCH (R155): the echo of the frame in transmission differed; `echo` are the bits read back, up to the first that
  differed. -/
  | echoMismatch (echo : BusReading)
deriving DecidableEq, Repr

end Sys2Proof
end

