-- ==== Sys2Proof/Decode.lean ====
section
/-! DEFINITION. The decoder over the rows of spec/opcode_table.json that give bits. No row gives any: the part has no register
window and no opcode (00_scope.md, How the part is reached), so no word spells a command. The frames of the drive link and the
words of the parameter block are operands of the commands; Machine/Formats.lean, Machine/Operands.lean and Machine/Block.lean
read and write them. -/

namespace Sys2Proof

/-- The command that an instruction word spells by the table's bits. The table gives no row bits, so none is spelled. -/
def decodeTableWord (_nbits _w : Nat) : Option Instr := none

end Sys2Proof
end

