-- ==== Sys2Proof/Config.lean ====
section
/-! DEFINITION. What the part fixes, each constant with the rule that gives it, and the free values: the values the spec gives
a place and no content. The free values have no body, so no proof can see them. -/

namespace Sys2Proof

/-- The intake queue holds at most 8 frames (R26, R27). -/
def Config.intakeDepth : Nat := 8

/-- The end field of a frame: 5 recessive bits (R146). -/
def Config.endBits : Nat := 5

/-- The gap that follows every frame: 8 recessive bit times (R146, R147). -/
def Config.gapBits : Nat := 8

/-- The instruction byte that reads the parameter memory (R161). -/
def Config.readInstruction : BitVec 8 := 3

/-- The address at which a read of the parameter memory begins (R161). -/
def Config.readAddress : Word16 := 0

/-- The echo count that mutes the link controller (R155, R156). -/
def Config.echoLimit : Nat := 16

/-- The clean-run count that ends MUTED (R157). -/
def Config.cleanRunTarget : Nat := 128

/-- Entries of an axle's delay line, and the value at which commands-since-activation saturates (R112, R113). -/
def Config.delayDepth : Nat := 4

/-- The tracking count at which an ACTIVE axle becomes DERATED (R127). -/
def Config.derateCount : Nat := 8

/-- The tracking count at which a DERATED axle becomes FAULTED, and its bound (R124, R127). -/
def Config.faultCount : Nat := 16

/-- Qualifying frames that return a LOST stream to FRESH (R37). -/
def Config.qualifyingTarget : Nat := 3

/-- The value at which the eight counters, the stream counts and the refused count saturate (R175, R32, R174). -/
def Config.counterMax : Nat := 65535

/-- The value at which the further-events count and a capture request's merged count saturate (R65, R172). -/
def Config.smallCounterMax : Nat := 255

/-- The power-scaled run saturates at 20 passes (R169). -/
def Config.powerRunMax : Nat := 20

/-- Read attempts that START makes (R163). -/
def Config.maxAttempts : Nat := 3

/-- Three station conflicts within this many ms move the part to SAFE (R143). -/
def Config.conflictWindow : Nat := 1000

/-- The low event falls 2 ms after the low timer starts (R138). -/
def Config.lowDelay : Nat := 2

/-- The restore event falls 100 ms after the restore timer starts (R138). -/
def Config.restoreDelay : Nat := 100

/-- The status period in SAFE with cause PARAMETER (R163). -/
def Config.failurePeriod : Nat := 1000

/-- An axle is GRIP LIMITING when it has been out of GRIPPING for this many ms (R169). -/
def Config.gripLimitingTime : Nat := 1000

/-- The power scaling factor that means no scaling (R76). -/
def Config.fullFactor : Int := 4096

/-- FREE VALUE (log entry 5): the sequence field of the `n`-th free draw. The spec gives STATUS, ALERT and REPLY frames a
sequence field and states no value for it. -/
opaque Config.freeSequence : Nat → BitVec 4

/-- FREE VALUE (log entry 6): the rank field of an ALERT frame that names no leading alert (R171). -/
opaque Config.freeRank : Nat → BitVec 8

/-- FREE VALUE (log entry 7): the field-index word of exception frame 1 for a DRIVELINE event, which has no field index
(section 11.4). -/
opaque Config.freeFieldIndex : Nat → Word16

end Sys2Proof
end

