-- ==== Sys2Proof/Machine/State.lean ====
section
/-! DEFINITION. The state of the D24 as plain data: every block of the manual with the state that block owns
(00_scope.md, Overview of the blocks), the queue of waiting commands, and the machine right after reset. -/

namespace Sys2Proof.Machine

/-! ## Families of like things -/

/-- One value for each axle. -/
structure PerAxle (α : Type) where
  front : α
  rear : α
deriving DecidableEq, Repr

/-- One value for each filtered line. -/
structure PerLine (α : Type) where
  hold : α
  mark : α
deriving DecidableEq, Repr

/-- One value for each supervised stream. -/
structure PerStream (α : Type) where
  demand : α
  frontStatus : α
  rearStatus : α
  power : α
  reference : α
  stability : α
  tow : α
deriving DecidableEq, Repr

/-- The six kinds of frame the part sends; each has its own mailbox (section 9.4). -/
inductive OwnKind where
  | frontCommand
  | rearCommand
  | splitReport
  | alert
  | status
  | reply
deriving DecidableEq, Repr

/-- One value for each own frame kind. -/
structure PerKind (α : Type) where
  frontCommand : α
  rearCommand : α
  splitReport : α
  alert : α
  status : α
  reply : α
deriving DecidableEq, Repr

/-- The ten alerts, in the order of their numbers (section 11.2). -/
inductive AlertId where
  | demandLost
  | frontDerated
  | rearDerated
  | frontFaulted
  | rearFaulted
  | powerScaled
  | referenceLost
  | gripLimiting
  | exceptionHeld
  | supplyLow
deriving DecidableEq, Repr

/-- One value for each alert. -/
structure PerAlert (α : Type) where
  demandLost : α
  frontDerated : α
  rearDerated : α
  frontFaulted : α
  rearFaulted : α
  powerScaled : α
  referenceLost : α
  gripLimiting : α
  exceptionHeld : α
  supplyLow : α
deriving DecidableEq, Repr

/-! ## Names -/

/-- The modes of the mode controller (section 8.1). -/
inductive Mode where
  | start
  | dozing
  | driving
  | fading
  | supplyDown
  | supplyHalted
  | safe
deriving DecidableEq, Repr

/-- The SAFE causes (section 8.1). -/
inductive SafeCause where
  | none
  | parameter
  | stationConflict
deriving DecidableEq, Repr

/-- The states of a supervised stream (section 2.5). -/
inductive StreamState where
  | unheard
  | fresh
  | late
  | lost
deriving DecidableEq, Repr

/-- A stream's change flag: CLEAR, SET, or CARRIED by a STATUS placement number (R168). -/
inductive ChangeFlag where
  | clear
  | set
  | carried (placement : BitVec 32)
deriving DecidableEq, Repr

/-- The states of an axle supervisor (section 7.1). -/
inductive AxleState where
  | offline
  | standby
  | active
  | derated
  | faulted
deriving DecidableEq, Repr

/-- The states of a grip regulator (section 5.1). -/
inductive GripState where
  | gripping
  | slipping
  | recovering
deriving DecidableEq, Repr

/-- The link states (section 9.2). -/
inductive LinkState where
  | listen
  | active
  | muted
deriving DecidableEq, Repr

/-- The drive link as the controller has read it (R147). -/
inductive BusPhase where
  /-- a frame is on the bus -/
  | busy
  /-- the part has stopped a frame of its own, and what remains of it is on the bus, with it perhaps a second station's frame of
  the same tag (R148, R155) -/
  | aborted
  /-- the gap after a frame has lasted this many bit times -/
  | gap (bits : Nat)
  /-- no frame has started since the last gap -/
  | free
deriving DecidableEq, Repr

/-- The directions of a demand (R40). -/
inductive Direction where
  | neutral
  | forward
  | reverse
deriving DecidableEq, Repr

/-- The drive profiles (R40). -/
inductive Profile where
  | normal
  | lowGrip
deriving DecidableEq, Repr

/-- The rows of the constraint table, in their order (section 3.1). -/
inductive Row where
  | driveline
  | inverter
  | axle
  | stability
  | grip
  | supply
deriving DecidableEq, Repr

/-- The governing sources of an axle's final torque (R23). -/
inductive Governor where
  | none
  | row (r : Row)
  | power
  | ramp
deriving DecidableEq, Repr

/-- The nine roles of the recognition table (section 2.1). -/
inductive Role where
  | stream (s : StreamId)
  | query
  | alertSeen
deriving DecidableEq, Repr

/-- The state codes of an AXLE COMMAND (R105). -/
inductive StateCode where
  | drive
  | fade
  | supply
deriving DecidableEq, Repr

/-- The states of an alert (section 11.2). -/
inductive AlertState where
  | clear
  | raised
  | noted
deriving DecidableEq, Repr

/-- The capture trigger sources (section 11.4). -/
inductive TriggerSource where
  | frontFaulted
  | rearFaulted
  | driveline
  | supplyDown
  | mark
  | demandLost
deriving DecidableEq, Repr

/-- The capture modes (R173). -/
inductive CaptureMode where
  | keepFirst
  | keepLatest
deriving DecidableEq, Repr

/-- The two capture slots (R173). -/
inductive SlotId where
  | one
  | two
deriving DecidableEq, Repr

/-- The sources of the STA and STB lines (R176). -/
inductive LineSource where
  | none
  | driving
  | axleImpaired
  | safe
  | supplyLow
  | alertLeading
  | powerScaled
  | captureHeld
deriving DecidableEq, Repr

/-- The supply monitor's judgement (R138). -/
inductive Judgement where
  | ok
  | low
deriving DecidableEq, Repr

/-- The reply codes (section 11.4). -/
inductive ReplyCode where
  | data
  | empty
  | released
  | unknown
deriving DecidableEq, Repr

/-! ## Parameters and recognition -/

/-- The station and kind that carry a role (R24). -/
structure RoleEntry where
  role : Role
  station : BitVec 4
  kind : BitVec 4
deriving DecidableEq, Repr

/-- The five trigger enables (R172). -/
structure TriggerEnables where
  axleFaulted : Bool
  driveline : Bool
  supplyDown : Bool
  mark : Bool
  demandLost : Bool
deriving DecidableEq, Repr

/-- The routing of STA or STB: its source, and whether its active level is high (R176). -/
structure LineConfig where
  source : LineSource
  activeHigh : Bool
deriving DecidableEq, Repr

/-- The parameters of an accepted block (section 10.4), each in the unit of the manual's conventions. -/
structure Params where
  ownStation : BitVec 4
  roles : List RoleEntry
  classes : PerKind (BitVec 3)
  statusPeriod : Nat
  windows : PerStream Nat
  ratio : PerAxle Int
  speedFactor : PerAxle Int
  drivelineSolo : PerAxle Int
  drivelineTow : PerAxle Int
  demandMax : Int
  bandEdges : List Int
  shareSolo : List Int
  shareTow : List Int
  loadShift : Int
  shareMin : Int
  shareMax : Int
  slipSoloNormal : Int
  slipSoloLowGrip : Int
  slipTowNormal : Int
  slipTowLowGrip : Int
  cutGain : Int
  gripFloor : Int
  recoveryRate : Int
  riseRate : Int
  releaseRate : Int
  supplyFallRate : Int
  reserve : Int
  lossAllowance : Int
  fallbackDischarge : Int
  fallbackCharge : Int
  stabilityFallback : PerAxle Int
  trackingAbs : Int
  trackingRel : Int
  derateCap : PerAxle Int
  maxPassInterval : Nat
  ranks : PerAlert Nat
  reportThreshold : Nat
  captureMode : CaptureMode
  enables : TriggerEnables
  sta : LineConfig
  stb : LineConfig
  filterTime : PerLine Nat
deriving DecidableEq, Repr

/-- An entry of the recognition table: a role, the station and kind that carry it, and the expected payload length (R24). -/
structure RecognitionEntry where
  role : Role
  station : BitVec 4
  kind : BitVec 4
  expectedLength : Nat
deriving DecidableEq, Repr

/-- The memory port: attempts made since the last power-on reset, whether one is under way, in which case the memory is
selected, and the bytes that the attempt has sent to the memory (R161). -/
structure MemoryPort where
  attempts : Nat
  reading : Bool
  sent : List (BitVec 8)
deriving DecidableEq, Repr

/-! ## Streams and records -/

/-- An entry of the intake queue (R26). -/
structure IntakeEntry where
  cls : BitVec 3
  station : BitVec 4
  kind : BitVec 4
  sequence : BitVec 4
  length : BitVec 3
  payload : List Word16
  role : Role
  expectedLength : Nat
  arrival : Time
deriving DecidableEq, Repr

/-- A stream record (R32). Role and window are `none` while unset. -/
structure StreamRecord where
  role : Option Role
  window : Option Nat
  lastSequence : Option (BitVec 4)
  lastArrival : Time
  state : StreamState
  deadline : Option Time
  qualifying : Nat
  repeats : Nat
  malformed : Nat
  flag : ChangeFlag
deriving DecidableEq, Repr

/-- The demand record (R40). -/
structure DemandRecord where
  torque : Int
  ready : Bool
  direction : Direction
  profile : Profile
deriving DecidableEq, Repr

/-- An axle status record (R41). -/
structure AxleStatus where
  speed : Int
  applied : Int
  driveCapability : Int
  regenCapability : Int
  echoed : BitVec 4
  ready : Bool
  accepting : Bool
  fault : Bool
deriving DecidableEq, Repr

/-- The power record, in 0.1 kW (R42). -/
structure PowerRecord where
  discharge : Int
  charge : Int
deriving DecidableEq, Repr

/-- The reference record (R43). -/
structure ReferenceRecord where
  speed : Int
  valid : Bool
deriving DecidableEq, Repr

/-- The decoded records (section 2.6); the tow record is its one flag (R44). -/
structure Records where
  demand : DemandRecord
  status : PerAxle AxleStatus
  power : PowerRecord
  reference : ReferenceRecord
  towPresent : Bool
deriving DecidableEq, Repr

/-! ## The constraint table -/

/-- The bounds of a present cell: its drive ceiling and its regen floor (R48). -/
structure Bounds where
  ceiling : Int
  floor : Int
deriving DecidableEq, Repr

/-- A present STABILITY cell: its cap and its expiry time, or none (R48). -/
structure StabilityCap where
  cap : Int
  expiry : Option Time
deriving DecidableEq, Repr

/-- The constraint table; an absent cell is `none` (R48). -/
structure ConstraintTable where
  driveline : PerAxle (Option Bounds)
  inverter : PerAxle (Option Bounds)
  axle : PerAxle (Option Bounds)
  stability : PerAxle (Option StabilityCap)
  grip : PerAxle (Option Bounds)
  supply : PerAxle (Option Bounds)
deriving DecidableEq, Repr

/-! ## The split engine -/

/-- An axle window: regen floor W− and drive ceiling W+ (R14). -/
structure Window where
  floor : Int
  ceiling : Int
deriving DecidableEq, Repr

/-- The pass result record (R9). -/
structure PassRecord where
  demand : Int
  windows : PerAxle Window
  scaled : PerAxle Int
  final : PerAxle Int
  gripCeiling : PerAxle Int
  gripState : PerAxle GripState
  share : Int
  factor : Int
  residual : Int
  shortfall : Int
  governor : PerAxle Governor
  passNumber : BitVec 32
deriving DecidableEq, Repr

/-- The snapshot of a pass (R5), with the last start time in use before the pass and whether the pass took the first-pass
mark. -/
structure Snapshot where
  demand : DemandRecord
  demandState : StreamState
  status : PerAxle AxleStatus
  statusState : PerAxle StreamState
  power : PowerRecord
  powerState : StreamState
  reference : ReferenceRecord
  referenceState : StreamState
  towPresent : Bool
  towState : StreamState
  table : ConstraintTable
  hold : Level
  mode : Mode
  time : Time
  lastStartBefore : Time
  firstPass : Bool
deriving DecidableEq, Repr

/-- A reset of the mode controller or of an axle supervisor that waits for the pass end (R6, R83). -/
inductive DeferredReset where
  | previousCommands
  | regulator (a : Axle)
deriving DecidableEq, Repr

/-- The split engine (section 1.1); it is IN FLIGHT while it holds a snapshot. -/
structure Engine where
  flight : Option Snapshot
  pendingPass : Bool
  timer : Option Time
  previous : PerAxle Int
  lastStart : Time
  firstPass : Bool
  passNumber : BitVec 32
  result : PassRecord
  deferred : List DeferredReset
deriving DecidableEq, Repr

/-- A grip regulator (section 5.1); an unset ceiling is `none`. -/
structure GripRegulator where
  ceiling : Option Int
  state : GripState
  limitingSince : Option Time
deriving DecidableEq, Repr

/-- The command issuer (section 6.2). -/
structure Issuer where
  sequence : PerAxle (BitVec 4)
  inService : PerAxle Bool
  reportSequence : BitVec 4
deriving DecidableEq, Repr

/-! ## Axle supervision -/

/-- An entry of a delay line: a command sequence and its motor torque in tenths (R113). -/
structure DelayEntry where
  sequence : BitVec 4
  tenths : Int
deriving DecidableEq, Repr

/-- An axle supervisor (section 7.1); the delay line is newest first. -/
structure Supervisor where
  state : AxleState
  tracking : Nat
  sinceActivation : Nat
  line : List DelayEntry
deriving DecidableEq, Repr

/-! ## Mode controller, filters, supply monitor -/

/-- The mode controller (section 8.1). -/
structure ModeController where
  mode : Mode
  cause : SafeCause
  restorePending : Bool
deriving DecidableEq, Repr

/-- An input filter with its line (section 8.5). -/
structure InputFilter where
  line : Level
  accepted : Level
  candidate : Option Level
  timer : Option Time
deriving DecidableEq, Repr

/-- The supply monitor with its sense input (section 8.6); the reported mark holds the marking STATUS placement. -/
structure SupplyMonitor where
  sense : SupplyLevel
  judgement : Judgement
  lowTimer : Option Time
  restoreTimer : Option Time
  flag : Bool
  reportedMark : Option (BitVec 32)
deriving DecidableEq, Repr

/-! ## The exception record -/

/-- An event of the exception record (section 3.8). -/
inductive ExceptionEvent where
  | driveline (axle : Axle) (time : Time) (passNumber : BitVec 32) (preClip : Int) (limit : Int)
  | reject (role : Role) (time : Time) (fieldIndex : Nat) (raw : Word16)
deriving DecidableEq, Repr

/-- A HELD exception record: its event and the further-events count (R64). -/
structure HeldException where
  event : ExceptionEvent
  further : Nat
deriving DecidableEq, Repr

/-! ## The report unit -/

/-- What STATUS reports and places a new STATUS for when it changes (R167). -/
structure Reported where
  mode : Mode
  cause : SafeCause
  link : LinkState
  axles : PerAxle AxleState
  supplyLow : Bool
  exceptionHeld : Bool
  slotOne : Bool
  slotTwo : Bool
  streams : PerStream StreamState
deriving DecidableEq, Repr

/-- A capture request: source, time and merged count (R172). -/
structure CaptureRequest where
  source : TriggerSource
  time : Time
  merged : Nat
deriving DecidableEq, Repr

/-- The contents of a HELD capture slot (R173). -/
structure Capture where
  source : TriggerSource
  time : Time
  merged : Nat
  record : PassRecord
  mode : Mode
  axles : PerAxle AxleState
  streams : PerStream StreamState
deriving DecidableEq, Repr

/-- The reply a BUSY query service holds: its code, the number of its frames, and the bodies not yet sent cleanly (R174). -/
structure Reply where
  code : ReplyCode
  total : Nat
  bodies : List (List Word16)
deriving DecidableEq, Repr

/-- The query service: IDLE when it holds no reply, BUSY otherwise; and the refused count (R174). -/
structure QueryService where
  busy : Option Reply
  refused : Nat
deriving DecidableEq, Repr

/-- The eight counters (R175). -/
structure Counters where
  demandClamps : Nat
  intakeOverflows : Nat
  badChecks : Nat
  echoFaults : Nat
  superseded : Nat
  stationConflicts : Nat
  missedCaptures : Nat
  rejectedFrames : Nat
deriving DecidableEq, Repr

/-- The report unit (chapter 11); `newestSlot` is the slot filled last, and `sta` and `stb` are the lines' levels, `true`
for high. -/
structure ReportUnit where
  statusTimer : Option Time
  placement : BitVec 32
  alerts : PerAlert AlertState
  powerRun : Nat
  gripLimiting : Bool
  leading : Option AlertId
  request : Option CaptureRequest
  slotOne : Option Capture
  slotTwo : Option Capture
  newestSlot : SlotId
  query : QueryService
  counters : Counters
  sta : Bool
  stb : Bool
deriving DecidableEq, Repr

/-! ## Frames the part sends, and the link controller -/

/-- The content of a frame the part sends. -/
inductive Content where
  /-- AXLE COMMAND (section 6.2) -/
  | command (tenths : Int) (code : StateCode) (bound : Bool) (enable : Bool)
  /-- SPLIT REPORT: demand, finals, shortfall, share, factor, governors and grip states (R111) -/
  | splitReport (demand : Int) (final : PerAxle Int) (shortfall share factor : Int)
      (governor : PerAxle Governor) (grip : PerAxle GripState)
  /-- ALERT: the leading alert's number, its rank, and the numbers of RAISED and NOTED alerts (R171) -/
  | alert (number : Nat) (rank : BitVec 8) (raised noted : Nat)
  /-- STATUS: its placement number and fields (R167) -/
  | status (placement : BitVec 32) (fields : Reported) (attempts : Nat) (flags : PerStream Bool)
  /-- REPLY: code, frame index, frames in the reply, refused count and body (R174) -/
  | reply (code : ReplyCode) (index total refused : Nat) (body : List Word16)
deriving DecidableEq, Repr

/-- A frame the part sends: its kind, its sequence and its content. -/
structure OutFrame where
  kind : OwnKind
  sequence : BitVec 4
  content : Content
deriving DecidableEq, Repr

/-- The identity the link controller sends under: its station and the classes of its six kinds (R148, R163). -/
structure Identity where
  station : BitVec 4
  classes : PerKind (BitVec 3)
deriving DecidableEq, Repr

/-- The link controller (section 9.2) with the phase of the bus it reads (R147); the identity is `none` until it is taken. -/
structure LinkController where
  bus : BusPhase
  state : LinkState
  quiet : Bool
  echoCount : Nat
  cleanRun : Nat
  mailboxes : PerKind (Option OutFrame)
  transmitting : Option OutFrame
  conflicts : List Time
  identity : Option Identity
deriving DecidableEq, Repr

/-! ## The machine -/

/-- The state of the D24. `pending` is the queue of waiting commands, first in, first out; `draws` counts the free values
drawn and is the model's own field (log entries 2 and 5). -/
structure State where
  pending : List Instr
  now : Time
  draws : Nat
  params : Option Params
  port : MemoryPort
  link : LinkController
  recognition : List RecognitionEntry
  intake : List IntakeEntry
  streams : PerStream StreamRecord
  records : Records
  table : ConstraintTable
  engine : Engine
  grip : PerAxle GripRegulator
  issuer : Issuer
  axles : PerAxle Supervisor
  modes : ModeController
  filters : PerLine InputFilter
  supply : SupplyMonitor
  exception : Option HeldException
  report : ReportUnit
deriving DecidableEq, Repr

/-- The reasons for which the block stops with a fault. There are none: every command of the table has an effect in every
state, so no meaning raises one. -/
inductive Fault where
deriving DecidableEq, Repr

/-- The reasons for which a command is turned away. -/
inductive Refusal where
  /-- Raised by an arm of `exec` that has no meaning yet. Safe: the machine stops. -/
  | notModelled (mnemonic : String)
deriving DecidableEq, Repr

/-! ## The machine after reset -/

/-- A stream record after a power-on reset (R32). -/
def StreamRecord.reset : StreamRecord :=
  { role := none, window := none, lastSequence := none, lastArrival := 0, state := .unheard, deadline := none,
    qualifying := 0, repeats := 0, malformed := 0, flag := .clear }

/-- The DEMAND fallback (R36). -/
def DemandRecord.fallback : DemandRecord :=
  { torque := 0, ready := false, direction := .neutral, profile := .normal }

/-- The axle status fallback (R36). -/
def AxleStatus.fallback : AxleStatus :=
  { speed := 0, applied := 0, driveCapability := 0, regenCapability := 0, echoed := 0, ready := false,
    accepting := false, fault := false }

/-- The REFERENCE fallback (R36). -/
def ReferenceRecord.fallback : ReferenceRecord := { speed := 0, valid := false }

/-- The pass result record after a power-on reset (R1). R1 names no governors; the model holds NONE (log entry 9). -/
def PassRecord.reset : PassRecord :=
  { demand := 0, windows := ⟨⟨0, 0⟩, ⟨0, 0⟩⟩, scaled := ⟨0, 0⟩, final := ⟨0, 0⟩, gripCeiling := ⟨0, 0⟩,
    gripState := ⟨.gripping, .gripping⟩, share := 0, factor := 4096, residual := 0, shortfall := 0,
    governor := ⟨.none, .none⟩, passNumber := 0 }

/-- The split engine after a power-on reset (R1). -/
def Engine.reset : Engine :=
  { flight := none, pendingPass := false, timer := none, previous := ⟨0, 0⟩, lastStart := 0, firstPass := false,
    passNumber := 0, result := .reset, deferred := [] }

/-- The reset form of a grip regulator (R82). -/
def GripRegulator.reset : GripRegulator := { ceiling := none, state := .gripping, limitingSince := none }

/-- An axle supervisor after a power-on reset (R114). -/
def Supervisor.reset : Supervisor := { state := .offline, tracking := 0, sinceActivation := 0, line := [] }

/-- The constraint table after a power-on reset: rows 2 to 6 absent, the DRIVELINE row unset (R48). -/
def ConstraintTable.reset : ConstraintTable :=
  { driveline := ⟨none, none⟩, inverter := ⟨none, none⟩, axle := ⟨none, none⟩, stability := ⟨none, none⟩,
    grip := ⟨none, none⟩, supply := ⟨none, none⟩ }

/-- Six empty mailboxes. -/
def noMail : PerKind (Option OutFrame) := ⟨none, none, none, none, none, none⟩

/-- The link controller after a power-on reset (R148), with the bus in a phase. -/
def LinkController.reset (bus : BusPhase) : LinkController :=
  { bus := bus, state := .listen, quiet := false, echoCount := 0, cleanRun := 0, mailboxes := noMail, transmitting := none,
    conflicts := [], identity := none }

/-- Every alert CLEAR. -/
def alertsClear : PerAlert AlertState :=
  ⟨.clear, .clear, .clear, .clear, .clear, .clear, .clear, .clear, .clear, .clear⟩

/-- The report unit after a power-on reset (R167, R169, R170, R171, R172, R173, R174, R175, R176). -/
def ReportUnit.reset : ReportUnit :=
  { statusTimer := none, placement := 0, alerts := alertsClear, powerRun := 0, gripLimiting := false, leading := none,
    request := none, slotOne := none, slotTwo := none, newestSlot := .one, query := ⟨none, 0⟩,
    counters := ⟨0, 0, 0, 0, 0, 0, 0, 0⟩, sta := true, stb := true }

/-- An input filter after a power-on reset, with its line at `line` (R137). -/
def InputFilter.reset (line : Level) : InputFilter :=
  { line := line, accepted := .inactive, candidate := none, timer := none }

/-- The supply monitor after a power-on reset, with its input at `sense` (R138). -/
def SupplyMonitor.reset (sense : SupplyLevel) : SupplyMonitor :=
  { sense := sense, judgement := .ok, lowTimer := none, restoreTimer := none, flag := false, reportedMark := none }

/-- The memory port at rest, before any attempt (R161). -/
def MemoryPort.idle : MemoryPort := { attempts := 0, reading := false, sent := [] }

/-- An attempt begins: the count rises, the memory is selected, and the read instruction and the address, high byte first, are
sent to it (R161). -/
def MemoryPort.beginAttempt (m : MemoryPort) : MemoryPort :=
  { attempts := m.attempts + 1, reading := true
    sent := [Config.readInstruction, Config.readAddress.extractLsb' 8 8, Config.readAddress.extractLsb' 0 8] }

/-- An attempt ends: the memory is deselected; the count is kept (R161). -/
def MemoryPort.endAttempt (m : MemoryPort) : MemoryPort := { attempts := m.attempts, reading := false, sent := [] }

/-- The machine after a power-on reset with the inputs of the part as given: the HOLD line, the MARK line, the supply sense and
the bus. The memory port begins its first attempt at once (R161). -/
def State.resetWith (pending : List Instr) (draws : Nat) (hold mark : Level) (sense : SupplyLevel) (bus : BusPhase) : State :=
  { pending := pending, now := 0, draws := draws, params := none, port := MemoryPort.idle.beginAttempt,
    link := .reset bus, recognition := [], intake := [],
    streams := ⟨.reset, .reset, .reset, .reset, .reset, .reset, .reset⟩,
    records := { demand := .fallback, status := ⟨.fallback, .fallback⟩, power := ⟨0, 0⟩, reference := .fallback,
                 towPresent := false },
    table := .reset, engine := .reset, grip := ⟨.reset, .reset⟩,
    issuer := { sequence := ⟨0, 0⟩, inService := ⟨false, false⟩, reportSequence := 0 },
    axles := ⟨.reset, .reset⟩, modes := { mode := .start, cause := .none, restorePending := false },
    filters := ⟨.reset hold, .reset mark⟩, supply := .reset sense, exception := none, report := .reset }

/-- The machine right after reset: nothing waits, both lines are at their low level, the supply stands above 9.5 V, and no bit of
a gap has been read (log entries 3, 8 and 32). -/
def State.reset : State := State.resetWith [] 0 .inactive .inactive .above (.gap 0)

end Sys2Proof.Machine
end

