-- ==== Sys2Proof/Machine/Ops.lean ====
section
/-! DEFINITION. The shared operations: arithmetic and time as the manual's conventions give them, reading and writing one
member of a family of registers, the counters, and the parameters in force. -/

namespace Sys2Proof.Machine

/-! ## Arithmetic (00_scope.md, Rounding and Clamping) -/

/-- Division truncated toward zero: trunc(a / b). -/
def truncDiv (a b : Int) : Int := Int.tdiv a b

/-- a / b rounded to the nearest integer, half-way away from zero, for b > 0 (R17). -/
def roundDiv (a : Int) (b : Nat) : Int := a.sign * ((2 * (a.natAbs : Int) + b) / (2 * b))

/-- `v` clamped to [lo, hi]. -/
def clampTo (lo hi v : Int) : Int := if v < lo then lo else if hi < v then hi else v

/-- The magnitude of a signed quantity. -/
def magnitude (v : Int) : Int := v.natAbs

/-- A count that rises by 1 and saturates at `bound`. -/
def saturatingUp (n bound : Nat) : Nat := min (n + 1) bound

/-! ## Time: 32-bit differences (R32, R56) -/

/-- `a` lies before `b`, taken on the 32-bit difference. -/
def earlier (a b : Time) : Bool := (a - b).msb

/-- The time `now` has reached `due`. -/
def reached (now due : Time) : Bool := !earlier now due

/-- The time `ms` milliseconds after `t`. -/
def later (t : Time) (ms : Nat) : Time := t + BitVec.ofNat 32 ms

/-- The unsigned 32-bit difference from `since` to `now`. -/
def elapsedSince (now since : Time) : Nat := (now - since).toNat

/-- A timer is due: it runs and its expiry has been reached. -/
def timerDue (now : Time) (timer : Option Time) : Bool :=
  match timer with
  | none => false
  | some d => reached now d

/-! ## Families -/

def PerAxle.get {α : Type} (p : PerAxle α) : Axle → α
  | .front => p.front
  | .rear => p.rear

def PerAxle.set {α : Type} (p : PerAxle α) (a : Axle) (v : α) : PerAxle α :=
  match a with
  | .front => { p with front := v }
  | .rear => { p with rear := v }

/-- The family that holds `f a` for each axle. -/
def PerAxle.of {α : Type} (f : Axle → α) : PerAxle α := ⟨f .front, f .rear⟩

def PerAxle.map {α β : Type} (f : α → β) (p : PerAxle α) : PerAxle β := ⟨f p.front, f p.rear⟩

/-- The values of both axles. -/
def PerAxle.pair {α : Type} (v : α) : PerAxle α := ⟨v, v⟩

def PerLine.get {α : Type} (p : PerLine α) : LineId → α
  | .hold => p.hold
  | .mark => p.mark

def PerLine.set {α : Type} (p : PerLine α) (l : LineId) (v : α) : PerLine α :=
  match l with
  | .hold => { p with hold := v }
  | .mark => { p with mark := v }

def PerStream.get {α : Type} (p : PerStream α) : StreamId → α
  | .demand => p.demand
  | .frontStatus => p.frontStatus
  | .rearStatus => p.rearStatus
  | .power => p.power
  | .reference => p.reference
  | .stability => p.stability
  | .tow => p.tow

def PerStream.set {α : Type} (p : PerStream α) (i : StreamId) (v : α) : PerStream α :=
  match i with
  | .demand => { p with demand := v }
  | .frontStatus => { p with frontStatus := v }
  | .rearStatus => { p with rearStatus := v }
  | .power => { p with power := v }
  | .reference => { p with reference := v }
  | .stability => { p with stability := v }
  | .tow => { p with tow := v }

def PerStream.map {α β : Type} (f : α → β) (p : PerStream α) : PerStream β :=
  ⟨f p.demand, f p.frontStatus, f p.rearStatus, f p.power, f p.reference, f p.stability, f p.tow⟩

/-- The members in STATUS order. -/
def PerStream.toList {α : Type} (p : PerStream α) : List α :=
  [p.demand, p.frontStatus, p.rearStatus, p.power, p.reference, p.stability, p.tow]

/-- The seven streams in STATUS order. -/
def streamIds : List StreamId := [.demand, .frontStatus, .rearStatus, .power, .reference, .stability, .tow]

def PerKind.get {α : Type} (p : PerKind α) : OwnKind → α
  | .frontCommand => p.frontCommand
  | .rearCommand => p.rearCommand
  | .splitReport => p.splitReport
  | .alert => p.alert
  | .status => p.status
  | .reply => p.reply

def PerKind.set {α : Type} (p : PerKind α) (k : OwnKind) (v : α) : PerKind α :=
  match k with
  | .frontCommand => { p with frontCommand := v }
  | .rearCommand => { p with rearCommand := v }
  | .splitReport => { p with splitReport := v }
  | .alert => { p with alert := v }
  | .status => { p with status := v }
  | .reply => { p with reply := v }

/-- The own kinds in the order of their kind numbers (section 9.4). -/
def ownKinds : List OwnKind := [.frontCommand, .rearCommand, .splitReport, .alert, .status, .reply]

def PerAlert.get {α : Type} (p : PerAlert α) : AlertId → α
  | .demandLost => p.demandLost
  | .frontDerated => p.frontDerated
  | .rearDerated => p.rearDerated
  | .frontFaulted => p.frontFaulted
  | .rearFaulted => p.rearFaulted
  | .powerScaled => p.powerScaled
  | .referenceLost => p.referenceLost
  | .gripLimiting => p.gripLimiting
  | .exceptionHeld => p.exceptionHeld
  | .supplyLow => p.supplyLow

/-- The family that holds `f i` for each alert. -/
def PerAlert.of {α : Type} (f : AlertId → α) : PerAlert α :=
  ⟨f .demandLost, f .frontDerated, f .rearDerated, f .frontFaulted, f .rearFaulted, f .powerScaled, f .referenceLost,
   f .gripLimiting, f .exceptionHeld, f .supplyLow⟩

/-- The alerts in the order of their numbers (section 11.2). -/
def alertIds : List AlertId :=
  [.demandLost, .frontDerated, .rearDerated, .frontFaulted, .rearFaulted, .powerScaled, .referenceLost, .gripLimiting,
   .exceptionHeld, .supplyLow]

/-- The number of an alert (section 11.2). -/
def AlertId.number : AlertId → Nat
  | .demandLost => 1
  | .frontDerated => 2
  | .rearDerated => 3
  | .frontFaulted => 4
  | .rearFaulted => 5
  | .powerScaled => 6
  | .referenceLost => 7
  | .gripLimiting => 8
  | .exceptionHeld => 9
  | .supplyLow => 10

/-- The command mailbox of an axle (section 9.4). -/
def commandKind : Axle → OwnKind
  | .front => .frontCommand
  | .rear => .rearCommand

/-- The status stream of an axle (section 2.4). -/
def statusStream : Axle → StreamId
  | .front => .frontStatus
  | .rear => .rearStatus

/-! ## Parameters in force -/

/-- Parameters while none are accepted. No block that reads parameters acts then (R165), so nothing comes of these values. -/
def Params.unset : Params :=
  { ownStation := 0, roles := [], classes := ⟨0, 0, 0, 0, 0, 0⟩, statusPeriod := 0, windows := ⟨0, 0, 0, 0, 0, 0, 0⟩,
    ratio := ⟨0, 0⟩, speedFactor := ⟨0, 0⟩, drivelineSolo := ⟨0, 0⟩, drivelineTow := ⟨0, 0⟩, demandMax := 0,
    bandEdges := [], shareSolo := [], shareTow := [], loadShift := 0, shareMin := 0, shareMax := 0,
    slipSoloNormal := 0, slipSoloLowGrip := 0, slipTowNormal := 0, slipTowLowGrip := 0, cutGain := 0, gripFloor := 0,
    recoveryRate := 0, riseRate := 0, releaseRate := 0, supplyFallRate := 0, reserve := 0, lossAllowance := 0,
    fallbackDischarge := 0, fallbackCharge := 0, stabilityFallback := ⟨0, 0⟩, trackingAbs := 0, trackingRel := 0,
    derateCap := ⟨0, 0⟩, maxPassInterval := 0, ranks := ⟨0, 0, 0, 0, 0, 0, 0, 0, 0, 0⟩, reportThreshold := 0,
    captureMode := .keepFirst, enables := ⟨false, false, false, false, false⟩, sta := ⟨.none, false⟩,
    stb := ⟨.none, false⟩, filterTime := ⟨0, 0⟩ }

/-- The parameters in force (R165). -/
def State.par (s : State) : Params := s.params.getD Params.unset

/-- An axle's driveline limit for a tow state: the DRIVELINE bound (R50) and G_max (R90). -/
def drivelineLimit (p : Params) (tow : Bool) (a : Axle) : Int :=
  if tow then p.drivelineTow.get a else p.drivelineSolo.get a

/-- The tow state: trailer present while the tow stream is LOST, solo while it is UNHEARD, else as the record says (R5). -/
def towState (state : StreamState) (recordPresent : Bool) : Bool :=
  match state with
  | .lost => true
  | .unheard => false
  | .fresh => recordPresent
  | .late => recordPresent

/-- A cell at ±m (R48). -/
def symmetric (m : Int) : Bounds := { ceiling := m, floor := -m }

/-- A stream that is FRESH or LATE, whose record is believed. -/
def StreamState.believed : StreamState → Bool
  | .fresh => true
  | .late => true
  | .unheard => false
  | .lost => false

/-- An axle is in service while it is ACTIVE or DERATED (section 7.2). -/
def AxleState.inService : AxleState → Bool
  | .active => true
  | .derated => true
  | .offline => false
  | .standby => false
  | .faulted => false

/-- An axle that is OFFLINE or FAULTED can take no torque (R134). -/
def AxleState.unable : AxleState → Bool
  | .offline => true
  | .faulted => true
  | .standby => false
  | .active => false
  | .derated => false

/-- The modes that run passes (R3). -/
def Mode.runsPasses : Mode → Bool
  | .driving => true
  | .fading => true
  | .supplyDown => true
  | .start => false
  | .dozing => false
  | .supplyHalted => false
  | .safe => false

/-! ## Counters (R175) -/

/-- A counter rises by 1, saturating at 65 535. -/
def countUp (n : Nat) : Nat := saturatingUp n Config.counterMax

def countDemandClamp (s : State) : State :=
  { s with report.counters.demandClamps := countUp s.report.counters.demandClamps }

def countOverflow (s : State) : State :=
  { s with report.counters.intakeOverflows := countUp s.report.counters.intakeOverflows }

def countBadCheck (s : State) : State :=
  { s with report.counters.badChecks := countUp s.report.counters.badChecks }

def countEchoFault (s : State) : State :=
  { s with report.counters.echoFaults := countUp s.report.counters.echoFaults }

def countSuperseded (s : State) : State :=
  { s with report.counters.superseded := countUp s.report.counters.superseded }

def countConflict (s : State) : State :=
  { s with report.counters.stationConflicts := countUp s.report.counters.stationConflicts }

def countMissedCapture (s : State) : State :=
  { s with report.counters.missedCaptures := countUp s.report.counters.missedCaptures }

def countRejected (s : State) : State :=
  { s with report.counters.rejectedFrames := countUp s.report.counters.rejectedFrames }

/-! ## The exception record (R65, R66) -/

/-- An event reaches the exception record: an EMPTY record stores it, a HELD one counts it (R65). -/
def takeException (e : ExceptionEvent) (s : State) : State :=
  match s.exception with
  | none => { s with exception := some { event := e, further := 0 } }
  | some h => { s with exception := some { h with further := saturatingUp h.further Config.smallCounterMax } }

/-- A release empties the exception record (R66). -/
def releaseExceptionRecord (s : State) : State := { s with exception := none }

/-! ## The delay line (R113) -/

/-- A cleanly transmitted command enters the line at the front; an older entry of the same sequence leaves, and the line
keeps its four newest. -/
def enterDelayLine (e : DelayEntry) (line : List DelayEntry) : List DelayEntry :=
  (e :: line.filter (fun x => x.sequence != e.sequence)).take Config.delayDepth

end Sys2Proof.Machine
end

