-- ==== Sys2Proof/Machine/Flags.lean ====
section
/-! DEFINITION. Everything the part reports that follows from its state: the values STATUS carries (R167), the change flags
(R168), the alert conditions (section 11.2), the leading alert (R171) and the sources of the status lines (R176). -/

namespace Sys2Proof.Machine

/-- The values whose change places a STATUS (R167). -/
def reported (s : State) : Reported :=
  { mode := s.modes.mode, cause := s.modes.cause, link := s.link.state, axles := s.axles.map (·.state),
    supplyLow := s.supply.flag, exceptionHeld := s.exception.isSome, slotOne := s.report.slotOne.isSome,
    slotTwo := s.report.slotTwo.isSome, streams := s.streams.map (·.state) }

/-! ## Change flags (R168) -/

/-- A flag reads 1 when it is SET or CARRIED (R167). -/
def ChangeFlag.bit : ChangeFlag → Bool
  | .clear => false
  | .set => true
  | .carried _ => true

/-- A STATUS placement carries every flag that is SET or CARRIED. -/
def ChangeFlag.carry (n : BitVec 32) : ChangeFlag → ChangeFlag
  | .clear => .clear
  | .set => .carried n
  | .carried _ => .carried n

/-- The clean transmission of placement `q` clears every flag CARRIED by a number not greater than `q`. -/
def ChangeFlag.delivered (q : BitVec 32) : ChangeFlag → ChangeFlag
  | .clear => .clear
  | .set => .set
  | .carried n => if n.toNat ≤ q.toNat then .clear else .carried n

/-- A warm restart turns a CARRIED flag to SET. -/
def ChangeFlag.restarted : ChangeFlag → ChangeFlag
  | .clear => .clear
  | .set => .set
  | .carried _ => .set

/-- The change flags as STATUS word 4 shows them. -/
def flagBits (s : State) : PerStream Bool := s.streams.map fun r => r.flag.bit

/-- The event that found the machine at `before` SET a change flag: a stream changed its state, be it that the event brought the
state back (R168). -/
def flagRaised (before s : State) : Bool :=
  streamIds.any fun i => (s.streams.get i).flag == .set && (before.streams.get i).flag != .set

/-! ## Alerts -/

/-- The condition of an alert (section 11.2). -/
def alertCondition (s : State) : AlertId → Bool
  | .demandLost => s.streams.demand.state == .lost
  | .frontDerated => s.axles.front.state == .derated
  | .rearDerated => s.axles.rear.state == .derated
  | .frontFaulted => s.axles.front.state == .faulted
  | .rearFaulted => s.axles.rear.state == .faulted
  | .powerScaled => decide (Config.powerRunMax ≤ s.report.powerRun)
  | .referenceLost =>
    s.streams.reference.state == .lost || (s.streams.reference.state.believed && !s.records.reference.valid)
  | .gripLimiting => s.report.gripLimiting
  | .exceptionHeld => s.exception.isSome
  | .supplyLow => s.supply.flag

/-- An alert whose condition is true: CLEAR becomes RAISED unless the rank is 0 (R170). -/
def raiseAlert (rank : Nat) (a : AlertState) : AlertState :=
  match a with
  | .clear => if rank = 0 then .clear else .raised
  | .raised => .raised
  | .noted => .noted

/-- The move of an alert whose condition was `was` and is `is` (R170). -/
def moveAlert (was is : Bool) (rank : Nat) (a : AlertState) : AlertState :=
  if was = is then a else if is then raiseAlert rank a else .clear

/-- `a` leads over `b`: the higher rank, and the lower number between equal ranks (R171). `best` runs over the alerts in the
order of their numbers, so an equal rank does not displace it. -/
def betterLead (ranks : PerAlert Nat) (best : Option AlertId) (a : AlertId) : Option AlertId :=
  match best with
  | none => some a
  | some b => if ranks.get b < ranks.get a then some a else some b

/-- The leading alert (R171). -/
def leadingAlert (p : Params) (alerts : PerAlert AlertState) : Option AlertId :=
  (alertIds.filter fun i => alerts.get i == .raised && decide (p.reportThreshold ≤ p.ranks.get i)).foldl
    (betterLead p.ranks) none

/-- How many alerts are in a state. -/
def countAlerts (alerts : PerAlert AlertState) (x : AlertState) : Nat :=
  (alertIds.filter fun i => alerts.get i == x).length

/-! ## Status lines (R176) -/

/-- A line source holds. -/
def sourceHolds (s : State) : LineSource → Bool
  | .none => false
  | .driving => s.modes.mode == .driving
  | .axleImpaired =>
    s.axles.front.state == .derated || s.axles.front.state == .faulted || s.axles.rear.state == .derated ||
      s.axles.rear.state == .faulted
  | .safe => s.modes.mode == .safe
  | .supplyLow => s.supply.flag
  | .alertLeading => s.report.leading.isSome
  | .powerScaled => decide (Config.powerRunMax ≤ s.report.powerRun)
  | .captureHeld => s.report.slotOne.isSome || s.report.slotTwo.isSome

/-- The level of a line, `true` for high, under its routing. -/
def lineLevel (c : LineConfig) (holds : Bool) : Bool := if holds then c.activeHigh else !c.activeHigh

/-- A line after an event that found the machine at `before` and leaves it at `after`: high while no block is accepted, and
moved when its source changes or its routing is taken. -/
def lineAfter (routing : Params → LineConfig) (before after : State) (old : Bool) : Bool :=
  match after.params with
  | none => old
  | some p =>
    let c := routing p
    if before.params.isSome ∧ sourceHolds before c.source = sourceHolds after c.source then old
    else lineLevel c (sourceHolds after c.source)

end Sys2Proof.Machine
end

