-- ==== Sys2Proof/Machine/Wire.lean ====
section
/-! DEFINITION. The drive link bit by bit: the levels of a frame's fields in the order of section 9.1, reading a frame from the
levels of the bus, the phase of the bus (R147), and the judgement of an echo (R153 to R155). -/

namespace Sys2Proof.Machine

/-! ## Levels (R160) -/

/-- Dominant is read as 0 and recessive as 1 (section 9.7). -/
def levelBit : BusLevel → Bool
  | .dominant => false
  | .recessive => true

def levelOf (bit : Bool) : BusLevel := if bit then .recessive else .dominant

/-- The levels of a field, most significant bit first. -/
def fieldLevels {n : Nat} (b : BitVec n) : List BusLevel := (List.range n).map fun i => levelOf (b.getMsbD i)

/-- The number that levels spell, most significant bit first. -/
def levelsValue (levels : List BusLevel) : Nat := levels.foldl (fun v l => 2 * v + (levelBit l).toNat) 0

/-! ## Frames on the wire (R146) -/

/-- A frame as it stands on the wire, part by part in the order of the table of section 9.1. -/
structure WireFrame where
  start : BusLevel
  cls : BitVec 3
  station : BitVec 4
  kind : BitVec 4
  sequence : BitVec 4
  length : BitVec 3
  payload : List Word16
  check : Word16
  endField : List BusLevel
deriving DecidableEq, Repr

/-- The tag word: class × 256 + station × 16 + kind (R146). -/
def tagWord (cls : BitVec 3) (station kind : BitVec 4) : Word16 := 0#5 ++ cls ++ station ++ kind

/-- The levels of a tag: class, station, kind (section 9.1). -/
def tagLevels (cls : BitVec 3) (station kind : BitVec 4) : List BusLevel :=
  fieldLevels cls ++ fieldLevels station ++ fieldLevels kind

/-- The levels of a frame, in wire order: start, tag, sequence, length code, payload with word 1 first, check and end. -/
def WireFrame.levels (f : WireFrame) : List BusLevel :=
  f.start :: (tagLevels f.cls f.station f.kind ++ fieldLevels f.sequence ++ fieldLevels f.length ++
    f.payload.flatMap (fun w => fieldLevels w) ++ fieldLevels f.check ++ f.endField)

/-- A field of `n` bits at the front of the levels, with the levels that follow; none where the frame is cut short. -/
def takeField (n : Nat) (levels : List BusLevel) : Option (BitVec n × List BusLevel) :=
  if n ≤ levels.length then some (BitVec.ofNat n (levelsValue (levels.take n)), levels.drop n) else none

/-- `n` words at the front of the levels. -/
def takeWords : Nat → List BusLevel → Option (List Word16 × List BusLevel)
  | 0, levels => some ([], levels)
  | n + 1, levels => do
    let (w, levels) ← takeField 16 levels
    let (ws, levels) ← takeWords n levels
    return (w :: ws, levels)

/-- The frame that levels hold, with as many payload words as its length code says; none where it is cut short. -/
def readFrame : List BusLevel → Option WireFrame
  | [] => none
  | start :: levels => do
    let (cls, levels) ← takeField 3 levels
    let (station, levels) ← takeField 4 levels
    let (kind, levels) ← takeField 4 levels
    let (sequence, levels) ← takeField 4 levels
    let (length, levels) ← takeField 3 levels
    let (payload, levels) ← takeWords length.toNat levels
    let (check, levels) ← takeField 16 levels
    let (_, _) ← takeField Config.endBits levels
    return { start := start, cls := cls, station := station, kind := kind, sequence := sequence, length := length,
             payload := payload, check := check, endField := levels.take Config.endBits }

/-! ## The bus (R147) -/

/-- The phase of the bus after one more level: 8 recessive bit times after a frame it is free, and a dominant level on it is the
start of a frame. A frame keeps it busy to its end, which FRAME_RECEPTION or CLEAN_TRANSMISSION tells and no level does: the bits
of a frame are recessive too. -/
def BusPhase.after (b : BusPhase) (l : BusLevel) : BusPhase :=
  match b, l with
  | .busy, _ => .busy
  | .aborted, _ => .aborted
  | .gap _, .dominant => .busy
  | .gap n, .recessive => if Config.gapBits ≤ n + 1 then .free else .gap (n + 1)
  | .free, .dominant => .busy
  | .free, .recessive => .free

/-- The phase of the bus after some levels. -/
def BusPhase.reads (b : BusPhase) (levels : List BusLevel) : BusPhase := levels.foldl BusPhase.after b

/-- What every station reads while two stations drive: dominant where either drives it (chapter 9). -/
def drivenBy (x y : BusLevel) : BusLevel := if x = .dominant ∨ y = .dominant then .dominant else .recessive

/-- What every station reads while two that started together arbitrate: at the first bit on which they differ the one that drives
recessive reads dominant and stops, and the other goes on alone (R147, R154). -/
def arbitrate : List BusLevel → List BusLevel → List BusLevel
  | [], ys => ys
  | xs, [] => xs
  | x :: xs, y :: ys => drivenBy x y :: (if x = y then arbitrate xs ys else if x = .dominant then xs else ys)

/-! ## The echo (R153 to R155) -/

/-- What the bits read back say of a transmission. -/
inductive EchoResult where
  /-- every bit was read back as sent, to the last end bit -/
  | clean
  /-- the first difference is a dominant bit read where a recessive tag bit was sent -/
  | lost
  /-- the first difference is any other -/
  | mismatch
  /-- no difference so far -/
  | unfinished
deriving DecidableEq, Repr

/-- Bit `k` of a frame, counting its start bit as 0, is a tag bit (section 9.1). -/
def isTagBit (k : Nat) : Bool := decide (1 ≤ k) && decide (k ≤ 11)

/-- The judgement of an echo whose bits from number `k` on are compared with the bits sent. -/
def judgeFrom (k : Nat) : List BusLevel → List BusLevel → EchoResult
  | [], _ => .clean
  | _ :: _, [] => .unfinished
  | x :: sent, y :: echo =>
    if x = y then judgeFrom (k + 1) sent echo
    else if isTagBit k ∧ x = .recessive then .lost
    else .mismatch

/-- The judgement of an echo against the bits sent, from the start bit on (R153, R154, R155). -/
def judgeEcho (sent echo : List BusLevel) : EchoResult := judgeFrom 0 sent echo

end Sys2Proof.Machine
end

