-- ==== Sys2Proof/Machine/Formats.lean ====
section
/-! DEFINITION. The layouts of section 9.7 that the part sends, the check of a frame and its validity (R146, R160). -/

namespace Sys2Proof.Machine

/-! ## Codes (section 9.7) -/

/-- The kind number of an own frame. -/
def OwnKind.code : OwnKind → BitVec 4
  | .frontCommand => 1
  | .rearCommand => 2
  | .splitReport => 3
  | .alert => 4
  | .status => 5
  | .reply => 6

/-- The mode codes of STATUS. START has none and no STATUS of START is ever sent (log entry 10). -/
def Mode.code : Mode → BitVec 4
  | .start => 0
  | .dozing => 1
  | .driving => 2
  | .fading => 3
  | .supplyDown => 4
  | .supplyHalted => 5
  | .safe => 6

def SafeCause.code : SafeCause → BitVec 2
  | .none => 0
  | .parameter => 1
  | .stationConflict => 2

def LinkState.code : LinkState → BitVec 2
  | .listen => 0
  | .active => 1
  | .muted => 2

def AxleState.code : AxleState → BitVec 3
  | .offline => 0
  | .standby => 1
  | .active => 2
  | .derated => 3
  | .faulted => 4

def StreamState.code : StreamState → BitVec 2
  | .unheard => 0
  | .fresh => 1
  | .late => 2
  | .lost => 3

def GripState.code : GripState → BitVec 2
  | .gripping => 0
  | .slipping => 1
  | .recovering => 2

def Row.code : Row → BitVec 4
  | .driveline => 1
  | .inverter => 2
  | .axle => 3
  | .stability => 4
  | .grip => 5
  | .supply => 6

def Governor.code : Governor → BitVec 4
  | .none => 0
  | .row r => r.code
  | .power => 7
  | .ramp => 8

def StateCode.code : StateCode → BitVec 2
  | .drive => 1
  | .fade => 2
  | .supply => 3

def ReplyCode.code : ReplyCode → BitVec 4
  | .data => 1
  | .empty => 2
  | .released => 3
  | .unknown => 4

def TriggerSource.code : TriggerSource → BitVec 3
  | .frontFaulted => 1
  | .rearFaulted => 2
  | .driveline => 3
  | .supplyDown => 4
  | .mark => 5
  | .demandLost => 6

def streamNumber : StreamId → Nat
  | .demand => 1
  | .frontStatus => 2
  | .rearStatus => 3
  | .power => 4
  | .reference => 5
  | .stability => 6
  | .tow => 7

/-- The role numbers 1 to 9, in recognition table order (section 11.4). -/
def Role.number : Role → Nat
  | .stream i => streamNumber i
  | .query => 8
  | .alertSeen => 9

def bit (b : Bool) : BitVec 1 := BitVec.ofBool b

/-- The word of a signed quantity, two's complement (R160). -/
def intWord (v : Int) : Word16 := BitVec.ofInt 16 v

/-- The word of an unsigned quantity. -/
def natWord (v : Nat) : Word16 := BitVec.ofNat 16 v

def highWord (v : BitVec 32) : Word16 := v.extractLsb' 16 16

def lowWord (v : BitVec 32) : Word16 := v.extractLsb' 0 16

/-- The seven stream states, two bits each, DEMAND highest (STATUS word 3). -/
def streamStatesWord (p : PerStream StreamState) : Word16 :=
  0#2 ++ p.demand.code ++ p.frontStatus.code ++ p.rearStatus.code ++ p.power.code ++ p.reference.code ++
    p.stability.code ++ p.tow.code

/-! ## Payloads -/

/-- AXLE COMMAND, two words. -/
def commandWords (tenths : Int) (code : StateCode) (bound enable : Bool) : List Word16 :=
  [intWord tenths, (0#6 ++ code.code ++ 0#6 ++ bit bound ++ bit enable : BitVec 16)]

/-- The 96 payload bits of a SPLIT REPORT. -/
def splitReportBits (demand : Int) (final : PerAxle Int) (shortfall share factor : Int) (governor : PerAxle Governor)
    (grip : PerAxle GripState) : BitVec 96 :=
  BitVec.ofInt 15 demand ++ BitVec.ofInt 15 final.front ++ BitVec.ofInt 15 final.rear ++ BitVec.ofInt 16 shortfall ++
    BitVec.ofInt 10 share ++ BitVec.ofInt 13 factor ++ governor.front.code ++ governor.rear.code ++ grip.front.code ++
    grip.rear.code

/-- 96 payload bits as six words, the highest sent first. -/
def sixWords (b : BitVec 96) : List Word16 :=
  [b.extractLsb' 80 16, b.extractLsb' 64 16, b.extractLsb' 48 16, b.extractLsb' 32 16, b.extractLsb' 16 16,
   b.extractLsb' 0 16]

/-- STATUS, four words. -/
def statusWords (f : Reported) (attempts : Nat) (flags : PerStream Bool) : List Word16 :=
  [(f.mode.code ++ f.cause.code ++ f.link.code ++ f.axles.front.code ++ f.axles.rear.code ++ bit f.supplyLow ++
      bit f.exceptionHeld : BitVec 16),
   (0#6 ++ BitVec.ofNat 2 attempts ++ 0#6 ++ bit f.slotOne ++ bit f.slotTwo : BitVec 16),
   streamStatesWord f.streams,
   (0#9 ++ bit flags.demand ++ bit flags.frontStatus ++ bit flags.rearStatus ++ bit flags.power ++ bit flags.reference ++
      bit flags.stability ++ bit flags.tow : BitVec 16)]

/-- ALERT, two words. -/
def alertWords (number : Nat) (rank : BitVec 8) (raised noted : Nat) : List Word16 :=
  [(BitVec.ofNat 8 number ++ rank : BitVec 16), (BitVec.ofNat 8 raised ++ BitVec.ofNat 8 noted : BitVec 16)]

/-- REPLY: two words and the body. -/
def replyWords (code : ReplyCode) (index total refused : Nat) (body : List Word16) : List Word16 :=
  (code.code ++ BitVec.ofNat 4 index ++ BitVec.ofNat 4 total ++ 0#4 : BitVec 16) :: natWord refused :: body

/-- The payload words of a frame the part sends. -/
def Content.words : Content → List Word16
  | .command tenths code bound enable => commandWords tenths code bound enable
  | .splitReport d f sh s k g st => sixWords (splitReportBits d f sh s k g st)
  | .alert number rank raised noted => alertWords number rank raised noted
  | .status _ f attempts flags => statusWords f attempts flags
  | .reply code index total refused body => replyWords code index total refused body

/-! ## The envelope and its check (R146) -/

/-- The sequence-and-length word: sequence × 8 + length code. -/
def sequenceWord (sequence : BitVec 4) (length : BitVec 3) : Word16 := 0#9 ++ sequence ++ length

/-- The sum of words modulo 65 536. -/
def wordSum (ws : List Word16) : Word16 := ws.foldl (· + ·) 0

/-- The check of a frame: the complement of the sum of its tag word, its sequence-and-length word and its payload words. -/
def checkOf (cls : BitVec 3) (station kind sequence : BitVec 4) (length : BitVec 3) (payload : List Word16) : Word16 :=
  ~~~ wordSum (tagWord cls station kind :: sequenceWord sequence length :: payload)

/-- A received frame is valid (R146). -/
def validFrame (f : WireFrame) : Bool :=
  (f.start == .dominant) && decide (1 ≤ f.length.toNat) && decide (f.length.toNat ≤ 6) &&
    (f.payload.length == f.length.toNat) &&
    (f.check == checkOf f.cls f.station f.kind f.sequence f.length f.payload) &&
    (f.endField == List.replicate Config.endBits .recessive)

/-- An own frame as the controller drives it on the wire under an identity (R146, section 9.4). -/
def OutFrame.onWire (id : Identity) (f : OutFrame) : WireFrame :=
  let payload := f.content.words
  let cls := id.classes.get f.kind
  let length := BitVec.ofNat 3 payload.length
  { start := .dominant, cls := cls, station := id.station, kind := f.kind.code, sequence := f.sequence, length := length,
    payload := payload, check := checkOf cls id.station f.kind.code f.sequence length payload,
    endField := List.replicate Config.endBits .recessive }

/-- The tag of an own kind under an identity, read as one number (section 9.1). -/
def ownTag (id : Identity) (k : OwnKind) : Nat := (tagWord (id.classes.get k) id.station k.code).toNat

end Sys2Proof.Machine
end

