-- ==== Sys2Proof/Machine/Link.lean ====
section
/-! DEFINITION. The link controller's mailboxes, offering, muting and quiet phase (chapter 9). -/

namespace Sys2Proof.Machine

/-- The own kinds that are AXLE COMMANDs, whose replacement is counted (R110, R151). -/
def OwnKind.isCommand : OwnKind → Bool
  | .frontCommand => true
  | .rearCommand => true
  | .splitReport => false
  | .alert => false
  | .status => false
  | .reply => false

/-- A frame that is discarded for a newer one of its kind: an AXLE COMMAND is counted as superseded (R110, R151, R154). -/
def discardOlder (k : OwnKind) (s : State) : State := if k.isCommand then countSuperseded s else s

/-- The link controller refuses a placement in LISTEN, and while the quiet mark is set unless the placement is made within the
mode change that set the mark (`entering`) (R151, R158). -/
def refusesPlacement (entering : Bool) (s : State) : Bool := s.link.state == .listen || (s.link.quiet && !entering)

/-- Writes a mailbox. -/
def setMailbox (k : OwnKind) (f : Option OutFrame) (s : State) : State :=
  { s with link.mailboxes := s.link.mailboxes.set k f }

/-- A placement that the controller takes: the frame waits in its mailbox and replaces an older one (R151). -/
def takePlacement (f : OutFrame) (s : State) : State :=
  setMailbox f.kind (some f) (if (s.link.mailboxes.get f.kind).isSome then discardOlder f.kind s else s)

/-- A producer places a frame (R151). -/
def placeFrame (entering : Bool) (f : OutFrame) (s : State) : State :=
  if refusesPlacement entering s then s else takePlacement f s

/-- The frame in transmission returns to its mailbox, or is dropped when a newer frame waits there (R154, R155). -/
def returnFrame (f : OutFrame) (s : State) : State :=
  if (s.link.mailboxes.get f.kind).isSome then discardOlder f.kind s else setMailbox f.kind (some f) s

/-- The part runs on the fixed identity of SAFE with cause PARAMETER (R163). -/
def parameterFailure (s : State) : Bool := s.modes.mode == .safe && s.modes.cause == .parameter

/-- The gate of a mailbox is open: the command mailboxes by the accepting flags; with cause PARAMETER only STATUS is offered
(R152, R163). -/
def gateOpen (s : State) (k : OwnKind) : Bool :=
  if parameterFailure s then k == .status
  else
    match k with
    | .frontCommand => s.records.status.front.accepting
    | .rearCommand => s.records.status.rear.accepting
    | .splitReport => true
    | .alert => true
    | .status => true
    | .reply => true

/-- The non-empty mailboxes whose gate is open. -/
def openMail (s : State) : List OwnKind := ownKinds.filter fun k => (s.link.mailboxes.get k).isSome && gateOpen s k

/-- The kind of lowest tag among some kinds. -/
def lowestTag (id : Identity) (ks : List OwnKind) : Option OwnKind :=
  ks.foldl (fun best k =>
    match best with
    | none => some k
    | some b => if ownTag id k < ownTag id b then some k else some b) none

/-- The frame of lowest tag in an open mailbox is taken out and becomes the frame in transmission (R152). -/
def startLowest (s : State) : State :=
  match s.link.identity with
  | none => s
  | some id =>
    match lowestTag id (openMail s) with
    | none => s
    | some k => { setMailbox k none s with link.transmitting := s.link.mailboxes.get k, link.bus := .busy }

/-- The quiet phase ends when the mark is set in ACTIVE, no frame is in transmission and no open mailbox holds one (R158). -/
def quietPhaseOver (s : State) : Bool :=
  s.link.quiet && s.link.state == .active && s.link.transmitting.isNone && (openMail s).isEmpty

/-- The check for the end of the quiet phase: the mailboxes are emptied, the mark is cleared and the state is LISTEN. -/
def endQuietPhase (s : State) : State :=
  if quietPhaseOver s then { s with link.mailboxes := noMail, link.quiet := false, link.state := .listen } else s

/-- A REPLY frame is lost: the reply is abandoned and the service is IDLE; the refused count is kept (R174). -/
def abandonReply (s : State) : State := { s with report.query.busy := none }

/-- Entry into MUTED: the mailboxes are emptied and the clean-run count is 0; a REPLY that waited is lost (R156, R174). -/
def enterMuted (s : State) : State :=
  let s1 := if s.link.mailboxes.reply.isSome then abandonReply s else s
  { s1 with link.state := .muted, link.mailboxes := noMail, link.cleanRun := 0 }

/-- The end of MUTED: to ACTIVE, or, with the quiet mark set, to LISTEN with the mailboxes emptied (R157). -/
def leaveMuted (s : State) : State :=
  if s.link.quiet then
    { s with link.state := .listen, link.quiet := false, link.mailboxes := noMail, link.echoCount := 0, link.cleanRun := 0 }
  else { s with link.state := .active, link.echoCount := 0, link.cleanRun := 0 }

/-- The controller leaves LISTEN and its quiet mark is cleared (R159); waiting frames are kept. -/
def leaveListen (s : State) : State :=
  { s with link.quiet := false, link.state := if s.link.state = .listen then .active else s.link.state }

/-- The bus once the part stops driving it: what remains of its own frame, where it was sending one, is still on it (R148,
R155). -/
def LinkController.busReleased (l : LinkController) : BusPhase := if l.transmitting.isSome then .aborted else l.bus

/-- The link controller's part of a warm restart: every mailbox is emptied and any transmission is stopped at once (R148). -/
def restartLink (s : State) : State :=
  leaveListen { s with link.bus := s.link.busReleased, link.mailboxes := noMail, link.transmitting := none }

/-- The own station, where one has been taken. -/
def ownStation (s : State) : Option (BitVec 4) := s.link.identity.map (·.station)

/-- The judgement of the bits read back against the frame in transmission, where there is one (R153 to R155). -/
def echoOf (s : State) (echo : List BusLevel) : Option EchoResult :=
  match s.link.transmitting, s.link.identity with
  | some o, some id => some (judgeEcho (o.onWire id).levels echo)
  | _, _ => none

/-- The received bits are those of the frame in transmission: its echo, and no received frame (R146). -/
def isOwnEcho (levels : List BusLevel) (s : State) : Bool :=
  echoOf s levels == some .clean || echoOf s levels == some .unfinished

end Sys2Proof.Machine
end

