-- ==== Sys2Proof/Machine/Report.lean ====
section
/-! DEFINITION. The report unit: STATUS and ALERT placements, captures, and the query service (chapter 11). -/

namespace Sys2Proof.Machine

/-! ## STATUS (R167, R168, R139) -/

/-- The reported mark after STATUS placement `n`: a placement that carries the flag set while the judgement is OK sets a clear
mark (R139). -/
def markAfterPlacement (n : BitVec 32) (m : SupplyMonitor) : SupplyMonitor :=
  if m.flag ∧ m.judgement = .ok ∧ m.reportedMark = none then { m with reportedMark := some n } else m

/-- The STATUS frame that the next placement carries. -/
def statusFrame (s : State) : OutFrame :=
  { kind := .status, sequence := Config.freeSequence s.draws
    content := .status (s.report.placement + 1) (reported s) s.port.attempts (flagBits s) }

/-- What a STATUS placement changes in the report unit, whether or not the link controller takes the frame: its number, the
carried flags and the reported mark (R139, R167, R168). -/
def numberStatus (s : State) : State :=
  let n := s.report.placement + 1
  { s with
    report.placement := n
    streams := s.streams.map fun r => { r with flag := r.flag.carry n }
    supply := markAfterPlacement n s.supply
    draws := s.draws + 1 }

/-- The report unit places STATUS. -/
def placeStatus (entering : Bool) (s : State) : State := placeFrame entering (statusFrame s) (numberStatus s)

/-- The clean transmission of STATUS placement `q` is reported (R139, R168). -/
def statusDelivered (q : BitVec 32) (s : State) : State :=
  let s1 := { s with streams := s.streams.map fun r => { r with flag := r.flag.delivered q } }
  match s.supply.reportedMark with
  | none => s1
  | some m =>
    if s.supply.flag ∧ m.toNat ≤ q.toNat then { s1 with supply.flag := false, supply.reportedMark := none } else s1

/-! ## Alerts (R169 to R171) -/

/-- The alerts after an event that found the machine at `before`: each whose condition changed is moved (R170). -/
def weighAlerts (before s : State) : State :=
  { s with report.alerts := PerAlert.of fun i =>
      moveAlert (alertCondition before i) (alertCondition s i) (s.par.ranks.get i) (s.report.alerts.get i) }

/-- Every condition is weighed afresh, as at acceptance (R170). -/
def weighAllAlerts (s : State) : State :=
  { s with report.alerts := PerAlert.of fun i =>
      if alertCondition s i then raiseAlert (s.par.ranks.get i) (s.report.alerts.get i) else .clear }

/-- The alerts at a warm restart: SUPPLY LOW keeps its state while the flag is set; every other alert becomes CLEAR and is
raised afresh where its condition is true after the restart (R170). -/
def restartAlerts (s : State) : State :=
  { s with report.alerts := PerAlert.of fun i =>
      if i = .supplyLow ∧ s.supply.flag then s.report.alerts.get i
      else if alertCondition s i then raiseAlert (s.par.ranks.get i) .clear
      else .clear }

/-- The ALERT frame for a leading alert (R171). The rank of no alert is a free value (log entry 6). -/
def alertFrame (s : State) (leading : Option AlertId) : OutFrame :=
  { kind := .alert, sequence := Config.freeSequence s.draws
    content :=
      .alert ((leading.map (·.number)).getD 0)
        (match leading with
          | none => Config.freeRank s.draws
          | some i => BitVec.ofNat 8 (s.par.ranks.get i))
        (countAlerts s.report.alerts .raised) (countAlerts s.report.alerts .noted) }

/-- The leading alert is found again when the event changed an alert's state; where it differs an ALERT is placed (R171). -/
def findLeading (entering : Bool) (before s : State) : State :=
  if before.report.alerts = s.report.alerts then s
  else
    let l := leadingAlert s.par s.report.alerts
    if l = s.report.leading then s
    else placeFrame entering (alertFrame s l) { s with report.leading := l, draws := s.draws + 1 }

/-! ## Captures (R172, R173) -/

/-- The enable of a trigger source (R172). -/
def triggerEnabled (p : Params) : TriggerSource → Bool
  | .frontFaulted => p.enables.axleFaulted
  | .rearFaulted => p.enables.axleFaulted
  | .driveline => p.enables.driveline
  | .supplyDown => p.enables.supplyDown
  | .mark => p.enables.mark
  | .demandLost => p.enables.demandLost

/-- The contents a filling gives a slot (R173). -/
def captureOf (r : CaptureRequest) (s : State) : Capture :=
  { source := r.source, time := r.time, merged := r.merged, record := s.engine.result, mode := s.modes.mode,
    axles := s.axles.map (·.state), streams := s.streams.map (·.state) }

def State.slot (s : State) : SlotId → Option Capture
  | .one => s.report.slotOne
  | .two => s.report.slotTwo

/-- Fills a slot, which is then the newest. -/
def fillSlot (i : SlotId) (c : Capture) (s : State) : State :=
  match i with
  | .one => { s with report.slotOne := some c, report.newestSlot := .one }
  | .two => { s with report.slotTwo := some c, report.newestSlot := .two }

/-- The slot a filling takes: the lower-numbered FREE one, or in KEEP LATEST the one filled longer ago (R173). -/
def slotToFill (s : State) : Option SlotId :=
  if s.report.slotOne.isNone then some .one
  else if s.report.slotTwo.isNone then some .two
  else
    match s.par.captureMode with
    | .keepFirst => none
    | .keepLatest => some (match s.report.newestSlot with | .one => .two | .two => .one)

/-- A waiting capture request is filled, or dropped as a missed capture (R173). -/
def fillRequest (s : State) : State :=
  match s.report.request with
  | none => s
  | some r =>
    match slotToFill s with
    | none => countMissedCapture { s with report.request := none }
    | some i => fillSlot i (captureOf r s) { s with report.request := none }

/-- A mode in which a waiting request does not wait for a pass end (R172). -/
def Mode.fillsAtOnce (m : Mode) : Bool := !m.runsPasses

/-- With no pass in flight and a mode that runs none, a waiting request is filled (R172). -/
def fillIfStill (s : State) : State :=
  if s.modes.mode.fillsAtOnce && s.engine.flight.isNone then fillRequest s else s

/-- A trigger sets the capture request, or raises the merged count of a waiting one (R172). -/
def setRequest (src : TriggerSource) (s : State) : State :=
  match s.report.request with
  | none => { s with report.request := some { source := src, time := s.now, merged := 0 } }
  | some r =>
    { s with report.request := some { r with merged := saturatingUp r.merged Config.smallCounterMax } }

/-- A capture trigger is taken (R172). -/
def takeTrigger (src : TriggerSource) (s : State) : State :=
  if triggerEnabled s.par src then fillIfStill (setRequest src s) else s

/-- A release makes a slot FREE (R173). -/
def releaseSlot (i : SlotId) (s : State) : State :=
  match i with
  | .one => { s with report.slotOne := none }
  | .two => { s with report.slotTwo := none }

/-! ## Queries and replies (R174) -/

/-- The slot that a query's argument names. -/
def slotOfArgument (argument : Word16) : Option SlotId :=
  if argument = 1 then some .one else if argument = 2 then some .two else none

/-- The stream that a query's argument names. -/
def streamOfArgument (argument : Word16) : Option StreamId :=
  match argument.toNat with
  | 1 => some .demand
  | 2 => some .frontStatus
  | 3 => some .rearStatus
  | 4 => some .power
  | 5 => some .reference
  | 6 => some .stability
  | 7 => some .tow
  | _ => none

/-- The six DATA bodies of a capture (section 11.4). -/
def captureBodies (c : Capture) : List (List Word16) :=
  let r := c.record
  [[(c.mode.code ++ r.gripState.front.code ++ r.gripState.rear.code ++ BitVec.ofNat 8 c.merged : BitVec 16),
      highWord c.time, lowWord c.time, highWord r.passNumber],
   [lowWord r.passNumber,
      (c.axles.front.code ++ c.axles.rear.code ++ BitVec.ofInt 10 r.share : BitVec 16),
      streamStatesWord c.streams, intWord r.demand],
   [intWord r.windows.front.floor, intWord r.windows.front.ceiling, intWord r.windows.rear.floor,
      intWord r.windows.rear.ceiling],
   [intWord r.scaled.front, intWord r.scaled.rear, intWord r.final.front, intWord r.final.rear],
   [intWord r.gripCeiling.front, intWord r.gripCeiling.rear,
      (c.source.code ++ BitVec.ofInt 13 r.factor : BitVec 16), intWord r.shortfall],
   [(0#8 ++ r.governor.front.code ++ r.governor.rear.code : BitVec 16), 0, 0, 0]]

/-- The axle code of exception frame 1. -/
def axleCode : Axle → BitVec 4
  | .front => 1
  | .rear => 2

/-- The two DATA bodies of a HELD exception record. A DRIVELINE event has no field index: that word of frame 1 is a free value
(log entry 7). -/
def exceptionBodies (draw : Nat) (h : HeldException) : List (List Word16) :=
  match h.event with
  | .driveline a t n pre limit =>
    [[(0#1 ++ 0#3 ++ axleCode a ++ BitVec.ofNat 8 h.further : BitVec 16), highWord t, lowWord t,
        Config.freeFieldIndex draw],
     [highWord n, lowWord n, intWord pre, intWord limit]]
  | .reject r t i raw =>
    [[(1#1 ++ 0#3 ++ BitVec.ofNat 4 r.number ++ BitVec.ofNat 8 h.further : BitVec 16), highWord t, lowWord t, natWord i],
     [raw, 0, 0, 0]]

/-- The two DATA bodies of the counters. -/
def counterBodies (c : Counters) : List (List Word16) :=
  [[natWord c.demandClamps, natWord c.intakeOverflows, natWord c.badChecks, natWord c.echoFaults],
   [natWord c.superseded, natWord c.stationConflicts, natWord c.missedCaptures, natWord c.rejectedFrames]]

/-- The DATA body of a stream's counts. -/
def streamCountBodies (r : StreamRecord) : List (List Word16) :=
  [[natWord r.repeats, natWord r.malformed, highWord r.lastArrival, lowWord r.lastArrival]]

/-- A reply of one frame with no body. -/
def bareReply (code : ReplyCode) : Reply := { code := code, total := 1, bodies := [[]] }

/-- A DATA reply. -/
def dataReply (bodies : List (List Word16)) : Reply := { code := .data, total := bodies.length, bodies := bodies }

/-- The REPLY frame that sends the first body not yet sent cleanly. -/
def replyFrame (s : State) (r : Reply) (body : List Word16) : OutFrame :=
  { kind := .reply, sequence := Config.freeSequence s.draws
    content := .reply r.code (r.total + 1 - r.bodies.length) r.total s.report.query.refused body }

/-- The service sends the next frame of a reply: it is placed and the refused count it carries is set to 0, or the placement is
refused and the reply is abandoned with the count kept; after the last frame the service is IDLE (R174). -/
def sendReply (r : Reply) (s : State) : State :=
  match r.bodies with
  | [] => abandonReply s
  | body :: _ =>
    if refusesPlacement false s then abandonReply { s with draws := s.draws + 1 }
    else
      takePlacement (replyFrame s r body)
        { s with report.query := { busy := some r, refused := 0 }, draws := s.draws + 1 }

/-- A query finds the service BUSY and is refused, or IDLE and is served: `effected` is the state with its release carried out,
and `answer` its reply (R174). No query is admitted while the recognition table is empty (R163). -/
def serveQuery (answer : Reply) (effected : State) (s : State) : State :=
  if s.recognition.isEmpty then s
  else
    match s.report.query.busy with
    | some _ => { s with report.query.refused := countUp s.report.query.refused }
    | none => sendReply answer effected

/-- READ CAPTURE (kind 1). -/
def queryReadCapture (argument : Word16) (s : State) : State :=
  match slotOfArgument argument with
  | none => serveQuery (bareReply .unknown) s s
  | some i =>
    match s.slot i with
    | none => serveQuery (bareReply .empty) s s
    | some c => serveQuery (dataReply (captureBodies c)) s s

/-- RELEASE CAPTURE (kind 2). -/
def queryReleaseCapture (argument : Word16) (s : State) : State :=
  match slotOfArgument argument with
  | none => serveQuery (bareReply .unknown) s s
  | some i => serveQuery (bareReply .released) (releaseSlot i s) s

/-- READ EXCEPTION (kind 3). -/
def queryReadException (s : State) : State :=
  match s.exception with
  | none => serveQuery (bareReply .empty) s s
  | some h => serveQuery (dataReply (exceptionBodies s.draws h)) s s

/-- RELEASE EXCEPTION (kind 4). -/
def queryReleaseException (s : State) : State := serveQuery (bareReply .released) (releaseExceptionRecord s) s

/-- READ COUNTERS (kind 5). -/
def queryReadCounters (s : State) : State := serveQuery (dataReply (counterBodies s.report.counters)) s s

/-- READ STREAM COUNTS (kind 6). -/
def queryReadStreamCounts (argument : Word16) (s : State) : State :=
  match streamOfArgument argument with
  | none => serveQuery (bareReply .unknown) s s
  | some i => serveQuery (dataReply (streamCountBodies (s.streams.get i))) s s

/-- A query handed on by the decoder (R46, R174). -/
def handQuery (kind argument : Word16) (s : State) : State :=
  match kind.toNat with
  | 1 => queryReadCapture argument s
  | 2 => queryReleaseCapture argument s
  | 3 => queryReadException s
  | 4 => queryReleaseException s
  | 5 => queryReadCounters s
  | 6 => queryReadStreamCounts argument s
  | _ => serveQuery (bareReply .unknown) s s

/-- The alert of a number, 1 to 10. -/
def alertOfNumber (n : Nat) : Option AlertId := alertIds.find? fun i => i.number == n

/-- An ALERT SEEN moves a RAISED alert to NOTED (R170). -/
def noteAlert (number : Word16) (s : State) : State :=
  match alertOfNumber number.toNat with
  | none => s
  | some i =>
    { s with report.alerts := PerAlert.of fun j =>
        if j = i ∧ s.report.alerts.get i = .raised then .noted else s.report.alerts.get j }

/-- The clean transmission of a REPLY is reported: the next frame is placed, or the service becomes IDLE (R174). -/
def replyDelivered (s : State) : State :=
  match s.report.query.busy with
  | none => s
  | some r => sendReply { r with bodies := r.bodies.tail } s

end Sys2Proof.Machine
end

