-- ==== Sys2Proof/Machine/Stages.lean ====
section
/-! DEFINITION. The values that pass from stage to stage inside a split pass (section 1.4). They are no state of the part: a
pass computes them from its snapshot and hands its results on at its end (R8). -/

namespace Sys2Proof.Machine

/-- The bound a present cell puts on an axle, with its row (R14). -/
structure RowBound where
  row : Row
  bounds : Bounds
deriving DecidableEq, Repr

/-- The edge rows of a window (R14, R63). -/
structure EdgeRows where
  ceiling : Row
  floor : Row
deriving DecidableEq, Repr

/-- A cut of stage S7 (R20): the axle, the value before the clamp, the edge that cut it and that edge's row. -/
structure Cut where
  axle : Axle
  preClip : Int
  limit : Int
  row : Row
deriving DecidableEq, Repr

/-- What stage S7 yields: T_f2 and T_r2 and the cuts in clamp order (R18 to R20). -/
structure Transfer where
  torque : PerAxle Int
  cuts : List Cut
deriving DecidableEq, Repr

/-- What a pass hands on at its end. -/
structure PassOut where
  grip : PerAxle GripRegulator
  supplyCeiling : PerAxle Int
  cuts : List Cut
  record : PassRecord
deriving DecidableEq, Repr

end Sys2Proof.Machine
end

