-- ==== Sys2Proof/Machine/Grip.lean ====
section
/-! DEFINITION. Stage S3: axle speeds, the reference speed, slip and the update of a grip regulator (chapter 5, R67). -/

namespace Sys2Proof.Machine

/-- The axle speed of an axle: trunc(rpm × K / 65 536), clamped to ±25 000 (R67). -/
def axleSpeed (p : Params) (sn : Snapshot) (a : Axle) : Int :=
  clampTo (-25000) 25000 (truncDiv ((sn.status.get a).speed * p.speedFactor.get a) 65536)

/-- An axle is measured when its status stream in the snapshot is FRESH or LATE (R85). -/
def measured (sn : Snapshot) (a : Axle) : Bool := (sn.statusState.get a).believed

/-- The degraded reference (R85). -/
def degradedReference (p : Params) (sn : Snapshot) : Int :=
  let vf := axleSpeed p sn .front
  let vr := axleSpeed p sn .rear
  match measured sn .front, measured sn .rear with
  | true, true => if magnitude vr < magnitude vf then vr else vf
  | true, false => vf
  | false, true => vr
  | false, false => 0

/-- The reference speed of the pass (R84). -/
def referenceSpeed (p : Params) (sn : Snapshot) : Int :=
  if sn.referenceState.believed && sn.reference.valid then sn.reference.speed else degradedReference p sn

/-- The slip of an axle, in per-mille (R87). -/
def slip (va vref : Int) : Int := clampTo (-1000) 1000 (truncDiv ((va - vref) * 1000) (max (magnitude vref) 300))

/-- The signed slip: slip taken in the direction of the axle's torque (R88). -/
def signedSlip (lambda previous demand : Int) : Int :=
  if 0 < previous ∨ (previous = 0 ∧ 0 ≤ demand) then lambda else -lambda

/-- The tow state of the pass (R5). -/
def passTow (sn : Snapshot) : Bool := towState sn.towState sn.towPresent

/-- The profile handed on by stage S2 (R12). -/
def passProfile (sn : Snapshot) : Profile :=
  if sn.demandState.believed then sn.demand.profile else .normal

/-- The target slip of the pass (R89). -/
def targetSlip (p : Params) (tow : Bool) (profile : Profile) : Int :=
  match tow, profile with
  | false, .normal => p.slipSoloNormal
  | false, .lowGrip => p.slipSoloLowGrip
  | true, .normal => p.slipTowNormal
  | true, .lowGrip => p.slipTowLowGrip

/-- The prepared ceiling: an unset G and a G above G_max become G_max (R90). -/
def prepareGrip (gmax : Int) (g : Option Int) : Int :=
  match g with
  | none => gmax
  | some v => if gmax < v then gmax else v

/-- The update of a measured axle's ceiling and state from its prepared ceiling (R91 to R93). -/
def updateGrip (p : Params) (gmax elapsed sigma target previous g : Int) (st : GripState) : Int × GripState :=
  if target < sigma then
    (max p.gripFloor (min g (magnitude previous) - p.cutGain * (sigma - target)), .slipping)
  else
    match st with
    | .slipping => (g, .recovering)
    | .gripping =>
      (min gmax (g + p.recoveryRate * elapsed), .gripping)
    | .recovering =>
      let g' := min gmax (g + p.recoveryRate * elapsed)
      (g', if g' = gmax then .gripping else .recovering)

/-- Limiting since after the update (R95). -/
def limitingAfter (now : Time) (before after : GripState) (since : Option Time) : Option Time :=
  match before, after with
  | _, .gripping => none
  | .gripping, _ => some now
  | .slipping, _ => since
  | .recovering, _ => since

/-- Stage S3 for one axle: the new regulator (R86, R90 to R95). `start` is the ceiling its GRIP cell holds in the snapshot
(R13), `reg` the regulator before the pass. -/
def gripStage (p : Params) (sn : Snapshot) (elapsed demand vref : Int) (previous : Int) (reg : GripRegulator) (a : Axle) :
    GripRegulator :=
  let gmax := drivelineLimit p (passTow sn) a
  if measured sn a then
    let sigma := signedSlip (slip (axleSpeed p sn a) vref) previous demand
    let g := prepareGrip gmax ((sn.table.grip.get a).map (·.ceiling))
    let u := updateGrip p gmax elapsed sigma (targetSlip p (passTow sn) (passProfile sn)) previous g reg.state
    { ceiling := some u.1, state := u.2, limitingSince := limitingAfter sn.time reg.state u.2 reg.limitingSince }
  else
    { ceiling := some gmax, state := .gripping, limitingSince := none }

end Sys2Proof.Machine
end

