-- ==== Sys2Proof/Machine/Split.lean ====
section
/-! DEFINITION. The stages of the split pass but S3 (chapters 1, 4 and 6), and the pass as a whole. -/

namespace Sys2Proof.Machine

/-! ## S1 and S2 -/

/-- S1: the elapsed time of the pass, in ms (R11). -/
def elapsedTime (sn : Snapshot) : Int :=
  if sn.firstPass then 1 else clampTo 1 20 (elapsedSince sn.time sn.lastStartBefore)

/-- S2: the demand of the pass (R12). -/
def passDemand (sn : Snapshot) : Int :=
  if sn.mode = .driving then
    if sn.hold = .active then 0
    else if sn.demandState.believed then
      if sn.demand.direction = .neutral then 0 else sn.demand.torque
    else 0
  else 0

/-! ## S4: windows (R14, R62, R63) -/

/-- The supply ceiling of an axle after stage S4 of a pass in SUPPLY DOWN (R14, R61). -/
def loweredCeiling (p : Params) (sn : Snapshot) (elapsed : Int) (a : Axle) : Int :=
  match sn.table.supply.get a with
  | none => 0
  | some b => max 0 (b.ceiling - p.supplyFallRate * elapsed)

def rowBound (r : Row) (c : Option Bounds) : List RowBound :=
  match c with
  | none => []
  | some b => [{ row := r, bounds := b }]

/-- The present cells of an axle in row order: rows 1 to 4 of the snapshot, the GRIP cell of this pass at ±G, and the SUPPLY
cell in a pass of SUPPLY DOWN (R14). -/
def axleBounds (p : Params) (sn : Snapshot) (elapsed g : Int) (a : Axle) : List RowBound :=
  rowBound .driveline (sn.table.driveline.get a) ++ rowBound .inverter (sn.table.inverter.get a) ++
    rowBound .axle (sn.table.axle.get a) ++
    rowBound .stability ((sn.table.stability.get a).map fun c => symmetric c.cap) ++
    rowBound .grip (some (symmetric g)) ++
    rowBound .supply (if sn.mode = .supplyDown then some (symmetric (loweredCeiling p sn elapsed a)) else none)

/-- The window of an axle: the smallest drive ceiling and the largest regen floor of its present cells. The GRIP bound is
always among them. -/
def composeWindow (g : Int) (bs : List RowBound) : Window :=
  { ceiling := bs.foldl (fun m b => min m b.bounds.ceiling) g, floor := bs.foldl (fun m b => max m b.bounds.floor) (-g) }

/-- The lowest-numbered row whose bound equals each edge (R63). -/
def edgeRows (w : Window) (bs : List RowBound) : EdgeRows :=
  { ceiling := ((bs.find? fun b => b.bounds.ceiling == w.ceiling).map (·.row)).getD .grip
    floor := ((bs.find? fun b => b.bounds.floor == w.floor).map (·.row)).getD .grip }

/-! ## S5 and S6: share and initial allocation -/

/-- The speed band: the number of band edges at or below |v_ref| (R15). -/
def bandIndex (p : Params) (vref : Int) : Nat := (p.bandEdges.filter fun e => decide (e ≤ magnitude vref)).length

/-- The base share of the schedule (R15). -/
def baseShare (p : Params) (tow : Bool) (vref : Int) : Int :=
  (if tow then p.shareTow else p.shareSolo).getD (bandIndex p vref) 0

/-- S5: the preferred share (R16). -/
def preferredShare (p : Params) (tow : Bool) (vref demand : Int) : Int :=
  clampTo p.shareMin p.shareMax (baseShare p tow vref - truncDiv (demand * p.loadShift) 65536)

/-- S6: the initial allocation (R17). -/
def initialTorque (demand share : Int) : PerAxle Int :=
  let f := roundDiv (demand * share) 1000
  ⟨f, demand - f⟩

/-! ## S7: clip and transfer (R18 to R20) -/

/-- A value clamped to a window. -/
def clampWindow (w : Window) (v : Int) : Int := clampTo w.floor w.ceiling v

/-- The cut that clamping `v` to the window makes, if it changes `v` (R20). -/
def cutAt (a : Axle) (w : Window) (e : EdgeRows) (v : Int) : List Cut :=
  if clampWindow w v = v then []
  else if w.floor ≤ v then [{ axle := a, preClip := v, limit := w.ceiling, row := e.ceiling }]
  else [{ axle := a, preClip := v, limit := w.floor, row := e.floor }]

/-- S7: clip and transfer, rear first. -/
def clipAndTransfer (demand : Int) (t0 : PerAxle Int) (w : PerAxle Window) (e : PerAxle EdgeRows) : Transfer :=
  let f1 := clampWindow w.front t0.front
  let r1 := clampWindow w.rear t0.rear
  let clips := cutAt .front w.front e.front t0.front ++ cutAt .rear w.rear e.rear t0.rear
  let x := demand - f1 - r1
  if x = 0 then { torque := ⟨f1, r1⟩, cuts := clips }
  else
    let r2 := clampWindow w.rear (r1 + x)
    let x2 := x - (r2 - r1)
    let f2 := clampWindow w.front (f1 + x2)
    { torque := ⟨f2, r2⟩
      cuts := clips ++ cutAt .rear w.rear e.rear (r1 + x) ++ cutAt .front w.front e.front (f1 + x2) }

/-! ## S8: power budget (R71 to R77) -/

/-- The mechanical power of an axle, W (R71). -/
def mechanicalPower (torque rpm ratio : Int) : Int := truncDiv (torque * rpm * 26808) (ratio * 1000)

/-- The electrical power of an axle, W (R72). -/
def electricalPower (loss power : Int) : Int := power + truncDiv (magnitude power * loss) 1000

/-- The discharge limit of the pass, W (R74). -/
def dischargeLimit (p : Params) (sn : Snapshot) : Int := max 0 (sn.power.discharge * 100 - p.reserve * 100)

/-- The charge limit of the pass, W (R74). -/
def chargeLimit (sn : Snapshot) : Int := sn.power.charge * 100

/-- The factor for a total electrical power (R76). -/
def powerFactor (ld lr total : Int) : Int :=
  if ld < total then truncDiv (ld * 4096) total
  else if total < -lr then truncDiv (lr * 4096) (magnitude total)
  else Config.fullFactor

/-- The total electrical power that the torques of stage S7 would draw (R71, R72, R76). -/
def totalPower (p : Params) (sn : Snapshot) (t2 : PerAxle Int) : Int :=
  electricalPower p.lossAllowance (mechanicalPower t2.front sn.status.front.speed p.ratio.front) +
    electricalPower p.lossAllowance (mechanicalPower t2.rear sn.status.rear.speed p.ratio.rear)

/-- The scaled torque (R77). -/
def scaleTorque (factor t2 : Int) : Int := truncDiv (t2 * factor) 4096

/-! ## S9: ramp (R98 to R100) -/

/-- The allowance of an axle (R98). -/
def rampAllowance (p : Params) (elapsed previous target : Int) : Int :=
  if magnitude previous < magnitude target ∧ (previous = 0 ∨ target.sign = previous.sign) then p.riseRate * elapsed
  else p.releaseRate * elapsed

/-- The ramped value (R99). -/
def rampValue (allowance previous target : Int) : Int := previous + clampTo (-allowance) allowance (target - previous)

/-- The clamping window of stage S9 (R100). -/
def clampingWindow (factor target : Int) (w : Window) : Window :=
  if factor < Config.fullFactor then { floor := min 0 target, ceiling := max 0 target } else w

/-! ## S10: results (R22, R23) -/

/-- The regen shortfall (R22). -/
def regenShortfall (demand tf tr : Int) : Int := if demand < 0 then max 0 (tf + tr - demand) else 0

/-- The last cut of an axle in stage S7 (R20). -/
def lastCut (a : Axle) (cuts : List Cut) : Option Cut := (cuts.filter fun c => c.axle == a).getLast?

/-- The governing source of an axle (R23). -/
def governorOf (mode : Mode) (factor t2 t3 ramped final : Int) (e : EdgeRows) (cut : Option Cut) : Governor :=
  if mode = .supplyDown ∧ final ≠ ramped then .row (if final < ramped then e.ceiling else e.floor)
  else if final ≠ t3 then .ramp
  else if factor < Config.fullFactor ∧ t3 ≠ t2 then .power
  else match cut with
    | some c => .row c.row
    | none => .none

/-! ## The pass -/

/-- The ten stages in order (R10), from the snapshot and the engine's own stable state: the previous commands and the grip
regulators, which no event changes while the pass is in flight (R6, R83). `passNumber` is the number the pass completes
with. -/
def computePass (p : Params) (sn : Snapshot) (previous : PerAxle Int) (regs : PerAxle GripRegulator)
    (passNumber : BitVec 32) : PassOut :=
  let elapsed := elapsedTime sn
  let demand := passDemand sn
  let vref := referenceSpeed p sn
  let grip := PerAxle.of fun a => gripStage p sn elapsed demand vref (previous.get a) (regs.get a) a
  let g := grip.map fun r => r.ceiling.getD 0
  let bounds := PerAxle.of fun a => axleBounds p sn elapsed (g.get a) a
  let windows := PerAxle.of fun a => composeWindow (g.get a) (bounds.get a)
  let edges := PerAxle.of fun a => edgeRows (windows.get a) (bounds.get a)
  let share := preferredShare p (passTow sn) vref demand
  let s7 := clipAndTransfer demand (initialTorque demand share) windows edges
  let factor := powerFactor (dischargeLimit p sn) (chargeLimit sn) (totalPower p sn s7.torque)
  let scaled := s7.torque.map (scaleTorque factor)
  let ramped := PerAxle.of fun a =>
    rampValue (rampAllowance p elapsed (previous.get a) (scaled.get a)) (previous.get a) (scaled.get a)
  let final := PerAxle.of fun a =>
    clampWindow (clampingWindow factor (scaled.get a) (windows.get a)) (ramped.get a)
  let governor := PerAxle.of fun a =>
    governorOf sn.mode factor (s7.torque.get a) (scaled.get a) (ramped.get a) (final.get a) (edges.get a)
      (lastCut a s7.cuts)
  { grip := grip
    supplyCeiling := PerAxle.of fun a => loweredCeiling p sn elapsed a
    cuts := s7.cuts
    record :=
      { demand := demand, windows := windows, scaled := scaled, final := final, gripCeiling := g,
        gripState := grip.map (·.state), share := share, factor := factor,
        residual := demand - final.front - final.rear, shortfall := regenShortfall demand final.front final.rear,
        governor := governor, passNumber := passNumber } }

/-- The motor torque, in tenths, of an axle torque (R68). -/
def motorTenths (ratio torque : Int) : Int := clampTo (-6000) 6000 (truncDiv (torque * 2560) ratio)

/-- The axle torque of a motor torque in tenths (R69). -/
def axleTorque (ratio tenths : Int) : Int := truncDiv (tenths * ratio) 2560

end Sys2Proof.Machine
end

