-- ==== Sys2Proof/Machine/Passes.lean ====
section
/-! DEFINITION. Pass requests and pass starts, and the resets that wait for a pass end (R1 to R6, R82, R83). -/

namespace Sys2Proof.Machine

/-! ## Regulator resets (R82, R83) -/

/-- Both axles are GRIPPING. -/
def bothGripping (s : State) : Bool := s.grip.front.state == .gripping && s.grip.rear.state == .gripping

/-- A reset of one grip regulator: its reset form, its GRIP cell absent; with both axles GRIPPING the GRIP LIMITING condition
ends (R60, R82, R96, R169). -/
def resetRegulator (a : Axle) (s : State) : State :=
  let s1 := { s with grip := s.grip.set a .reset, table.grip := s.table.grip.set a none }
  if bothGripping s1 then { s1 with report.gripLimiting := false } else s1

/-- Both previous commands become 0 (R1). -/
def zeroPrevious (s : State) : State := { s with engine.previous := ⟨0, 0⟩ }

/-- Carries out a reset. -/
def applyReset (s : State) : DeferredReset → State
  | .previousCommands => zeroPrevious s
  | .regulator a => resetRegulator a s

/-- Resets are carried out at once when the engine is IDLE, and wait for the pass end when a pass is IN FLIGHT (R83). -/
def resetOrDefer (rs : List DeferredReset) (s : State) : State :=
  match s.engine.flight with
  | none => rs.foldl applyReset s
  | some _ => { s with engine.deferred := s.engine.deferred ++ rs }

/-- The resets of a link loss and of a wake from DOZING (R1, R82). -/
def driveResets : List DeferredReset := [.previousCommands, .regulator .front, .regulator .rear]

/-! ## Requests and starts -/

/-- The snapshot that a pass starting now takes (R5). -/
def takeSnapshot (s : State) : Snapshot :=
  { demand := s.records.demand, demandState := s.streams.demand.state, status := s.records.status,
    statusState := ⟨s.streams.frontStatus.state, s.streams.rearStatus.state⟩, power := s.records.power,
    powerState := s.streams.power.state, reference := s.records.reference, referenceState := s.streams.reference.state,
    towPresent := s.records.towPresent, towState := s.streams.tow.state, table := s.table,
    hold := s.filters.hold.accepted, mode := s.modes.mode, time := s.now, lastStartBefore := s.engine.lastStart,
    firstPass := s.engine.firstPass }

/-- A pass starts (R4, R5). -/
def startPass (s : State) : State :=
  { s with
    engine.flight := some (takeSnapshot s)
    engine.pendingPass := false
    engine.timer := some (later s.now s.par.maxPassInterval)
    engine.lastStart := s.now
    engine.firstPass := false }

/-- A pass request is taken (R3). -/
def requestPass (s : State) : State :=
  if s.modes.mode.runsPasses then
    match s.engine.flight with
    | none => startPass s
    | some _ => { s with engine.pendingPass := true }
  else s

/-- A pass request where a condition gives one. -/
def requestPassIf (c : Bool) (s : State) : State := if c then requestPass s else s

/-- The pass timer stops (R4). -/
def stopPassTimer (s : State) : State := { s with engine.timer := none }

end Sys2Proof.Machine
end

