-- ==== Sys2Proof/Machine/Axles.lean ====
section
/-! DEFINITION. The axle supervisors (chapter 7) and the AXLE row they write (R54, R55). -/

namespace Sys2Proof.Machine

/-- The AXLE cell of an axle state and accepting flag (R54). -/
def axleCell (p : Params) (a : Axle) (st : AxleState) (accepting : Bool) : Option Bounds :=
  match st, accepting with
  | .active, true => none
  | .derated, true => some (symmetric (p.derateCap.get a))
  | _, _ => some (symmetric 0)

/-- The supervisor rewrites its AXLE cell (R55). -/
def writeAxleCell (a : Axle) (s : State) : State :=
  { s with table.axle :=
      s.table.axle.set a (axleCell s.par a (s.axles.get a).state (s.records.status.get a).accepting) }

/-- Writes a supervisor. -/
def setSupervisor (a : Axle) (v : Supervisor) (s : State) : State := { s with axles := s.axles.set a v }

/-- Steps 1 to 3 of R121: the supervisor and its AXLE cell are written, and a change to OFFLINE resets the axle's grip
regulator or defers the reset. -/
def changeAxle (a : Axle) (v : Supervisor) (s : State) : State :=
  let s1 := writeAxleCell a (setSupervisor a v s)
  if v.state = .offline ∧ (s.axles.get a).state ≠ .offline then resetOrDefer [.regulator a] s1 else s1

/-! ## The command-return check (R124, R125) -/

/-- The entry of the delay line that holds a sequence. -/
def findEntry (line : List DelayEntry) (sequence : BitVec 4) : Option DelayEntry :=
  line.find? fun e => e.sequence == sequence

/-- The tolerance of the check, in tenths (R124). -/
def tolerance (p : Params) (commanded : Int) : Int := p.trackingAbs + truncDiv (magnitude commanded * p.trackingRel) 1000

/-- The applied torque agrees with the commanded torque (R124). -/
def torqueAgrees (p : Params) (commanded applied : Int) : Bool :=
  decide (magnitude (applied - commanded) ≤ tolerance p commanded)

/-- The tracking count after a check (R124, R125). -/
def trackingAfter (p : Params) (v : Supervisor) (f : AxleStatus) : Nat :=
  match findEntry v.line f.echoed with
  | some e =>
    if torqueAgrees p e.tenths f.applied then v.tracking - 1 else saturatingUp v.tracking Config.faultCount
  | none =>
    if Config.delayDepth ≤ v.sinceActivation then saturatingUp v.tracking Config.faultCount else v.tracking

/-- The state of an axle in service after a check that moved its count from `before` to `after` (R127). -/
def trackingState (st : AxleState) (before after : Nat) : AxleState :=
  match st with
  | .active => if before < after ∧ Config.derateCount ≤ after then .derated else .active
  | .derated =>
    if after = 0 ∧ after < before then .active
    else if before < after ∧ Config.faultCount ≤ after then .faulted
    else .derated
  | .offline => .offline
  | .standby => .standby
  | .faulted => .faulted

/-- The outcome of one status frame for the supervisor (R115 to R117, R129). -/
def superviseFrame (p : Params) (mode : Mode) (f : AxleStatus) (v : Supervisor) : Supervisor :=
  match v.state with
  | .faulted =>
    if f.fault = false ∧ mode = .dozing then
      { v with state := if f.ready then .standby else .offline, tracking := 0 }
    else v
  | .offline =>
    if f.fault then { v with state := .faulted } else if f.ready then { v with state := .standby } else v
  | .standby =>
    if f.fault then { v with state := .faulted } else if f.ready then v else { v with state := .offline }
  | .active =>
    if f.fault then { v with state := .faulted }
    else if f.ready then
      if f.accepting then
        { v with tracking := trackingAfter p v f, state := trackingState .active v.tracking (trackingAfter p v f) }
      else v
    else { v with state := .offline }
  | .derated =>
    if f.fault then { v with state := .faulted }
    else if f.ready then
      if f.accepting then
        { v with tracking := trackingAfter p v f, state := trackingState .derated v.tracking (trackingAfter p v f) }
      else v
    else { v with state := .offline }

/-- The supervisor takes a status frame whose content was used; its AXLE cell follows the state and the accepting flag
(R55, R121). -/
def superviseAxle (a : Axle) (f : AxleStatus) (s : State) : State :=
  changeAxle a (superviseFrame s.par s.modes.mode f (s.axles.get a)) s

/-- The axle's status stream enters LOST (R118). -/
def loseAxle (a : Axle) (s : State) : State :=
  let v := s.axles.get a
  changeAxle a (if v.state = .faulted then v else { v with state := .offline }) s

/-- Entry into ACTIVE at a pass end (R119). -/
def activateAxle (a : Axle) (s : State) : State :=
  if (s.axles.get a).state = .standby ∧ s.modes.mode = .driving ∧ (s.records.status.get a).accepting then
    changeAxle a { state := .active, tracking := 0, sinceActivation := 0, line := [] } s
  else s

/-- An ACTIVE or DERATED axle goes to STANDBY (R120). -/
def standDown (a : Axle) (s : State) : State :=
  let v := s.axles.get a
  if v.state.inService then changeAxle a { v with state := .standby } s else s

/-- A cleanly transmitted AXLE COMMAND enters the axle's delay line and raises commands-since-activation (R112, R113). -/
def commandDelivered (a : Axle) (e : DelayEntry) (s : State) : State :=
  let v := s.axles.get a
  setSupervisor a
    { v with sinceActivation := saturatingUp v.sinceActivation Config.delayDepth, line := enterDelayLine e v.line } s

end Sys2Proof.Machine
end

