-- ==== Sys2Proof/Machine/Block.lean ====
section
/-! DEFINITION. The parameter block: its word order (section 9.7), the checks of R162 and what an accepted block holds. -/

namespace Sys2Proof.Machine

/-- The bytes that an attempt reads (R161). -/
def blockBytes : Nat := 192

/-- Byte `i` of a read. A byte that was not read is all-ones, as a memory that does not answer reads (R161; log entry 17). -/
def readByte (bytes : List (BitVec 8)) (i : Nat) : BitVec 8 := bytes.getD i 0xFF

/-- The 96 words of a read: byte 2k is the high byte and byte 2k + 1 the low byte of word k (R161). -/
def blockWords (bytes : List (BitVec 8)) : List Word16 :=
  (List.range (blockBytes / 2)).map fun k => readByte bytes (2 * k) ++ readByte bytes (2 * k + 1)

/-- Word `k` of a block. A word that was not read reads as all-ones, as a memory that does not answer does (R161). -/
def blockWord (ws : List Word16) (k : Nat) : Word16 := ws.getD k 0xFFFF

/-- Word `k` of a block, unsigned. -/
def blockNat (ws : List Word16) (k : Nat) : Nat := (blockWord ws k).toNat

def blockInt (ws : List Word16) (k : Nat) : Int := blockNat ws k

/-- Words `k`, `k + 1`, … of a block, `n` of them. -/
def blockInts (ws : List Word16) (k n : Nat) : List Int := (List.range n).map fun i => blockInt ws (k + i)

/-- A speed factor: bits 17–16 in bits 1–0 of word `k`, the rest in the next word (words 23–26). -/
def blockSpeedFactor (ws : List Word16) (k : Nat) : Nat :=
  (((blockWord ws k).extractLsb' 0 2) ++ blockWord ws (k + 1) : BitVec 18).toNat

/-- The nine roles in recognition table order, which is also the block's (words 2–10). -/
def tableRoles : List Role :=
  [.stream .demand, .stream .frontStatus, .stream .rearStatus, .stream .power, .stream .reference, .stream .stability,
   .stream .tow, .query, .alertSeen]

/-- The expected payload length of a role's frames (section 2.1). -/
def Role.expectedLength : Role → Nat
  | .stream .demand => 3
  | .stream .frontStatus => 6
  | .stream .rearStatus => 6
  | .stream .power => 2
  | .stream .reference => 2
  | .stream .stability => 3
  | .stream .tow => 1
  | .query => 2
  | .alertSeen => 1

/-- The recognition roles of a block: station in bits 7–4, kind in bits 3–0. -/
def blockRoles (ws : List Word16) : List RoleEntry :=
  (List.range 9).zipWith (fun i r =>
    { role := r, station := (blockWord ws (2 + i)).extractLsb' 4 4, kind := (blockWord ws (2 + i)).extractLsb' 0 4 })
    tableRoles

/-- The two classes of a word: bits 10–8 and bits 2–0. -/
def blockClasses (ws : List Word16) : PerKind (BitVec 3) :=
  { frontCommand := (blockWord ws 11).extractLsb' 8 3, rearCommand := (blockWord ws 11).extractLsb' 0 3,
    splitReport := (blockWord ws 12).extractLsb' 8 3, alert := (blockWord ws 12).extractLsb' 0 3,
    status := (blockWord ws 13).extractLsb' 8 3, reply := (blockWord ws 13).extractLsb' 0 3 }

/-- The source codes of a status line (words 91–92, bits 2–0). -/
def lineSourceOf (code : BitVec 3) : LineSource :=
  match code.toNat with
  | 0 => .none
  | 1 => .driving
  | 2 => .axleImpaired
  | 3 => .safe
  | 4 => .supplyLow
  | 5 => .alertLeading
  | 6 => .powerScaled
  | _ => .captureHeld

def blockLine (ws : List Word16) (k : Nat) : LineConfig :=
  { source := lineSourceOf ((blockWord ws k).extractLsb' 0 3), activeHigh := (blockWord ws k).getLsbD 8 }

/-- The parameters that a block holds, field by field in its word order (section 9.7). -/
def blockParams (ws : List Word16) : Params :=
  { ownStation := (blockWord ws 1).extractLsb' 0 4
    roles := blockRoles ws
    classes := blockClasses ws
    statusPeriod := blockNat ws 14
    windows := { demand := blockNat ws 15, frontStatus := blockNat ws 16, rearStatus := blockNat ws 16,
                 power := blockNat ws 17, reference := blockNat ws 18, stability := blockNat ws 19, tow := blockNat ws 20 }
    ratio := ⟨blockInt ws 21, blockInt ws 22⟩
    speedFactor := ⟨blockSpeedFactor ws 23, blockSpeedFactor ws 25⟩
    drivelineSolo := ⟨blockInt ws 27, blockInt ws 28⟩
    drivelineTow := ⟨blockInt ws 29, blockInt ws 30⟩
    demandMax := blockInt ws 31
    bandEdges := blockInts ws 32 7
    shareSolo := blockInts ws 39 8
    shareTow := blockInts ws 47 8
    loadShift := blockInt ws 55
    shareMin := blockInt ws 56
    shareMax := blockInt ws 57
    slipSoloNormal := blockInt ws 58
    slipSoloLowGrip := blockInt ws 59
    slipTowNormal := blockInt ws 60
    slipTowLowGrip := blockInt ws 61
    cutGain := blockInt ws 62
    gripFloor := blockInt ws 63
    recoveryRate := blockInt ws 64
    riseRate := blockInt ws 65
    releaseRate := blockInt ws 66
    supplyFallRate := blockInt ws 67
    reserve := blockInt ws 68
    lossAllowance := blockInt ws 69
    fallbackDischarge := blockInt ws 70
    fallbackCharge := blockInt ws 71
    stabilityFallback := ⟨blockInt ws 72, blockInt ws 73⟩
    trackingAbs := blockInt ws 74
    trackingRel := blockInt ws 75
    derateCap := ⟨blockInt ws 76, blockInt ws 77⟩
    maxPassInterval := blockNat ws 78
    ranks := ⟨blockNat ws 79, blockNat ws 80, blockNat ws 81, blockNat ws 82, blockNat ws 83, blockNat ws 84,
              blockNat ws 85, blockNat ws 86, blockNat ws 87, blockNat ws 88⟩
    reportThreshold := blockNat ws 89
    captureMode := if (blockWord ws 90).getLsbD 8 then .keepLatest else .keepFirst
    enables := { axleFaulted := (blockWord ws 90).getLsbD 4, driveline := (blockWord ws 90).getLsbD 3,
                 supplyDown := (blockWord ws 90).getLsbD 2, mark := (blockWord ws 90).getLsbD 1,
                 demandLost := (blockWord ws 90).getLsbD 0 }
    sta := blockLine ws 91
    stb := blockLine ws 92
    filterTime := ⟨blockNat ws 93, blockNat ws 94⟩ }

/-! ## The checks of R162 -/

/-- Check 1: word 0 holds format 1 and length 96. -/
def blockFormat (ws : List Word16) : Bool := blockWord ws 0 == 0x0160

/-- Check 2: the sum of all 96 words, modulo 65 536, is 0. -/
def blockSum (ws : List Word16) : Bool :=
  (((List.range 96).map (blockWord ws)).foldl (· + ·) 0) == 0

/-- The words whose whole value is a field, each run with its first word, its length and its range (section 10.4). -/
def blockRanges : List (Nat × Nat × Nat × Nat) :=
  [(14, 1, 20, 1000), (15, 1, 5, 200), (16, 1, 2, 100), (17, 1, 10, 1000), (18, 1, 5, 200), (19, 1, 5, 500),
   (20, 1, 100, 5000), (21, 2, 256, 5120), (27, 4, 500, 16000), (31, 1, 1000, 16000), (32, 7, 0, 25000),
   (39, 16, 0, 1000), (55, 1, 0, 255), (56, 2, 0, 1000), (58, 4, 20, 300), (62, 1, 1, 64), (63, 1, 0, 4000),
   (64, 1, 1, 100), (65, 2, 1, 255), (67, 1, 10, 1000), (68, 1, 0, 200), (69, 1, 0, 300), (70, 2, 0, 6000),
   (72, 2, 0, 16000), (74, 1, 0, 1000), (75, 1, 0, 500), (76, 2, 0, 16000), (78, 1, 5, 50), (79, 10, 0, 15),
   (89, 1, 1, 15), (93, 2, 1, 50)]

/-- Check 3: every field lies in its range. The fields that fill their whole bit width are in range by construction. -/
def blockInRange (ws : List Word16) : Bool :=
  blockRanges.all (fun r => (List.range r.2.1).all fun i =>
    decide (r.2.2.1 ≤ blockNat ws (r.1 + i)) && decide (blockNat ws (r.1 + i) ≤ r.2.2.2)) &&
    decide (1 ≤ blockSpeedFactor ws 23) && decide (1 ≤ blockSpeedFactor ws 25)

/-- The members of a list rise strictly. -/
def strictlyRising : List Int → Bool
  | [] => true
  | [_] => true
  | a :: b :: rest => decide (a < b) && strictlyRising (b :: rest)

/-- Check 4: the parameters that a consistency check pairs agree. -/
def Params.consistent (p : Params) : Bool :=
  decide (p.shareMin ≤ p.shareMax) &&
    decide (p.gripFloor ≤ p.drivelineSolo.front) && decide (p.gripFloor ≤ p.drivelineSolo.rear) &&
    decide (p.gripFloor ≤ p.drivelineTow.front) && decide (p.gripFloor ≤ p.drivelineTow.rear) &&
    strictlyRising p.bandEdges &&
    decide ((p.roles.map fun e => (e.station, e.kind)).Nodup) &&
    p.roles.all (fun e => e.station != p.ownStation)

/-- The block is accepted (R162). -/
def blockAccepted (ws : List Word16) : Bool :=
  blockFormat ws && blockSum ws && blockInRange ws && (blockParams ws).consistent

/-- The recognition table that an accepted block builds (R24). -/
def recognitionTable (p : Params) : List RecognitionEntry :=
  p.roles.map fun e => { role := e.role, station := e.station, kind := e.kind, expectedLength := e.role.expectedLength }

end Sys2Proof.Machine
end

