-- ==== Sys2Proof/Machine/Modes.lean ====
section
/-! DEFINITION. The mode controller: mode changes, waking, fading, link loss, station conflicts, the supply's answers and the
warm restart (chapter 8). -/

namespace Sys2Proof.Machine

/-! ## Mode changes, in the order of R131 -/

/-- Step 1: the new mode, the SAFE cause and the restore-pending flag; entry into SAFE clears the flag (R144). -/
def writeMode (m : Mode) (cause : SafeCause) (s : State) : State :=
  { s with modes := { mode := m, cause := cause, restorePending := s.modes.restorePending && m != .safe } }

/-- Both SUPPLY cells at the magnitudes of the previous commands (R61). -/
def setSupplyCeilings (s : State) : State :=
  { s with table.supply := s.engine.previous.map fun v => some (symmetric (magnitude v)) }

/-- Both SUPPLY cells absent (R61). -/
def clearSupplyCells (s : State) : State := { s with table.supply := ⟨none, none⟩ }

/-- Step 2: the split engine is told. -/
def tellEngine (old new : Mode) (s : State) : State :=
  match new with
  | .driving =>
    if old = .dozing then { resetOrDefer driveResets s with engine.firstPass := true } else s
  | .supplyDown => if s.engine.flight.isNone then setSupplyCeilings s else s
  | .fading => s
  | .supplyHalted => stopPassTimer (if old = .supplyDown then clearSupplyCells s else s)
  | .dozing => stopPassTimer s
  | .start => stopPassTimer s
  | .safe => stopPassTimer s

/-- Step 3: the axle supervisors are told (R120). -/
def tellAxles (new : Mode) (s : State) : State :=
  if new.runsPasses then s else standDown .rear (standDown .front s)

/-- Step 4: the link controller is told (R142, R144, R158, R159). -/
def tellLink (old new : Mode) (s : State) : State :=
  if new = .supplyHalted then { s with link.quiet := true }
  else if new = .safe ∧ old = .supplyHalted then leaveListen s
  else s

/-- Step 5, the captures: entry into SUPPLY DOWN is a trigger, and a waiting request is filled on entry into a mode that runs
no passes (R172). STATUS and the alerts follow at the end of the event. -/
def tellCaptures (new : Mode) (s : State) : State :=
  if new = .supplyDown then takeTrigger .supplyDown s else fillIfStill s

/-- Step 6: entry into FADING, SUPPLY DOWN or SAFE requests a pass (R2). -/
def entryRequests (m : Mode) : Bool := m == .fading || m == .supplyDown || m == .safe

/-- A mode change (R131). -/
def enterMode (new : Mode) (cause : SafeCause) (s : State) : State :=
  let old := s.modes.mode
  requestPassIf (entryRequests new)
    (tellCaptures new (tellLink old new (tellAxles new (tellEngine old new (writeMode new cause s)))))

/-! ## Waking and fading -/

/-- The conditions of a wake, but for the frame's ready flag (R133). -/
def mayWake (s : State) : Bool :=
  (s.modes.mode == .dozing || s.modes.mode == .fading) && s.filters.hold.accepted == .inactive &&
    s.link.state != .muted && (!s.axles.front.state.unable || !s.axles.rear.state.unable)

/-- A fade cause: DRIVING goes to FADING (R134). -/
def fadeCause (s : State) : State := if s.modes.mode = .driving then enterMode .fading .none s else s

/-- The mode controller is told of a DEMAND frame whose content was used (R133, R134). -/
def tellDemand (s : State) : State :=
  if s.records.demand.ready then (if mayWake s then enterMode .driving .none s else s) else fadeCause s

/-- The mode controller is told of a change of an axle's state (R134). -/
def tellAxleChange (s : State) : State :=
  if s.axles.front.state.unable && s.axles.rear.state.unable then fadeCause s else s

/-- The trigger source of an axle's entry into FAULTED. -/
def faultSource : Axle → TriggerSource
  | .front => .frontFaulted
  | .rear => .rearFaulted

/-- Steps 4 to 6 of R121 for an axle whose state was `old`: the mode controller, the capture trigger of an entry into FAULTED,
and the pass request. -/
def handAxleChange (a : Axle) (old : AxleState) (s : State) : State :=
  let new := (s.axles.get a).state
  if new = old then s
  else
    let s1 := tellAxleChange s
    requestPass (if new = .faulted then takeTrigger (faultSource a) s1 else s1)

/-- What a link loss does: the previous commands and regulators are reset or their reset deferred, both in-service marks are
cleared, and the part enters DOZING (R1, R104, R136). -/
def takeLinkLoss (s : State) : State :=
  enterMode .dozing .none { resetOrDefer driveResets s with issuer.inService := ⟨false, false⟩ }

/-- Entry of the link controller into MUTED is a link loss in DRIVING and FADING (R136). -/
def linkLoss (s : State) : State :=
  match s.modes.mode with
  | .driving => takeLinkLoss s
  | .fading => takeLinkLoss s
  | .start => s
  | .dozing => s
  | .supplyDown => s
  | .supplyHalted => s
  | .safe => s

/-! ## Station conflicts (R143) -/

/-- The newest three conflict times lie within 1 000 ms. -/
def conflictsCrowd (times : List Time) : Bool :=
  match times with
  | newest :: _ :: third :: _ => decide (elapsedSince newest third < Config.conflictWindow)
  | _ => false

/-- The modes from which a third conflict leads to SAFE (R143). -/
def Mode.heedsConflicts : Mode → Bool
  | .dozing => true
  | .driving => true
  | .fading => true
  | .supplyDown => true
  | .supplyHalted => true
  | .start => false
  | .safe => false

/-- The mode controller is told of a station conflict (R143). -/
def tellConflict (s : State) : State :=
  if s.modes.mode.heedsConflicts && conflictsCrowd s.link.conflicts then enterMode .safe .stationConflict s else s

/-! ## The warm restart (R145) -/

/-- A stream record after a warm restart: its change flag is set when its state changes, and a CARRIED mark is cleared
(R47, R168). -/
def StreamRecord.restarted (r : StreamRecord) : StreamRecord :=
  { r with lastSequence := none, lastArrival := 0, state := .unheard, deadline := none, qualifying := 0,
           flag := if r.state = .unheard then r.flag.restarted else .set }

/-- The decoded records in their UNHEARD form (R36). -/
def unheardRecords (p : Params) : Records :=
  { demand := .fallback, status := ⟨.fallback, .fallback⟩, power := ⟨p.fallbackDischarge, p.fallbackCharge⟩,
    reference := .fallback, towPresent := false }

/-- The constraint table after acceptance: DRIVELINE for solo, both AXLE cells [0, 0], the rest absent (R48). -/
def acceptedTable (p : Params) : ConstraintTable :=
  { driveline := PerAxle.of fun a => some (symmetric (drivelineLimit p false a))
    inverter := ⟨none, none⟩
    axle := ⟨some (symmetric 0), some (symmetric 0)⟩
    stability := ⟨none, none⟩
    grip := ⟨none, none⟩
    supply := ⟨none, none⟩ }

/-- The split engine's part of a warm restart (R1). -/
def Engine.restarted (e : Engine) : Engine :=
  { e with flight := none, pendingPass := false, timer := none, previous := ⟨0, 0⟩, deferred := [], firstPass := false }

/-- The blocks that a warm restart returns to their start, but the link controller and the report unit. -/
def restartBlocks (s : State) : State :=
  { s with
    modes := { mode := .dozing, cause := .none, restorePending := false }
    engine := s.engine.restarted
    grip := ⟨.reset, .reset⟩
    issuer.inService := ⟨false, false⟩
    axles := ⟨.reset, .reset⟩
    streams := s.streams.map (·.restarted)
    records := unheardRecords s.par
    intake := []
    table := acceptedTable s.par }

/-- The report unit's part of a warm restart (R169, R170, R174). -/
def restartReport (s : State) : State :=
  restartAlerts { s with report.powerRun := 0, report.gripLimiting := false, report.query := { busy := none, refused := 0 } }

/-- The warm restart: a waiting capture request is filled first (R172), then every block acts as the table of R145 gives. -/
def warmRestart (s : State) : State := restartReport (restartLink (restartBlocks (fillRequest s)))

/-! ## Reports of the split engine and of the supply monitor -/

/-- The split engine reports the fade complete (R135). -/
def fadeComplete (s : State) : State := if s.modes.mode = .fading then enterMode .dozing .none s else s

/-- The split engine reports the supply ramp complete (R141). -/
def rampComplete (s : State) : State :=
  if s.modes.mode = .supplyDown then
    if s.modes.restorePending then warmRestart s else enterMode .supplyHalted .none s
  else s

/-- The mode controller takes the low event (R140). -/
def tellLow (s : State) : State :=
  match s.modes.mode with
  | .dozing => enterMode .supplyHalted .none s
  | .driving => enterMode .supplyDown .none s
  | .fading => enterMode .supplyDown .none s
  | .supplyDown => { s with modes.restorePending := false }
  | .start => s
  | .supplyHalted => s
  | .safe => s

/-- The mode controller takes the restore event (R141, R142). -/
def tellRestored (s : State) : State :=
  match s.modes.mode with
  | .supplyDown => { s with modes.restorePending := true }
  | .supplyHalted => warmRestart s
  | .start => s
  | .dozing => s
  | .driving => s
  | .fading => s
  | .safe => s

end Sys2Proof.Machine
end

