-- ==== Sys2Proof/Machine/PassEnd.lean ====
section
/-! DEFINITION. The pass end (R8) and the command issuer that acts at its step 2 (chapter 6). -/

namespace Sys2Proof.Machine

/-! ## Step 1 -/

/-- The SUPPLY cells at step 1: lowered by a pass of SUPPLY DOWN, and set where SUPPLY DOWN was entered during the pass
(R8, R61). The previous commands have already taken the finals. -/
def storeSupply (sn : Snapshot) (out : PassOut) (s : State) : State :=
  if sn.mode = .supplyDown then { s with table.supply := out.supplyCeiling.map fun v => some (symmetric v) }
  else if s.modes.mode = .supplyDown then setSupplyCeilings s
  else s

/-- Step 1: previous commands, grip regulators, GRIP cells and SUPPLY cells (R8). -/
def storeResults (sn : Snapshot) (out : PassOut) (s : State) : State :=
  storeSupply sn out
    { s with
      engine.previous := out.record.final
      grip := out.grip
      table.grip := out.record.gripCeiling.map fun g => some (symmetric g) }

/-! ## Step 2: the command issuer -/

/-- The state code of the mode of the pass (R105). A pass runs in DRIVING, FADING or SUPPLY DOWN only. -/
def stateCodeOf (m : Mode) : StateCode :=
  match m with
  | .driving => .drive
  | .fading => .fade
  | .supplyDown => .supply
  | .start => .supply
  | .dozing => .supply
  | .supplyHalted => .supply
  | .safe => .supply

/-- Both finals of the pass are 0. -/
def finalsZero (out : PassOut) : Bool := out.record.final.front == 0 && out.record.final.rear == 0

/-- The pass is a closing pass in the mode found at step 2 (R107). -/
def closingPass (sn : Snapshot) (out : PassOut) (s : State) : Bool :=
  (sn.mode == .fading || sn.mode == .supplyDown) && sn.mode == s.modes.mode && finalsZero out

/-- An AXLE COMMAND is placed with the axle's sequence, which then rises (R108, R110); its in-service mark takes `enable`. -/
def placeCommand (a : Axle) (tenths : Int) (code : StateCode) (bound enable : Bool) (s : State) : State :=
  placeFrame false
    { kind := commandKind a, sequence := s.issuer.sequence.get a, content := .command tenths code bound enable }
    { s with issuer := { s.issuer with
        sequence := s.issuer.sequence.set a (s.issuer.sequence.get a + 1)
        inService := s.issuer.inService.set a enable } }

/-- The service frame of an axle in service (R105). -/
def serviceFrame (sn : Snapshot) (out : PassOut) (a : Axle) (s : State) : State :=
  placeCommand a (motorTenths (s.par.ratio.get a) (out.record.final.get a)) (stateCodeOf sn.mode)
    (out.record.governor.get a != .none) true s

/-- The release frame of an axle that leaves service (R106). -/
def releaseFrame (sn : Snapshot) (a : Axle) (s : State) : State := placeCommand a 0 (stateCodeOf sn.mode) false false s

/-- What the issuer places for one axle (R105 to R107). -/
def issueAxle (sn : Snapshot) (out : PassOut) (closing : Bool) (a : Axle) (s : State) : State :=
  let serving := (s.axles.get a).state.inService
  let mark := s.issuer.inService.get a
  if closing then (if serving || mark then releaseFrame sn a s else s)
  else if serving then serviceFrame sn out a s
  else if mark then releaseFrame sn a s
  else s

/-- The SPLIT REPORT of the pass (R111). -/
def placeReport (out : PassOut) (s : State) : State :=
  let r := out.record
  placeFrame false
    { kind := .splitReport, sequence := s.issuer.reportSequence
      content := .splitReport r.demand r.final r.shortfall r.share r.factor r.governor r.gripState }
    { s with issuer.reportSequence := s.issuer.reportSequence + 1 }

/-- Step 2: the AXLE COMMAND frames, FRONT then REAR, in a mode that allows them, and the SPLIT REPORT (R9, R105, R111). -/
def issueFrames (sn : Snapshot) (out : PassOut) (s : State) : State :=
  let closing := closingPass sn out s
  placeReport out
    (if s.modes.mode.runsPasses then issueAxle sn out closing .rear (issueAxle sn out closing .front s) else s)

/-! ## Steps 3 to 8 -/

/-- An axle has been out of GRIPPING for 1 000 ms or more at a snapshot time (R169). -/
def longLimiting (now : Time) (r : GripRegulator) : Bool :=
  match r.limitingSince with
  | none => false
  | some t => decide (Config.gripLimitingTime ≤ elapsedSince now t)

/-- The GRIP LIMITING condition at step 3 (R169). -/
def gripLimitingAt (sn : Snapshot) (s : State) : Bool :=
  if longLimiting sn.time s.grip.front || longLimiting sn.time s.grip.rear then true
  else if bothGripping s then false
  else s.report.gripLimiting

/-- Step 3: the pass number, the pass result record, the power-scaled run and GRIP LIMITING (R8, R169). -/
def countPass (sn : Snapshot) (out : PassOut) (s : State) : State :=
  { s with
    engine.passNumber := out.record.passNumber
    engine.result := out.record
    report.powerRun :=
      if out.record.factor < Config.fullFactor then saturatingUp s.report.powerRun Config.powerRunMax else 0
    report.gripLimiting := gripLimitingAt sn s }

/-- A DRIVELINE cut is an exception event and a capture trigger (R20, R65, R172). -/
def reportCut (sn : Snapshot) (out : PassOut) (s : State) (c : Cut) : State :=
  if c.row = .driveline then
    takeTrigger .driveline
      (takeException (.driveline c.axle sn.time out.record.passNumber c.preClip c.limit) s)
  else s

/-- Step 4: the DRIVELINE events in clamp order, and a waiting capture request (R8). -/
def reportCuts (sn : Snapshot) (out : PassOut) (s : State) : State := fillRequest (out.cuts.foldl (reportCut sn out) s)

/-- Step 5: activation of STANDBY axles (R119). -/
def activateAxles (s : State) : State := activateAxle .rear (activateAxle .front s)

/-- Step 6: the deferred resets (R8). -/
def applyDeferred (s : State) : State :=
  { s.engine.deferred.foldl applyReset s with engine.deferred := [] }

/-- Step 7: the engine is IDLE, and the mode controller is told of a completed fade or supply ramp (R8). -/
def finishFlight (sn : Snapshot) (out : PassOut) (s : State) : State :=
  let s1 := { s with engine.flight := none }
  if finalsZero out then
    if sn.mode = .fading then fadeComplete s1
    else if sn.mode = .supplyDown then rampComplete s1
    else s1
  else s1

/-- Step 8: a pending pass starts, or its flag is cleared in a mode that allows none (R8). -/
def startPending (s : State) : State :=
  if s.engine.pendingPass then
    if s.modes.mode.runsPasses then startPass s else { s with engine.pendingPass := false }
  else s

/-- The pass in flight, computed from its snapshot (R10). -/
def passOutcome (sn : Snapshot) (s : State) : PassOut :=
  computePass s.par sn s.engine.previous s.grip (s.engine.passNumber + 1)

/-- Steps 1 to 5 of a pass end. -/
def passEndResults (sn : Snapshot) (out : PassOut) (s : State) : State :=
  activateAxles (reportCuts sn out (countPass sn out (issueFrames sn out (storeResults sn out s))))

/-- The axle was activated at step 5: its state is not the one before the pass end. -/
def activatedAt (a : Axle) (before after : State) : Bool := (before.axles.get a).state != (after.axles.get a).state

/-- The pass end (R8). The pass requests of axles activated at step 5 are taken after step 8. -/
def endPass (s : State) : State :=
  match s.engine.flight with
  | none => s
  | some sn =>
    let out := passOutcome sn s
    let s5 := passEndResults sn out s
    let s8 := startPending (finishFlight sn out (applyDeferred s5))
    requestPassIf (activatedAt .rear s s5) (requestPassIf (activatedAt .front s s5) s8)

end Sys2Proof.Machine
end

