-- ==== Sys2Proof/Machine/Operands.lean ====
section
/-! DEFINITION. The fields of the frames the part receives (section 9.7), with the clamps of R30 and the rejections of R31. -/

namespace Sys2Proof.Machine

/-- Payload word `k`, counting from 1 (section 9.7). -/
def payloadWord (ws : List Word16) (k : Nat) : Word16 := ws.getD (k - 1) 0

/-- Payload word `k` read as 16-bit two's complement. -/
def payloadInt (ws : List Word16) (k : Nat) : Int := (payloadWord ws k).toInt

/-- The DEMAND direction code (word 2, bits 1–0). -/
def directionCode (ws : List Word16) : BitVec 2 := (payloadWord ws 2).extractLsb' 0 2

def directionOf (code : BitVec 2) : Direction :=
  if code = 1 then .forward else if code = 2 then .reverse else .neutral

/-- The DEMAND torque lies outside ± the demand maximum, and is clamped (R30). -/
def demandClamped (p : Params) (ws : List Word16) : Bool :=
  clampTo (-p.demandMax) p.demandMax (payloadInt ws 1) != payloadInt ws 1

/-- The content of a DEMAND frame (R40). -/
def demandContent (p : Params) (ws : List Word16) : DemandRecord :=
  { torque := clampTo (-p.demandMax) p.demandMax (payloadInt ws 1)
    ready := (payloadWord ws 2).getLsbD 15
    direction := directionOf (directionCode ws)
    profile := if payloadWord ws 3 = 1 then .lowGrip else .normal }

/-- The content of an AXLE STATUS frame (R41). -/
def statusContent (ws : List Word16) : AxleStatus :=
  { speed := clampTo (-20000) 20000 (payloadInt ws 1)
    applied := clampTo (-6000) 6000 (payloadInt ws 2)
    driveCapability := clampTo 0 6000 (payloadInt ws 3)
    regenCapability := clampTo 0 6000 (payloadInt ws 4)
    echoed := (payloadWord ws 5).extractLsb' 0 4
    ready := (payloadWord ws 6).getLsbD 0
    accepting := (payloadWord ws 6).getLsbD 1
    fault := (payloadWord ws 6).getLsbD 2 }

/-- The content of a POWER frame (R42). -/
def powerContent (ws : List Word16) : PowerRecord :=
  { discharge := clampTo 0 6000 (payloadInt ws 1), charge := clampTo 0 6000 (payloadInt ws 2) }

/-- The content of a REFERENCE frame (R43). -/
def referenceContent (ws : List Word16) : ReferenceRecord :=
  { speed := clampTo (-25000) 25000 (payloadInt ws 1), valid := (payloadWord ws 2).getLsbD 0 }

/-- The content of a TOW frame (R44). -/
def towContent (ws : List Word16) : Bool := (payloadWord ws 1).getLsbD 0

/-- The cap of an axle in a STABILITY frame, unsigned (R45). -/
def stabilityCapField (ws : List Word16) : Axle → Nat
  | .front => (payloadWord ws 1).toNat
  | .rear => (payloadWord ws 2).toNat

/-- The hold time of a STABILITY frame, clamped to 0 … 1 000 ms (R30, R45). -/
def stabilityHold (ws : List Word16) : Nat := (clampTo 0 1000 (payloadInt ws 3)).toNat

/-- A cap that rejects its frame: 16 001 … 65 534 (R31). -/
def capRejected (cap : Nat) : Bool := decide (16001 ≤ cap) && decide (cap ≤ 65534)

/-- The failing field of lowest index, with its raw value, of a frame that R31 rejects. -/
def failingField (r : Role) (ws : List Word16) : Option (Nat × Word16) :=
  match r with
  | .stream .demand =>
    if directionCode ws = 3 then some (3, 3)
    else if 1 < (payloadWord ws 3).toNat then some (4, payloadWord ws 3)
    else none
  | .stream .stability =>
    if capRejected (stabilityCapField ws .front) then some (1, payloadWord ws 1)
    else if capRejected (stabilityCapField ws .rear) then some (2, payloadWord ws 2)
    else none
  | .stream .frontStatus => none
  | .stream .rearStatus => none
  | .stream .power => none
  | .stream .reference => none
  | .stream .tow => none
  | .query => none
  | .alertSeen => none

end Sys2Proof.Machine
end

