-- ==== Sys2Proof/Machine/Streams.lean ====
section
/-! DEFINITION. Stream supervision: the judgement of a frame, the use of its content, and the expiries of windows and of
stability holds (chapter 2, R50 to R59). -/

namespace Sys2Proof.Machine

/-- Writes a stream record. -/
def setStream (i : StreamId) (r : StreamRecord) (s : State) : State := { s with streams := s.streams.set i r }

/-- The window of a stream in ms. -/
def windowOf (r : StreamRecord) : Nat := r.window.getD 0

/-! ## Judging a frame (R33 to R37) -/

/-- What a frame that passed its checks is to its stream. -/
inductive FrameJudgement where
  /-- its content is used -/
  | used
  /-- it repeats the last sequence -/
  | repeated
  /-- it qualifies toward requalification -/
  | qualifies
  /-- it arrived outside a window and restarts requalification -/
  | restarts
deriving DecidableEq, Repr

/-- The frame's arrival is earlier than the record's deadline. -/
def beforeDeadline (r : StreamRecord) (arrival : Time) : Bool :=
  match r.deadline with
  | none => false
  | some d => earlier arrival d

/-- The judgement of a frame against its stream record (R28 item 4). -/
def judgeFrame (r : StreamRecord) (e : IntakeEntry) : FrameJudgement :=
  if r.lastSequence = some e.sequence then .repeated
  else
    match r.state with
    | .unheard => .used
    | .fresh => .used
    | .late => .used
    | .lost =>
      if beforeDeadline r e.arrival then
        (if Config.qualifyingTarget ≤ r.qualifying + 1 then .used else .qualifies)
      else .restarts

/-- The record takes a frame's sequence and arrival, and its window starts at the arrival. -/
def StreamRecord.arrived (r : StreamRecord) (e : IntakeEntry) : StreamRecord :=
  { r with lastSequence := some e.sequence, lastArrival := e.arrival, deadline := some (later e.arrival (windowOf r)) }

/-- The record after a frame whose content is used (R33, R34, R35, R37). -/
def StreamRecord.afterUse (r : StreamRecord) (e : IntakeEntry) : StreamRecord :=
  { r.arrived e with state := .fresh, qualifying := 0, flag := if r.state = .fresh then r.flag else .set }

/-- The record after a frame of a judgement. A frame that restarts requalification counts as the first again (R28, R37; log
entry 14). -/
def StreamRecord.afterFrame (r : StreamRecord) (e : IntakeEntry) : FrameJudgement → StreamRecord
  | .used => r.afterUse e
  | .repeated => { r with repeats := countUp r.repeats }
  | .qualifies => { r.arrived e with qualifying := r.qualifying + 1 }
  | .restarts => { r.arrived e with qualifying := 1 }

/-! ## Constraint rows written by the decoder -/

/-- The INVERTER cell of a status record (R52). -/
def inverterCell (p : Params) (a : Axle) (f : AxleStatus) : Bounds :=
  { ceiling := axleTorque (p.ratio.get a) f.driveCapability, floor := -(axleTorque (p.ratio.get a) f.regenCapability) }

/-- The tow state in force (R5). -/
def currentTow (s : State) : Bool := towState s.streams.tow.state s.records.towPresent

/-- The DRIVELINE row is rewritten when the tow state differs from `before` (R51). -/
def rewriteDriveline (before : Bool) (s : State) : State :=
  if currentTow s = before then s
  else { s with table.driveline := PerAxle.of fun a => some (symmetric (drivelineLimit s.par (currentTow s) a)) }

/-- The STABILITY cell that a used frame gives an axle (R56). -/
def stabilityCell (now : Time) (e : IntakeEntry) (a : Axle) : Option StabilityCap :=
  let hold := stabilityHold e.payload
  let cap := stabilityCapField e.payload a
  let expiry := later e.arrival hold
  if hold = 0 ∨ cap = 65535 ∨ reached now expiry then none else some { cap := cap, expiry := some expiry }

/-- Two STABILITY cells bound alike: a renewed expiry alone is no change (R57). -/
def sameCap (x y : Option StabilityCap) : Bool := x.map (·.cap) == y.map (·.cap)

/-- The STABILITY cells differ from `before` (R57). -/
def stabilityChanged (before : PerAxle (Option StabilityCap)) (s : State) : Bool :=
  !(sameCap before.front s.table.stability.front && sameCap before.rear s.table.stability.rear)

/-- Both STABILITY cells at the fallback caps with no expiry (R59). -/
def fallbackCaps (p : Params) : PerAxle (Option StabilityCap) :=
  p.stabilityFallback.map fun c => some { cap := c, expiry := none }

/-! ## A frame whose content is used (R39) -/

/-- Steps 1 to 6 for an AXLE STATUS frame. -/
def useStatus (a : Axle) (e : IntakeEntry) (s : State) : State :=
  let f := statusContent e.payload
  let old := (s.axles.get a).state
  let s1 := { s with records.status := s.records.status.set a f,
                     table.inverter := s.table.inverter.set a (some (inverterCell s.par a f)) }
  handAxleChange a old (superviseAxle a f s1)

/-- Steps 1 to 6 for a DEMAND frame; it requests a pass (R2). R2 asks that the stream be FRESH after the decode: the model takes
that at step 6, before an expiry at the end of the decode (R38), so a stream that is LATE at that end has requested its pass.
DESIGN CHOICE, unsafe (log entry 34). -/
def useDemand (e : IntakeEntry) (s : State) : State :=
  requestPass (tellDemand { s with records.demand := demandContent s.par e.payload })

/-- Steps 1 to 6 for a STABILITY frame. -/
def useStability (e : IntakeEntry) (s : State) : State :=
  let before := s.table.stability
  let s1 := { s with table.stability := PerAxle.of fun a => stabilityCell s.now e a }
  requestPassIf (stabilityChanged before s1) s1

/-- A TOW frame; `before` is the tow state before it. -/
def useTow (before : Bool) (e : IntakeEntry) (s : State) : State :=
  rewriteDriveline before { s with records.towPresent := towContent e.payload }

/-- The content of a frame is used, its stream record being already updated. -/
def useContent (i : StreamId) (towBefore : Bool) (e : IntakeEntry) (s : State) : State :=
  match i with
  | .demand => useDemand e s
  | .frontStatus => useStatus .front e s
  | .rearStatus => useStatus .rear e s
  | .power => { s with records.power := powerContent e.payload }
  | .reference => { s with records.reference := referenceContent e.payload }
  | .stability => useStability e s
  | .tow => useTow towBefore e s

/-- A frame of a supervised role that passed its checks (R28 items 4 to 6). -/
def takeSupervised (i : StreamId) (e : IntakeEntry) (s : State) : State :=
  let r := s.streams.get i
  let j := judgeFrame r e
  let s1 := setStream i (r.afterFrame e j) s
  if j = .used then useContent i (currentTow s) e s1 else s1

/-! ## Rejections (R29, R31) -/

/-- A frame is rejected: the rejected-frame counter rises and a REJECT event goes to the exception record. -/
def rejectFrame (e : IntakeEntry) (index : Nat) (raw : Word16) (s : State) : State :=
  takeException (.reject e.role e.arrival index raw) (countRejected s)

/-- The malformed count of a supervised stream rises (R29). -/
def countMalformed (r : Role) (s : State) : State :=
  match r with
  | .stream i =>
    setStream i { s.streams.get i with malformed := countUp (s.streams.get i).malformed } s
  | .query => s
  | .alertSeen => s

/-- The demand-clamp counter rises for a DEMAND frame whose torque is clamped (R30). -/
def countClamp (e : IntakeEntry) (s : State) : State :=
  if e.role = .stream .demand ∧ demandClamped s.par e.payload then countDemandClamp s else s

/-- A frame that passed its checks is handed on by its role (R28 items 3 and 4, R46). -/
def handEntry (e : IntakeEntry) (s : State) : State :=
  match e.role with
  | .stream i => takeSupervised i e s
  | .query => handQuery (payloadWord e.payload 1) (payloadWord e.payload 2) s
  | .alertSeen => noteAlert (payloadWord e.payload 1) s

/-- The treatment of an entry that has left the queue (R28). -/
def treatEntry (e : IntakeEntry) (s : State) : State :=
  if e.length.toNat ≠ e.expectedLength then
    rejectFrame e 0 (BitVec.ofNat 16 e.length.toNat) (countMalformed e.role s)
  else
    match failingField e.role e.payload with
    | some (index, raw) => rejectFrame e index raw s
    | none => handEntry e (countClamp e s)

/-! ## Window expiry (R35 to R39) -/

/-- An entry of the role, arrived before `due`, waits in the queue (R38, R58). -/
def entryWaits (i : StreamId) (due : Time) (s : State) : Bool :=
  s.intake.any fun e => e.role == .stream i && earlier e.arrival due

/-- The record after the expiry of its deadline `d`. -/
def StreamRecord.expired (r : StreamRecord) (d : Time) : StreamRecord :=
  match r.state with
  | .unheard => r
  | .fresh => { r with state := .late, deadline := some (later d (windowOf r)), flag := .set }
  | .late => { r with state := .lost, qualifying := 0, deadline := some (later d (windowOf r)), flag := .set }
  | .lost => { r with qualifying := 0, deadline := some (later d (windowOf r)) }

/-- An axle status stream has entered LOST: its record takes the fallback, its INVERTER cell is absent and its axle goes
OFFLINE (R36, R53, R118). -/
def loseStatus (a : Axle) (s : State) : State :=
  let old := (s.axles.get a).state
  let s1 := { s with records.status := s.records.status.set a .fallback,
                     table.inverter := s.table.inverter.set a none }
  handAxleChange a old (loseAxle a s1)

/-- The stability stream has entered LOST (R59). -/
def loseStability (s : State) : State :=
  let before := s.table.stability
  let s1 := { s with table.stability := fallbackCaps s.par }
  requestPassIf (stabilityChanged before s1) s1

/-- A stream has entered LOST, its record being already updated (R36, R39). -/
def enterLost (i : StreamId) (towBefore : Bool) (s : State) : State :=
  match i with
  | .demand => takeTrigger .demandLost (fadeCause { s with records.demand := .fallback })
  | .frontStatus => loseStatus .front s
  | .rearStatus => loseStatus .rear s
  | .power => { s with records.power := ⟨s.par.fallbackDischarge, s.par.fallbackCharge⟩ }
  | .reference => { s with records.reference := .fallback }
  | .stability => loseStability s
  | .tow => rewriteDriveline towBefore { s with records.towPresent := true }

/-- The window of a stream expires at its deadline `d`. -/
def expireWindow (i : StreamId) (d : Time) (s : State) : State :=
  let r := s.streams.get i
  let s1 := setStream i (r.expired d) s
  if r.state = .late then enterLost i (currentTow s) s1 else s1

/-- The window of a stream is to expire now: its deadline is reached and no earlier entry of its role waits (R38). -/
def windowDue (i : StreamId) (s : State) : Option Time :=
  match (s.streams.get i).deadline with
  | none => none
  | some d => if reached s.now d ∧ entryWaits i d s = false then some d else none

/-! ## Stability holds (R58) -/

/-- A hold with this expiry is to expire now. -/
def holdDue (s : State) (expiry : Time) : Bool := reached s.now expiry && !entryWaits .stability expiry s

/-- A cell whose hold `due` picks becomes absent. -/
def expireCell (due : Time → Bool) (c : Option StabilityCap) : Option StabilityCap :=
  match c with
  | none => none
  | some v =>
    match v.expiry with
    | none => some v
    | some x => if due x then none else some v

/-- The stability holds that `due` picks expire, as one event (R58). -/
def expireHolds (due : Time → Bool) (s : State) : State :=
  let before := s.table.stability
  let s1 := { s with table.stability := s.table.stability.map (expireCell due) }
  requestPassIf (stabilityChanged before s1) s1

/-! ## The decode event (R28, R38, R58) -/

/-- A hold expiry that waited for entry `e` is taken at the end of its decode: `before` is the STABILITY row before the decode,
and a cell whose expiry was renewed or replaced is left (R58). -/
def closeHolds (e : IntakeEntry) (s : State) : State :=
  if e.role = .stream .stability then expireHolds (fun x => earlier e.arrival x && holdDue s x) s else s

/-- A window expiry that waited for entry `e` is taken at the end of its decode when the decode left the deadline unmoved
(R38); the pass request of the decode is raised before it (log entry 34). `before` is the machine before the decode. -/
def closeWindow (e : IntakeEntry) (before s : State) : State :=
  match e.role with
  | .stream i =>
    match windowDue i s with
    | none => s
    | some d =>
      if (before.streams.get i).deadline = some d ∧ earlier e.arrival d then expireWindow i d s else s
  | .query => s
  | .alertSeen => s

/-- A decode takes the head of the intake queue (R27, R28); an empty queue gives it nothing. -/
def decodeHead (s : State) : State :=
  match s.intake with
  | [] => s
  | e :: rest => closeWindow e s (closeHolds e (treatEntry e { s with intake := rest }))

end Sys2Proof.Machine
end

