-- ==== Sys2Proof/Machine/Event.lean ====
section
/-! DEFINITION. One event of the part: the time at which it is taken, its own effects, and what the report unit does within
every event: the alerts, the leading alert, the status lines and STATUS (R167 to R171, R176). -/

namespace Sys2Proof.Machine

/-- The event set the quiet mark: placements made within it are taken (R158). -/
def marksQuiet (before after : State) : Bool := after.link.quiet && !before.link.quiet

/-- The lines follow their sources (R176). -/
def driveLines (before s : State) : State :=
  { s with report.sta := lineAfter (·.sta) before s s.report.sta, report.stb := lineAfter (·.stb) before s s.report.stb }

/-- One STATUS is placed when the event changed any of the values that place one; a stream whose state changed twice and is back
shows by its change flag (R39, R167). -/
def reportChanges (entering : Bool) (before s : State) : State :=
  if reported before = reported s ∧ flagRaised before s = false then s else placeStatus entering s

/-- What the report unit does at the end of an event that found the machine at `before` and whose own effects gave `s`; the end
of the quiet phase is checked at the end of the mode change that set the mark (R158). -/
def settle (before s : State) : State :=
  let entering := marksQuiet before s
  let s1 := reportChanges entering before (driveLines before (findLeading entering before (weighAlerts before s)))
  if entering then endQuietPhase s1 else s1

/-- An event taken at time `t`. -/
def event (t : Time) (effect : State → State) (s : State) : State := settle s (effect { s with now := t })

end Sys2Proof.Machine
end

