-- ==== Sys2Proof/Machine/InputCommands.lean ====
section
/-! DEFINITION. The commands of the discrete inputs and of the status timer: LINE_CHANGE, FILTER_TIMER_EXPIRY,
SUPPLY_SENSE_CHANGE, LOW_EVENT, RESTORE_EVENT and STATUS_TIMER_EXPIRY. -/

namespace Sys2Proof.Machine

/-! ## The input filters (R137) -/

/-- A change of a watched line starts a candidate with its timer, or withdraws the candidate. -/
def watchLine (now : Time) (time : Nat) (level : Level) (f : InputFilter) : InputFilter :=
  if level = f.accepted then { f with line := level, candidate := none, timer := none }
  else { f with line := level, candidate := some level, timer := some (later now time) }

/-- A line changes. The filters watch from acceptance on; a level the line already has is no change. -/
def changeLine (l : LineId) (level : Level) (s : State) : State :=
  let f := s.filters.get l
  if level = f.line then s
  else
    match s.params with
    | none => { s with filters := s.filters.set l { f with line := level } }
    | some p => { s with filters := s.filters.set l (watchLine s.now (p.filterTime.get l) level f) }

/-- LINE_CHANGE (R137). -/
def execLineChange (t : Time) (l : LineId) (level : Level) (s : State) : Host.Outcome State Fault Refusal :=
  .next (event t (changeLine l level) s)

/-- The accepted change of a line is handed on: HOLD to the mode controller, a MARK rise to the report unit. -/
def handAccepted (l : LineId) (level : Level) (s : State) : State :=
  match l, level with
  | .hold, .active => fadeCause s
  | .hold, .inactive => s
  | .mark, .active => takeTrigger .mark s
  | .mark, .inactive => s

/-- The candidate becomes the accepted level. -/
def acceptLevel (l : LineId) (level : Level) (s : State) : State :=
  { s with filters :=
      s.filters.set l { s.filters.get l with accepted := level, candidate := none, timer := none } }

/-- The filter timer of a line expires, when it is due. -/
def expireFilter (l : LineId) (s : State) : State :=
  if timerDue s.now (s.filters.get l).timer then
    match (s.filters.get l).candidate with
    | none => s
    | some level => handAccepted l level (acceptLevel l level s)
  else s

/-- FILTER_TIMER_EXPIRY (R137). -/
def execFilterTimerExpiry (t : Time) (l : LineId) (s : State) : Host.Outcome State Fault Refusal :=
  .next (event t (expireFilter l) s)

/-! ## The supply monitor (R138) -/

/-- A timer that runs while a condition holds: it starts when the condition begins and stops when it ends. -/
def runWhile (holds : Bool) (now : Time) (delay : Nat) (timer : Option Time) : Option Time :=
  if holds then (match timer with | none => some (later now delay) | some d => some d) else none

/-- The supply sense shows a level: the low timer runs while it is below 8.5 V and the judgement OK, the restore timer while it
is above 9.5 V and the judgement LOW. -/
def senseSupply (level : SupplyLevel) (s : State) : State :=
  { s with
    supply.sense := level
    supply.lowTimer :=
      runWhile (s.supply.judgement == .ok && level == .below) s.now Config.lowDelay s.supply.lowTimer
    supply.restoreTimer :=
      runWhile (s.supply.judgement == .low && level == .above) s.now Config.restoreDelay s.supply.restoreTimer }

/-- SUPPLY_SENSE_CHANGE (R138). -/
def execSupplySenseChange (t : Time) (level : SupplyLevel) (s : State) : Host.Outcome State Fault Refusal :=
  .next (event t (senseSupply level) s)

/-- The monitor judges the supply LOW. -/
def judgeLow (s : State) : State :=
  { s with
    supply.judgement := .low
    supply.flag := true
    supply.reportedMark := none
    supply.lowTimer := none
    supply.restoreTimer := runWhile (s.supply.sense == .above) s.now Config.restoreDelay none }

/-- The low event, when the low timer is due (R138, R140). -/
def takeLowEvent (s : State) : State :=
  if s.supply.judgement = .ok ∧ timerDue s.now s.supply.lowTimer then tellLow (judgeLow s) else s

/-- LOW_EVENT (R140). -/
def execLowEvent (t : Time) (s : State) : Host.Outcome State Fault Refusal := .next (event t takeLowEvent s)

/-- The monitor judges the supply OK. -/
def judgeRestored (s : State) : State :=
  { s with
    supply.judgement := .ok
    supply.restoreTimer := none
    supply.lowTimer := runWhile (s.supply.sense == .below) s.now Config.lowDelay none }

/-- The restore event, when the restore timer is due (R138, R141, R142). -/
def takeRestoreEvent (s : State) : State :=
  if s.supply.judgement = .low ∧ timerDue s.now s.supply.restoreTimer then tellRestored (judgeRestored s) else s

/-- RESTORE_EVENT (R142). -/
def execRestoreEvent (t : Time) (s : State) : Host.Outcome State Fault Refusal := .next (event t takeRestoreEvent s)

/-! ## The status timer (R167) -/

/-- The status period in force (R163, R167). -/
def statusPeriod (s : State) : Nat := if parameterFailure s then Config.failurePeriod else s.par.statusPeriod

/-- The status timer expires, when it is due: a STATUS is placed, and the next expiry is one period after this one. -/
def expireStatusTimer (s : State) : State :=
  match s.report.statusTimer with
  | none => s
  | some d =>
    if reached s.now d then placeStatus false { s with report.statusTimer := some (later d (statusPeriod s)) } else s

/-- STATUS_TIMER_EXPIRY (R167). -/
def execStatusTimerExpiry (t : Time) (s : State) : Host.Outcome State Fault Refusal :=
  .next (event t expireStatusTimer s)

end Sys2Proof.Machine
end

