-- ==== Sys2Proof/Machine/LinkCommands.lean ====
section
/-! DEFINITION. The commands of the drive link: FRAME_RECEPTION, OFFER, CLEAN_TRANSMISSION, LOST_ARBITRATION and
ECHO_MISMATCH (chapter 9). -/

namespace Sys2Proof.Machine

/-! ## Receiving (R146, R149, R150, R157, R25, R26) -/

/-- A received frame that is not valid is discarded and counted; while MUTED it ends the clean run (R146). -/
def discardInvalid (s : State) : State :=
  let s1 := countBadCheck s
  if s.link.state = .muted then { s1 with link.cleanRun := 0 } else s1

/-- The frame carries the own station, from the acceptance of the parameter block onward (R149, R150). -/
def isConflict (f : WireFrame) (s : State) : Bool := s.params.isSome && ownStation s == some f.station

/-- The clean-run count after one more clean frame; at 128 the controller leaves MUTED (R157). -/
def lengthenRun (s : State) : State :=
  if Config.cleanRunTarget ≤ s.link.cleanRun + 1 then leaveMuted s else { s with link.cleanRun := s.link.cleanRun + 1 }

/-- Step 1 of R149: while MUTED the clean-run count is moved (R157). -/
def moveCleanRun (f : WireFrame) (s : State) : State :=
  if s.link.state = .muted then
    if ownStation s ≠ some f.station then lengthenRun s
    else if isConflict f s then { s with link.cleanRun := 0 }
    else s
  else s

/-- A station conflict is counted, timed and handed to the mode controller (R150). -/
def takeConflict (s : State) : State :=
  tellConflict { countConflict s with link.conflicts := (s.now :: s.link.conflicts).take 3 }

/-- The recognition entry of a frame: the same station and the same kind (R25). -/
def recognise (s : State) (f : WireFrame) : Option RecognitionEntry :=
  s.recognition.find? fun e => e.station == f.station && e.kind == f.kind

/-- The intake entry of an admitted frame (R26). -/
def intakeEntry (now : Time) (e : RecognitionEntry) (f : WireFrame) : IntakeEntry :=
  { cls := f.cls, station := f.station, kind := f.kind, sequence := f.sequence, length := f.length, payload := f.payload,
    role := e.role, expectedLength := e.expectedLength, arrival := now }

/-- Step 3 of R149: an admitted frame is appended to the intake queue, or discarded at a full queue (R25, R26). -/
def admitFrame (f : WireFrame) (s : State) : State :=
  match recognise s f with
  | none => s
  | some e =>
    if s.intake.length < Config.intakeDepth then { s with intake := s.intake ++ [intakeEntry s.now e f] }
    else countOverflow s

/-- A valid frame received in full (R149). -/
def takeValid (f : WireFrame) (s : State) : State :=
  let s1 := moveCleanRun f s
  let s2 := if isConflict f s1 then takeConflict s1 else s1
  admitFrame f s2

/-- The gap that follows a frame begins (R146, R147). -/
def beginGap (s : State) : State := { s with link.bus := .gap 0 }

/-- The frame that ends is not valid: it is discarded and counted, unless it is the part's own aborted frame (R146, R155). -/
def dropInvalid (s : State) : State := if s.link.bus = .aborted then s else discardInvalid s

/-- The bits of a frame have been read: a valid frame is taken, also where it completes what the part aborted (R150), and an
invalid one, or one cut short, is dropped (R146). -/
def readBus (levels : List BusLevel) (s : State) : State :=
  match readFrame levels with
  | none => dropInvalid s
  | some f => if validFrame f then takeValid f s else dropInvalid s

/-- A frame on the bus has ended, and the gap begins (R146, R147, R149). The echo of the frame in transmission is no received
frame. -/
def receiveFrame (levels : List BusLevel) (s : State) : State :=
  if isOwnEcho levels s then s else beginGap (readBus levels s)

/-- FRAME_RECEPTION (R149). -/
def execFrameReception (t : Time) (levels : List BusLevel) (s : State) : Host.Outcome State Fault Refusal :=
  .next (event t (receiveFrame levels) s)

/-! ## Offering (R152) -/

/-- The controller has read these levels on the bus since it last read it (R147). -/
def watchBus (levels : List BusLevel) (s : State) : State := { s with link.bus := s.link.bus.reads levels }

/-- An offer, made in ACTIVE on a free bus with no frame in transmission; the quiet phase is checked at it (R147, R152, R158). -/
def offerNow (s : State) : State :=
  if s.link.state = .active ∧ s.link.transmitting = none ∧ s.link.bus = .free then endQuietPhase (startLowest s) else s

/-- The bus is read, and an offer is made where the part may make one. -/
def makeOffer (levels : List BusLevel) (s : State) : State := offerNow (watchBus levels s)

/-- OFFER (R152). -/
def execOffer (bus : BusReading) (s : State) : Host.Outcome State Fault Refusal :=
  .next (event bus.time (makeOffer bus.levels) s)

/-! ## Outcomes of a transmission (R153 to R155) -/

/-- A completion is reported to the block concerned (R153). -/
def reportCompletion (f : OutFrame) (s : State) : State :=
  match f.kind, f.content with
  | .frontCommand, .command tenths _ _ _ => commandDelivered .front { sequence := f.sequence, tenths := tenths } s
  | .rearCommand, .command tenths _ _ _ => commandDelivered .rear { sequence := f.sequence, tenths := tenths } s
  | .status, .status q _ _ _ => statusDelivered q s
  | .reply, .reply _ _ _ _ _ => replyDelivered s
  | _, _ => s

/-- A frame leaves the wire clean to its last end bit, and the gap begins (R153). -/
def completeFrame (f : OutFrame) (s : State) : State :=
  endQuietPhase
    (reportCompletion f
      { s with link.transmitting := none, link.bus := .gap 0, link.echoCount := s.link.echoCount - 1 })

/-- The frame in transmission loses arbitration: it returns, and the winning frame stays on the bus (R147, R154). -/
def loseFrame (f : OutFrame) (s : State) : State := endQuietPhase (returnFrame f { s with link.transmitting := none })

/-- An echo fault: the frame is aborted, the echo count and the echo-fault counter rise, and the frame returns (R155). -/
def abortFrame (f : OutFrame) (s : State) : State :=
  returnFrame f
    (countEchoFault
      { s with link.transmitting := none, link.bus := s.link.busReleased
               link.echoCount := saturatingUp s.link.echoCount Config.echoLimit })

/-- The echo of the frame in transmission differs; at an echo count of 16 the controller enters MUTED and tells the mode
controller (R155, R156). -/
def mismatchFrame (f : OutFrame) (s : State) : State :=
  let s1 := abortFrame f s
  endQuietPhase (if Config.echoLimit ≤ s1.link.echoCount then linkLoss (enterMuted s1) else s1)

/-- An outcome of the transmission falls where the bits read back show it, and nowhere else (R153 to R155; log entry 11). -/
def whenEchoed (result : EchoResult) (echo : List BusLevel) (outcome : OutFrame → State → State) (s : State) : State :=
  match s.link.transmitting with
  | none => s
  | some f => if echoOf s echo = some result then outcome f s else s

/-- The frame in transmission was transmitted cleanly (R153). -/
def completeTransmission (echo : List BusLevel) (s : State) : State := whenEchoed .clean echo completeFrame s

/-- CLEAN_TRANSMISSION (R153). -/
def execCleanTransmission (echo : BusReading) (s : State) : Host.Outcome State Fault Refusal :=
  .next (event echo.time (completeTransmission echo.levels) s)

/-- The frame in transmission lost arbitration (R154). -/
def loseArbitration (echo : List BusLevel) (s : State) : State := whenEchoed .lost echo loseFrame s

/-- LOST_ARBITRATION (R154). -/
def execLostArbitration (echo : BusReading) (s : State) : Host.Outcome State Fault Refusal :=
  .next (event echo.time (loseArbitration echo.levels) s)

/-- The echo of the frame in transmission differed (R155). -/
def mismatchEcho (echo : List BusLevel) (s : State) : State := whenEchoed .mismatch echo mismatchFrame s

/-- ECHO_MISMATCH (R155). -/
def execEchoMismatch (echo : BusReading) (s : State) : Host.Outcome State Fault Refusal :=
  .next (event echo.time (mismatchEcho echo.levels) s)

end Sys2Proof.Machine
end

