-- ==== Sys2Proof/Machine/PassCommands.lean ====
section
/-! DEFINITION. The commands of the split engine: PASS_TIMER_EXPIRY and PASS_END. -/

namespace Sys2Proof.Machine

/-- The pass timer expires, when it is due, and requests a pass (R4). -/
def expirePassTimer (s : State) : State :=
  if timerDue s.now s.engine.timer then requestPass (stopPassTimer s) else s

/-- PASS_TIMER_EXPIRY (R4). -/
def execPassTimerExpiry (t : Time) (s : State) : Host.Outcome State Fault Refusal := .next (event t expirePassTimer s)

/-- PASS_END (R8). -/
def execPassEnd (t : Time) (s : State) : Host.Outcome State Fault Refusal := .next (event t endPass s)

end Sys2Proof.Machine
end

