-- ==== Sys2Proof/Machine/QueryCommands.lean ====
section
/-! DEFINITION. The commands that a QUERY or ALERT SEEN frame gives the report unit (R46, R170, R173, R174, R66). Each is what
the decode of such a frame hands on; DECODE runs the same operations (log entry 4). -/

namespace Sys2Proof.Machine

/-- ALERT_SEEN (R170). -/
def execAlertSeen (t : Time) (number : Word16) (s : State) : Host.Outcome State Fault Refusal :=
  .next (event t (noteAlert number) s)

/-- READ_CAPTURE (R174). -/
def execReadCapture (t : Time) (argument : Word16) (s : State) : Host.Outcome State Fault Refusal :=
  .next (event t (queryReadCapture argument) s)

/-- RELEASE_CAPTURE (R173). -/
def execReleaseCapture (t : Time) (argument : Word16) (s : State) : Host.Outcome State Fault Refusal :=
  .next (event t (queryReleaseCapture argument) s)

/-- READ_EXCEPTION (R174). -/
def execReadException (t : Time) (s : State) : Host.Outcome State Fault Refusal := .next (event t queryReadException s)

/-- RELEASE_EXCEPTION (R66). -/
def execReleaseException (t : Time) (s : State) : Host.Outcome State Fault Refusal :=
  .next (event t queryReleaseException s)

/-- READ_COUNTERS (R174). -/
def execReadCounters (t : Time) (s : State) : Host.Outcome State Fault Refusal := .next (event t queryReadCounters s)

/-- READ_STREAM_COUNTS (R174). -/
def execReadStreamCounts (t : Time) (argument : Word16) (s : State) : Host.Outcome State Fault Refusal :=
  .next (event t (queryReadStreamCounts argument) s)

end Sys2Proof.Machine
end

