-- ==== Sys2Proof/Machine/StartCommands.lean ====
section
/-! DEFINITION. The commands of START: POWER_ON_RESET and READ_ATTEMPT_END (R131, R161 to R165). -/

namespace Sys2Proof.Machine

/-- Every block at its reset values, the inputs of the part standing as they are and a frame of its own being stopped; the waiting
commands and the count of free draws are the model's own and are kept (R1, R7, R24, R27, R32, R48, R64, R82, R104, R114, R131, R137,
R138, R148, R161, R167 to R176). -/
def powerOnReset (s : State) : State :=
  State.resetWith s.pending s.draws s.filters.hold.line s.filters.mark.line s.supply.sense s.link.busReleased

/-- POWER_ON_RESET (R131). -/
def execPowerOnReset (s : State) : Host.Outcome State Fault Refusal := .next (powerOnReset s)

/-- A filter takes its filter time and begins watching; a line that stands at ACTIVE is taken as a change (R137). -/
def beginWatching (now : Time) (time : Nat) (f : InputFilter) : InputFilter :=
  if f.line = .active then { f with candidate := some .active, timer := some (later now time) } else f

/-- The stream record takes its role and window (R32, R164). -/
def StreamRecord.configured (r : StreamRecord) (i : StreamId) (window : Nat) : StreamRecord :=
  { r with role := some (.stream i), window := some window }

/-- The stream table with its roles and windows. -/
def configureStreams (p : Params) (t : PerStream StreamRecord) : PerStream StreamRecord :=
  { demand := t.demand.configured .demand p.windows.demand
    frontStatus := t.frontStatus.configured .frontStatus p.windows.frontStatus
    rearStatus := t.rearStatus.configured .rearStatus p.windows.rearStatus
    power := t.power.configured .power p.windows.power
    reference := t.reference.configured .reference p.windows.reference
    stability := t.stability.configured .stability p.windows.stability
    tow := t.tow.configured .tow p.windows.tow }

/-- Steps 1 to 4 of acceptance: parameters, recognition table and streams, DRIVELINE row and AXLE cells, filters; the power
record takes its UNHEARD fallback (R36, R164). -/
def acceptTables (p : Params) (s : State) : State :=
  { s with
    port := s.port.endAttempt
    params := some p
    recognition := recognitionTable p
    streams := configureStreams p s.streams
    records.power := ⟨p.fallbackDischarge, p.fallbackCharge⟩
    table.driveline := (acceptedTable p).driveline
    table.axle := (acceptedTable p).axle
    filters := { hold := beginWatching s.now p.filterTime.hold s.filters.hold
                 mark := beginWatching s.now p.filterTime.mark s.filters.mark } }

/-- Steps 5 and 6: the report unit weighs every condition and its status timer starts; the link controller takes its identity
and is ACTIVE (R148, R164, R167, R170). -/
def acceptLink (p : Params) (s : State) : State :=
  { weighAllAlerts s with
    report.statusTimer := some (later s.now p.statusPeriod)
    link.identity := some { station := p.ownStation, classes := p.classes }
    link.state := .active
    link.quiet := false }

/-- Acceptance of a block (R164); the mode follows the supply monitor's judgement (R132). -/
def acceptBlock (p : Params) (s : State) : State :=
  enterMode (if s.supply.judgement = .ok then .dozing else .supplyHalted) .none (acceptLink p (acceptTables p s))

/-- The fixed identity of SAFE with cause PARAMETER (R163). -/
def failureIdentity : Identity := { station := 15, classes := ⟨7, 7, 7, 7, 7, 7⟩ }

/-- The third attempt fails: SAFE with cause PARAMETER (R163). -/
def failStart (s : State) : State :=
  enterMode .safe .parameter
    { s with
      port := s.port.endAttempt
      link.identity := some failureIdentity
      link.state := .active
      report.statusTimer := some (later s.now Config.failurePeriod) }

/-- The words of an attempt are checked: acceptance, the next attempt at once, or the failure of START (R162, R163). -/
def judgeBlock (words : List Word16) (s : State) : State :=
  if blockAccepted words then acceptBlock (blockParams words) s
  else if s.port.attempts < Config.maxAttempts then { s with port := s.port.endAttempt.beginAttempt }
  else failStart s

/-- An attempt ends with these bytes (R161); with no attempt under way nothing ends. -/
def endAttempt (bytes : List (BitVec 8)) (s : State) : State :=
  if s.port.reading then judgeBlock (blockWords bytes) s else s

/-- READ_ATTEMPT_END (R162). -/
def execReadAttemptEnd (t : Time) (bytes : List (BitVec 8)) (s : State) : Host.Outcome State Fault Refusal :=
  .next (event t (endAttempt bytes) s)

end Sys2Proof.Machine
end

