-- ==== Sys2Proof/Machine/StreamCommands.lean ====
section
/-! DEFINITION. The commands of the stream decoder and of its timers: DECODE, WINDOW_EXPIRY and HOLD_EXPIRY. -/

namespace Sys2Proof.Machine

/-- DECODE (R28). -/
def execDecode (t : Time) (s : State) : Host.Outcome State Fault Refusal := .next (event t decodeHead s)

/-- The expiry of a stream's window, taken when it is due (R35, R38). -/
def expireIfDue (i : StreamId) (s : State) : State :=
  match windowDue i s with
  | none => s
  | some d => expireWindow i d s

/-- WINDOW_EXPIRY (R35). -/
def execWindowExpiry (t : Time) (i : StreamId) (s : State) : Host.Outcome State Fault Refusal :=
  .next (event t (expireIfDue i) s)

/-- The expiry of the stability holds that are due (R58). -/
def expireDueHolds (s : State) : State := expireHolds (holdDue s) s

/-- HOLD_EXPIRY (R58). -/
def execHoldExpiry (t : Time) (s : State) : Host.Outcome State Fault Refusal := .next (event t expireDueHolds s)

end Sys2Proof.Machine
end

