-- ==== Sys2Proof/Machine/Dispatch.lean ====
section
/-! DEFINITION. The dispatch: one arm per command. -/

namespace Sys2Proof.Machine

def exec (i : Instr) (s : State) : Host.Outcome State Fault Refusal :=
  match i with
  | .powerOnReset => Sys2Proof.Machine.execPowerOnReset s
  | .readAttemptEnd t bytes => Sys2Proof.Machine.execReadAttemptEnd t bytes s
  | .frameReception t levels => Sys2Proof.Machine.execFrameReception t levels s
  | .decode t => Sys2Proof.Machine.execDecode t s
  | .alertSeen t number => Sys2Proof.Machine.execAlertSeen t number s
  | .readCapture t argument => Sys2Proof.Machine.execReadCapture t argument s
  | .releaseCapture t argument => Sys2Proof.Machine.execReleaseCapture t argument s
  | .readException t => Sys2Proof.Machine.execReadException t s
  | .releaseException t => Sys2Proof.Machine.execReleaseException t s
  | .readCounters t => Sys2Proof.Machine.execReadCounters t s
  | .readStreamCounts t argument => Sys2Proof.Machine.execReadStreamCounts t argument s
  | .windowExpiry t stream => Sys2Proof.Machine.execWindowExpiry t stream s
  | .holdExpiry t => Sys2Proof.Machine.execHoldExpiry t s
  | .passTimerExpiry t => Sys2Proof.Machine.execPassTimerExpiry t s
  | .passEnd t => Sys2Proof.Machine.execPassEnd t s
  | .lineChange t line level => Sys2Proof.Machine.execLineChange t line level s
  | .filterTimerExpiry t line => Sys2Proof.Machine.execFilterTimerExpiry t line s
  | .supplySenseChange t level => Sys2Proof.Machine.execSupplySenseChange t level s
  | .lowEvent t => Sys2Proof.Machine.execLowEvent t s
  | .restoreEvent t => Sys2Proof.Machine.execRestoreEvent t s
  | .statusTimerExpiry t => Sys2Proof.Machine.execStatusTimerExpiry t s
  | .offer bus => Sys2Proof.Machine.execOffer bus s
  | .cleanTransmission echo => Sys2Proof.Machine.execCleanTransmission echo s
  | .lostArbitration echo => Sys2Proof.Machine.execLostArbitration echo s
  | .echoMismatch echo => Sys2Proof.Machine.execEchoMismatch echo s

end Sys2Proof.Machine
end

