-- ==== Sys2Proof/Safety.lean ====
section
/-! DEFINITION. What counts as a sound state and a safe run, in the terms claims use. -/

namespace Sys2Proof.Machine

/-! ## What the end of every event may write -/

/-- A stream record without its change flag, which every STATUS placement may move (R168). -/
def StreamRecord.unflagged (r : StreamRecord) : StreamRecord := { r with flag := .clear }

/-- A state without what the report unit writes at the end of an event (section 11.1 to 11.3): the alerts and the leading alert,
the two status lines, the STATUS and ALERT mailboxes, the placement number, the change flags, the reported mark of the supply-low
flag, and the count of free draws. Two states whose `unreported` forms are equal agree in everything else. -/
def State.unreported (s : State) : State :=
  { s with
    draws := 0
    streams := s.streams.map StreamRecord.unflagged
    supply.reportedMark := none
    link.mailboxes.status := none
    link.mailboxes.alert := none
    report.placement := 0
    report.alerts := alertsClear
    report.leading := none
    report.sta := true
    report.stb := true }

/-- The event ends with the report unit's own work alone: everything else is as in `expected`. -/
def State.sameButReports (u expected : State) : Prop := u.unreported = expected.unreported

/-! ## The start of the part -/

/-- While the memory port reads, the part is in START and nothing has reached its blocks (R132, R163, R165). -/
def State.StartSound (s : State) : Prop :=
  s.port.reading = true →
    s.modes.mode = .start ∧ s.params = none ∧ s.recognition = [] ∧ s.intake = [] ∧ s.link.quiet = false ∧
      s.axles.front.state = .offline ∧ s.axles.rear.state = .offline ∧
      ∀ i, (s.streams.get i).state = .unheard

/-! ## Modes and the link -/

/-- Only SAFE has a cause (R131), and only SUPPLY DOWN holds a restore (R141, R142, R144). -/
def State.ModeSound (s : State) : Prop :=
  (s.modes.cause ≠ .none → s.modes.mode = .safe) ∧ (s.modes.restorePending = true → s.modes.mode = .supplyDown)

/-- The streams whose entry into LOST can fade the part: the demand itself, and the status streams, which take their axles OFFLINE
(R118, R134). -/
def canFadeThePart : StreamId → Bool
  | .demand => true
  | .frontStatus => true
  | .rearStatus => true
  | .power => false
  | .reference => false
  | .stability => false
  | .tow => false

/-- The move from a mode to another that a command can make, row by row of the tables of chapter 8: the end of START (R132), the
wake and the fade causes (R133, R134), the fade and the supply ramp complete (R135, R141), link loss (R136), the low and restore
events (R140, R142) and the third station conflict (R143). POWER_ON_RESET is apart. -/
def commandMovesMode (c : Instr) (old new : Mode) : Bool :=
  match c, old, new with
  | .readAttemptEnd _ _, .start, .dozing => true
  | .readAttemptEnd _ _, .start, .supplyHalted => true
  | .readAttemptEnd _ _, .start, .safe => true
  | .decode _, .dozing, .driving => true
  | .decode _, .fading, .driving => true
  | .decode _, .driving, .fading => true
  | .windowExpiry _ i, .driving, .fading => canFadeThePart i
  | .filterTimerExpiry _ .hold, .driving, .fading => true
  | .passEnd _, .fading, .dozing => true
  | .passEnd _, .supplyDown, .supplyHalted => true
  | .passEnd _, .supplyDown, .dozing => true
  | .echoMismatch _, .driving, .dozing => true
  | .echoMismatch _, .fading, .dozing => true
  | .lowEvent _, .dozing, .supplyHalted => true
  | .lowEvent _, .driving, .supplyDown => true
  | .lowEvent _, .fading, .supplyDown => true
  | .restoreEvent _, .supplyHalted, .dozing => true
  | .frameReception _ _, .dozing, .safe => true
  | .frameReception _ _, .driving, .safe => true
  | .frameReception _ _, .fading, .safe => true
  | .frameReception _ _, .supplyDown, .safe => true
  | .frameReception _ _, .supplyHalted, .safe => true
  | _, _, _ => false

/-- The link is quiet in SUPPLY HALTED alone, and listens in START and SUPPLY HALTED alone (R158, R159). -/
def State.LinkSound (s : State) : Prop :=
  (s.link.quiet = true → s.modes.mode = .supplyHalted) ∧
    (s.link.state = .listen → s.modes.mode = .start ∨ s.modes.mode = .supplyHalted)

/-! ## The split engine -/

/-- The pass timer runs in a mode that runs passes alone (R4), and an IDLE engine has neither a pending pass nor deferred resets
(R3, R8). -/
def State.EngineSound (s : State) : Prop :=
  (s.modes.mode.runsPasses = false → s.engine.timer = none) ∧
    (s.engine.flight = none → s.engine.pendingPass = false ∧ s.engine.deferred = [])

/-! ## Bounds -/

/-- A delay line holds at most four entries, no two of one sequence (R113). -/
def delayLineSound (line : List DelayEntry) : Prop :=
  line.length ≤ 4 ∧ line.Pairwise fun x y => x.sequence ≠ y.sequence

/-- An axle supervisor is within the bounds of section 7.1. -/
def Supervisor.Bounded (v : Supervisor) : Prop := v.tracking ≤ 16 ∧ v.sinceActivation ≤ 4 ∧ delayLineSound v.line

/-- A stream record is within the bounds of R32. -/
def StreamRecord.Bounded (r : StreamRecord) : Prop := r.qualifying ≤ 3 ∧ r.repeats ≤ 65535 ∧ r.malformed ≤ 65535

/-- The eight counters are within 16 bits (R175). -/
def Counters.Bounded (c : Counters) : Prop :=
  c.demandClamps ≤ 65535 ∧ c.intakeOverflows ≤ 65535 ∧ c.badChecks ≤ 65535 ∧ c.echoFaults ≤ 65535 ∧
    c.superseded ≤ 65535 ∧ c.stationConflicts ≤ 65535 ∧ c.missedCaptures ≤ 65535 ∧ c.rejectedFrames ≤ 65535

/-- Queues and counts of the link controller and the memory port are within their bounds (R27, R143, R147, R148, R155, R157,
R163). -/
def State.QueuesBounded (s : State) : Prop :=
  s.intake.length ≤ 8 ∧ (∀ n, s.link.bus = .gap n → n < 8) ∧ s.link.echoCount ≤ 16 ∧ s.link.cleanRun < 128 ∧
    s.link.conflicts.length ≤ 3 ∧ s.port.attempts ≤ 3

/-- Saturating counts are within their bounds (R32, R65, R169, R172, R174, R175). -/
def State.CountsBounded (s : State) : Prop :=
  s.report.counters.Bounded ∧ s.report.powerRun ≤ 20 ∧ s.report.query.refused ≤ 65535 ∧
    (∀ h, s.exception = some h → h.further ≤ 255) ∧ (∀ r, s.report.request = some r → r.merged ≤ 255) ∧
    ∀ i, (s.streams.get i).Bounded

/-! ## Streams, records and the constraint table -/

/-- A window runs for a stream that has been heard, and for no other (R32, R33). -/
def State.WindowsSound (s : State) : Prop :=
  ∀ i, (s.streams.get i).state = .unheard ↔ (s.streams.get i).deadline = none

/-- The record of a stream that is UNHEARD or LOST is its fallback (R36, R42, R43, R44). -/
def State.RecordsFollow (s : State) : Prop :=
  (s.streams.demand.state.believed = false → s.records.demand = .fallback) ∧
    (∀ a, (s.streams.get (statusStream a)).state.believed = false → s.records.status.get a = .fallback) ∧
    (∀ p, s.params = some p → s.streams.power.state.believed = false →
      s.records.power = ⟨p.fallbackDischarge, p.fallbackCharge⟩) ∧
    (s.streams.reference.state.believed = false → s.records.reference = .fallback) ∧
    (s.streams.tow.state = .unheard → s.records.towPresent = false) ∧
    (s.streams.tow.state = .lost → s.records.towPresent = true)

/-- The AXLE cell of an axle in a state, with its accepting flag and its derate cap: the table of R54, and R128. -/
def AxleState.cell (derateCap : Int) : AxleState → Bool → Option Bounds
  | .offline, _ => some { ceiling := 0, floor := 0 }
  | .standby, _ => some { ceiling := 0, floor := 0 }
  | .faulted, _ => some { ceiling := 0, floor := 0 }
  | .active, false => some { ceiling := 0, floor := 0 }
  | .active, true => none
  | .derated, false => some { ceiling := 0, floor := 0 }
  | .derated, true => some { ceiling := derateCap, floor := -derateCap }

/-- Rows 1 to 4 of the constraint table follow what their rules name: INVERTER the status stream (R53), STABILITY the stability
stream where it is UNHEARD or LOST (R59), and from acceptance on DRIVELINE the tow state (R50) and AXLE the axle state and the
accepting flag by the table of R54. -/
def State.TableFollows (s : State) : Prop :=
  (∀ a, (s.table.inverter.get a).isSome = (s.streams.get (statusStream a)).state.believed) ∧
    (s.streams.stability.state = .unheard → s.table.stability = ⟨none, none⟩) ∧
    ∀ p, s.params = some p →
      (∀ a, s.table.driveline.get a =
        some (symmetric (drivelineLimit p (towState s.streams.tow.state s.records.towPresent) a))) ∧
      (∀ a, s.table.axle.get a = (s.axles.get a).state.cell (p.derateCap.get a) (s.records.status.get a).accepting) ∧
      (s.streams.stability.state = .lost →
        ∀ a, s.table.stability.get a = some { cap := p.stabilityFallback.get a, expiry := none })

/-- The GRIP row holds each regulator's ceiling, and is absent where the ceiling is unset (R60, R82). -/
def State.GripFollows (s : State) : Prop := ∀ a, s.table.grip.get a = (s.grip.get a).ceiling.map symmetric

/-- A source of a status line holds (the table of R176). -/
def State.lineHolds (s : State) : LineSource → Prop
  | .none => False
  | .driving => s.modes.mode = .driving
  | .axleImpaired => ∃ a, (s.axles.get a).state = .derated ∨ (s.axles.get a).state = .faulted
  | .safe => s.modes.mode = .safe
  | .supplyLow => s.supply.flag = true
  | .alertLeading => s.report.leading ≠ none
  | .powerScaled => 20 ≤ s.report.powerRun
  | .captureHeld => s.report.slotOne ≠ none ∨ s.report.slotTwo ≠ none

/-- STA and STB are high until a block is accepted, and from then on each is at its active level while its source holds, and at
the other level while it does not (R176). -/
def State.LinesFollow (s : State) : Prop :=
  (s.params = none → s.report.sta = true ∧ s.report.stb = true) ∧
    ∀ p, s.params = some p →
      (s.report.sta = p.sta.activeHigh ↔ s.lineHolds p.sta.source) ∧
        (s.report.stb = p.stb.activeHigh ↔ s.lineHolds p.stb.source)

/-- The condition of an alert (the table of section 11.2). -/
def State.alertHolds (s : State) : AlertId → Prop
  | .demandLost => s.streams.demand.state = .lost
  | .frontDerated => s.axles.front.state = .derated
  | .rearDerated => s.axles.rear.state = .derated
  | .frontFaulted => s.axles.front.state = .faulted
  | .rearFaulted => s.axles.rear.state = .faulted
  | .powerScaled => 20 ≤ s.report.powerRun
  | .referenceLost =>
    s.streams.reference.state = .lost ∨
      (s.streams.reference.state = .fresh ∨ s.streams.reference.state = .late) ∧ s.records.reference.valid = false
  | .gripLimiting => s.report.gripLimiting = true
  | .exceptionHeld => s.exception ≠ none
  | .supplyLow => s.supply.flag = true

/-- The leading alert is the RAISED alert of highest rank at or above the report threshold, the lower number between equal ranks,
or none when there is no such alert (R171). -/
def PerAlert.ledBy (alerts : PerAlert AlertState) (p : Params) (leading : Option AlertId) : Prop :=
  (leading = none → ∀ j, alerts.get j = .raised → p.ranks.get j < p.reportThreshold) ∧
    ∀ i, leading = some i →
      alerts.get i = .raised ∧ p.reportThreshold ≤ p.ranks.get i ∧
        ∀ j, alerts.get j = .raised → p.ranks.get j ≤ p.ranks.get i ∧ (p.ranks.get j = p.ranks.get i → i.number ≤ j.number)

/-- Until a block is accepted no alert is raised. From then on an alert is RAISED or NOTED exactly while its condition is true and
its rank is not 0 (R170), and the leading alert is the one R171 gives. -/
def State.AlertsFollow (s : State) : Prop :=
  (s.params = none → s.report.alerts = alertsClear ∧ s.report.leading = none) ∧
    ∀ p, s.params = some p →
      (∀ i, s.report.alerts.get i ≠ .clear ↔ s.alertHolds i ∧ p.ranks.get i ≠ 0) ∧ s.report.alerts.ledBy p s.report.leading

/-- The bounds of a cell contain zero (R48). -/
def Bounds.containsZero (b : Bounds) : Prop := b.floor ≤ 0 ∧ 0 ≤ b.ceiling

/-- A window contains zero. -/
def Window.containsZero (w : Window) : Prop := w.floor ≤ 0 ∧ 0 ≤ w.ceiling

/-- A value lies in a window. -/
def Window.holds (w : Window) (v : Int) : Prop := w.floor ≤ v ∧ v ≤ w.ceiling

/-- The parameters' limits that a pass rests on (sections 10.4 and R162): the rates, the shares, the grip floor under every
driveline limit and the driveline limits. -/
def Params.PassSound (p : Params) : Prop :=
  0 ≤ p.gripFloor ∧ 0 ≤ p.cutGain ∧ 0 ≤ p.recoveryRate ∧ 0 ≤ p.riseRate ∧ 0 ≤ p.releaseRate ∧ 0 ≤ p.supplyFallRate ∧
    0 ≤ p.shareMin ∧ p.shareMin ≤ p.shareMax ∧ p.shareMax ≤ 1000 ∧
    ∀ tow a, p.gripFloor ≤ drivelineLimit p tow a ∧ drivelineLimit p tow a ≤ 16000

/-- The snapshot of a pass is one that the constraint table can give: its DRIVELINE row agrees with its tow state and every
present cell of rows 2 to 4 contains zero (R48, R51, R62). -/
def Snapshot.Sound (p : Params) (sn : Snapshot) : Prop :=
  ∀ a,
    sn.table.driveline.get a = some (symmetric (drivelineLimit p (passTow sn) a)) ∧
    (∀ b, sn.table.inverter.get a = some b → b.containsZero) ∧
    (∀ b, sn.table.axle.get a = some b → b.containsZero) ∧
    (∀ c, sn.table.stability.get a = some c → 0 ≤ c.cap) ∧
    (∀ b, sn.table.grip.get a = some b → p.gripFloor ≤ b.ceiling)

/-- A pass of SUPPLY DOWN has its SUPPLY cells (R14, R61). -/
def Snapshot.SupplyPresent (sn : Snapshot) : Prop := sn.mode = .supplyDown → ∀ a, sn.table.supply.get a ≠ none

/-- The bounds that the present cells of an axle set a pass whose grip ceiling is `g`, in row order: the snapshot's cells of rows
1 to 4, STABILITY at ± its cap, the GRIP cell at ±G, and in a pass of SUPPLY DOWN the SUPPLY cell, its ceiling lowered by the fall
rate and not below 0 (R14). -/
def Snapshot.presentBounds (sn : Snapshot) (p : Params) (g : Int) (a : Axle) : List RowBound :=
  let lowered (b : Bounds) := max 0 (b.ceiling - p.supplyFallRate * elapsedTime sn)
  ((sn.table.driveline.get a).map fun b => RowBound.mk .driveline b).toList ++
    ((sn.table.inverter.get a).map fun b => RowBound.mk .inverter b).toList ++
    ((sn.table.axle.get a).map fun b => RowBound.mk .axle b).toList ++
    ((sn.table.stability.get a).map fun c => RowBound.mk .stability { ceiling := c.cap, floor := -c.cap }).toList ++
    [RowBound.mk .grip { ceiling := g, floor := -g }] ++
    if sn.mode = .supplyDown then
      ((sn.table.supply.get a).map fun b => RowBound.mk .supply { ceiling := lowered b, floor := -(lowered b) }).toList
    else []

/-- The parameters in force are ones that a pass can rest on, every cell of the table contains zero, no regulator stands below the
grip floor, and a pass in flight runs on such a snapshot (R48, R62, R94). In SUPPLY DOWN an IDLE engine finds the SUPPLY cells
present, and so does a pass (R61). -/
def State.PassesSound (s : State) : Prop :=
  (s.port.reading = true → s.engine.flight = none ∧ ∀ a, (s.grip.get a).ceiling = none) ∧
    (∀ a b, s.table.inverter.get a = some b → b.containsZero) ∧
    (∀ a c, s.table.stability.get a = some c → 0 ≤ c.cap) ∧
    (s.modes.mode = .supplyDown → s.engine.flight = none → ∀ a, s.table.supply.get a ≠ none) ∧
    (∀ sn, s.engine.flight = some sn → sn.SupplyPresent) ∧
    ∀ p, s.params = some p →
      p.PassSound ∧ 0 ≤ p.fallbackCharge ∧ 0 ≤ s.records.power.charge ∧
        (∀ a, 0 ≤ p.ratio.get a ∧ 0 ≤ p.derateCap.get a ∧ 0 ≤ p.stabilityFallback.get a) ∧
        (∀ a g, (s.grip.get a).ceiling = some g → p.gripFloor ≤ g) ∧
        ∀ sn, s.engine.flight = some sn → sn.Sound p ∧ 0 ≤ sn.power.charge

/-! ## The change flags -/

/-- No change flag is SET: the STATUS that the event of a state change places carries every flag within that event (R39, R167,
R168; also where that STATUS is refused, log entry 19). -/
def State.FlagsReported (s : State) : Prop := ∀ i, (s.streams.get i).flag ≠ .set

/-- The change flags after an event that leaves stream `i` in state `x`, `u` being the machine after it and `s` before. A change
of its state sets the flag, which the STATUS of the event carries; a stream that was LATE, and is LATE again once its frame was
used, has changed twice (R33 to R37, R39, R167, R168). A STATUS carries each other flag that is raised; without one every flag
stays. -/
def State.FlagsFollow (s u : State) (i : StreamId) (x : StreamState) : Prop :=
  ((s.streams.get i).state ≠ x ∨ (s.streams.get i).state = .late ∧ (s.streams.get i).flag ≠ .set →
    u.report.placement = s.report.placement + 1 ∧ (u.streams.get i).flag = .carried (s.report.placement + 1)) ∧
  ∀ j, (j = i → (s.streams.get i).state = .fresh ∧ x = .fresh) →
    (u.streams.get j).flag =
      if u.report.placement = s.report.placement ∨ (s.streams.get j).flag = .clear then (s.streams.get j).flag
      else .carried (s.report.placement + 1)

/-! ## The parameter block -/

/-- Word `k` of a block, as a number. -/
def wordAt (words : List Word16) (k : Nat) : Nat := (words.getD k 0).toNat

/-- Words `k`, `k + 1`, …, `n` of them, as numbers. -/
def wordsAt (words : List Word16) (k n : Nat) : List Int := (List.range n).map fun i => (wordAt words (k + i) : Int)

/-- A status line as words 91 and 92 hold it: the source in bits 2–0, the polarity in bit 8. -/
def LineConfig.readFrom (c : LineConfig) (word : Nat) : Prop :=
  [LineSource.none, .driving, .axleImpaired, .safe, .supplyLow, .alertLeading, .powerScaled, .captureHeld][word % 8]? =
      some c.source ∧
    (c.activeHigh = true ↔ word / 256 % 2 = 1)

/-- The parameters are those of a block in the word order of section 9.7, field by field. -/
def Params.readFrom (p : Params) (words : List Word16) : Prop :=
  let w := wordAt words
  p.ownStation.toNat = w 1 % 16 ∧
    p.roles.map (fun e => (e.role, e.station.toNat, e.kind.toNat)) =
      [(.stream .demand, w 2 / 16 % 16, w 2 % 16), (.stream .frontStatus, w 3 / 16 % 16, w 3 % 16),
       (.stream .rearStatus, w 4 / 16 % 16, w 4 % 16), (.stream .power, w 5 / 16 % 16, w 5 % 16),
       (.stream .reference, w 6 / 16 % 16, w 6 % 16), (.stream .stability, w 7 / 16 % 16, w 7 % 16),
       (.stream .tow, w 8 / 16 % 16, w 8 % 16), (.query, w 9 / 16 % 16, w 9 % 16), (.alertSeen, w 10 / 16 % 16, w 10 % 16)] ∧
    p.classes.frontCommand.toNat = w 11 / 256 % 8 ∧ p.classes.rearCommand.toNat = w 11 % 8 ∧
    p.classes.splitReport.toNat = w 12 / 256 % 8 ∧ p.classes.alert.toNat = w 12 % 8 ∧
    p.classes.status.toNat = w 13 / 256 % 8 ∧ p.classes.reply.toNat = w 13 % 8 ∧
    p.statusPeriod = w 14 ∧ p.windows = ⟨w 15, w 16, w 16, w 17, w 18, w 19, w 20⟩ ∧
    p.ratio = ⟨w 21, w 22⟩ ∧ p.speedFactor = ⟨w 23 % 4 * 65536 + w 24, w 25 % 4 * 65536 + w 26⟩ ∧
    p.drivelineSolo = ⟨w 27, w 28⟩ ∧ p.drivelineTow = ⟨w 29, w 30⟩ ∧ p.demandMax = w 31 ∧
    p.bandEdges = wordsAt words 32 7 ∧ p.shareSolo = wordsAt words 39 8 ∧ p.shareTow = wordsAt words 47 8 ∧
    p.loadShift = w 55 ∧ p.shareMin = w 56 ∧ p.shareMax = w 57 ∧
    p.slipSoloNormal = w 58 ∧ p.slipSoloLowGrip = w 59 ∧ p.slipTowNormal = w 60 ∧ p.slipTowLowGrip = w 61 ∧
    p.cutGain = w 62 ∧ p.gripFloor = w 63 ∧ p.recoveryRate = w 64 ∧
    p.riseRate = w 65 ∧ p.releaseRate = w 66 ∧ p.supplyFallRate = w 67 ∧ p.reserve = w 68 ∧ p.lossAllowance = w 69 ∧
    p.fallbackDischarge = w 70 ∧ p.fallbackCharge = w 71 ∧ p.stabilityFallback = ⟨w 72, w 73⟩ ∧
    p.trackingAbs = w 74 ∧ p.trackingRel = w 75 ∧ p.derateCap = ⟨w 76, w 77⟩ ∧ p.maxPassInterval = w 78 ∧
    (∀ i, p.ranks.get i = w (78 + i.number)) ∧ p.reportThreshold = w 89 ∧
    p.captureMode = (if w 90 / 256 % 2 = 1 then .keepLatest else .keepFirst) ∧
    (p.enables.axleFaulted = true ↔ w 90 / 16 % 2 = 1) ∧ (p.enables.driveline = true ↔ w 90 / 8 % 2 = 1) ∧
    (p.enables.supplyDown = true ↔ w 90 / 4 % 2 = 1) ∧ (p.enables.mark = true ↔ w 90 / 2 % 2 = 1) ∧
    (p.enables.demandLost = true ↔ w 90 % 2 = 1) ∧
    p.sta.readFrom (w 91) ∧ p.stb.readFrom (w 92) ∧ p.filterTime = ⟨w 93, w 94⟩

/-- Every field lies in its range (the table of section 10.4; check 3 of R162, R166). A station, a kind, a class, an enable, a
source and a polarity fill their bits and are in range by construction. -/
def Params.InRange (p : Params) : Prop :=
  (5 ≤ p.windows.demand ∧ p.windows.demand ≤ 200) ∧ (2 ≤ p.windows.frontStatus ∧ p.windows.frontStatus ≤ 100) ∧
    (10 ≤ p.windows.power ∧ p.windows.power ≤ 1000) ∧ (5 ≤ p.windows.reference ∧ p.windows.reference ≤ 200) ∧
    (5 ≤ p.windows.stability ∧ p.windows.stability ≤ 500) ∧ (100 ≤ p.windows.tow ∧ p.windows.tow ≤ 5000) ∧
    (1000 ≤ p.demandMax ∧ p.demandMax ≤ 16000) ∧ (0 ≤ p.fallbackDischarge ∧ p.fallbackDischarge ≤ 6000) ∧
    (0 ≤ p.fallbackCharge ∧ p.fallbackCharge ≤ 6000) ∧
    (∀ a, (500 ≤ p.drivelineSolo.get a ∧ p.drivelineSolo.get a ≤ 16000) ∧
      (500 ≤ p.drivelineTow.get a ∧ p.drivelineTow.get a ≤ 16000) ∧
      (0 ≤ p.stabilityFallback.get a ∧ p.stabilityFallback.get a ≤ 16000) ∧ (256 ≤ p.ratio.get a ∧ p.ratio.get a ≤ 5120) ∧
      (1 ≤ p.speedFactor.get a ∧ p.speedFactor.get a ≤ 262143) ∧ (0 ≤ p.derateCap.get a ∧ p.derateCap.get a ≤ 16000)) ∧
    (5 ≤ p.maxPassInterval ∧ p.maxPassInterval ≤ 50) ∧ (∀ v ∈ p.bandEdges, 0 ≤ v ∧ v ≤ 25000) ∧
    (∀ v ∈ p.shareSolo ++ p.shareTow, 0 ≤ v ∧ v ≤ 1000) ∧ (0 ≤ p.loadShift ∧ p.loadShift ≤ 255) ∧
    (0 ≤ p.shareMin ∧ p.shareMin ≤ 1000) ∧ (0 ≤ p.shareMax ∧ p.shareMax ≤ 1000) ∧ (0 ≤ p.reserve ∧ p.reserve ≤ 200) ∧
    (0 ≤ p.lossAllowance ∧ p.lossAllowance ≤ 300) ∧
    (∀ v ∈ [p.slipSoloNormal, p.slipSoloLowGrip, p.slipTowNormal, p.slipTowLowGrip], 20 ≤ v ∧ v ≤ 300) ∧
    (1 ≤ p.cutGain ∧ p.cutGain ≤ 64) ∧ (0 ≤ p.gripFloor ∧ p.gripFloor ≤ 4000) ∧ (1 ≤ p.recoveryRate ∧ p.recoveryRate ≤ 100) ∧
    (1 ≤ p.riseRate ∧ p.riseRate ≤ 255) ∧ (1 ≤ p.releaseRate ∧ p.releaseRate ≤ 255) ∧
    (10 ≤ p.supplyFallRate ∧ p.supplyFallRate ≤ 1000) ∧ (0 ≤ p.trackingAbs ∧ p.trackingAbs ≤ 1000) ∧
    (0 ≤ p.trackingRel ∧ p.trackingRel ≤ 500) ∧ (∀ l, 1 ≤ p.filterTime.get l ∧ p.filterTime.get l ≤ 50) ∧
    (20 ≤ p.statusPeriod ∧ p.statusPeriod ≤ 1000) ∧ (∀ i, p.ranks.get i ≤ 15) ∧
    (1 ≤ p.reportThreshold ∧ p.reportThreshold ≤ 15)

/-- The parameters agree with each other (check 4 of R162). -/
def Params.Agree (p : Params) : Prop :=
  p.shareMin ≤ p.shareMax ∧ (∀ a, p.gripFloor ≤ p.drivelineSolo.get a ∧ p.gripFloor ≤ p.drivelineTow.get a) ∧
    p.bandEdges.Pairwise (fun lower higher => lower < higher) ∧
    p.roles.Pairwise (fun e f => ¬ (e.station = f.station ∧ e.kind = f.kind)) ∧ ∀ e ∈ p.roles, e.station ≠ p.ownStation

/-! ## Frames and times -/

/-- The content of a frame is used: its sequence is new, and its stream is not LOST or this is its third qualifying frame (R33 to
R37). -/
def StreamRecord.uses (r : StreamRecord) (e : IntakeEntry) : Prop :=
  r.lastSequence ≠ some e.sequence ∧
    (r.state ≠ .lost ∨ (r.qualifying = 2 ∧ ∃ d, r.deadline = some d ∧ earlier e.arrival d = true))

/-- The record that a frame whose content is used leaves, its change flag aside (R33 to R37). -/
def StreamRecord.freshened (r : StreamRecord) (e : IntakeEntry) : StreamRecord :=
  { r with lastSequence := some e.sequence, lastArrival := e.arrival, deadline := some (later e.arrival (r.window.getD 0)),
           state := .fresh, qualifying := 0 }

/-- The record that a used frame leaves at the end of its decode, its change flag aside: the freshened one, whose new deadline
governs whatever the old one was; and LATE at once where the frame has left the deadline as it was, the time has reached it, and
no other entry that arrived before it waits (R34, R35, R38). -/
def State.streamAfterUse (s : State) (t : Time) (e : IntakeEntry) (rest : List IntakeEntry) (i : StreamId) : StreamRecord :=
  let r := (s.streams.get i).freshened e
  let d := later e.arrival ((s.streams.get i).window.getD 0)
  if (s.streams.get i).deadline = some d ∧ earlier e.arrival d = true ∧ reached t d = true ∧
      (∀ x ∈ rest, x.role = .stream i → earlier x.arrival d = false) then
    { r with state := .late, deadline := some (later d ((s.streams.get i).window.getD 0)) }
  else r

/-- The head of the intake queue at a decode: its entry, of this role and of the expected length (R28). -/
def State.headIs (s : State) (e : IntakeEntry) (rest : List IntakeEntry) (r : Role) : Prop :=
  s.intake = e :: rest ∧ e.role = r ∧ e.length.toNat = e.expectedLength

/-- The fields of a frame pass the checks of R31: a DEMAND frame has no direction code 3 and no profile code above 1, and neither
cap of a STABILITY frame lies in 16 001 … 65 534. -/
def fieldsPass (r : Role) (ws : List Word16) : Prop :=
  (r = .stream .demand → (payloadWord ws 2).toNat % 4 ≠ 3 ∧ (payloadWord ws 3).toNat ≤ 1) ∧
    (r = .stream .stability → ∀ k, k = 1 ∨ k = 2 → ¬ (16001 ≤ (payloadWord ws k).toNat ∧ (payloadWord ws k).toNat ≤ 65534))

/-- The command decodes a frame that makes a LATE stream FRESH and leaves its deadline as it was, which then expires: the stream
is LATE again at the end of the event (R35, R38). -/
def State.returnsToLate (s : State) (c : Instr) : Prop :=
  ∃ t e rest i, c = .decode t ∧ s.headIs e rest (.stream i) ∧ fieldsPass e.role e.payload ∧ (s.streams.get i).uses e ∧
    (s.streams.get i).state = .late ∧ (s.streamAfterUse t e rest i).state = .late

/-- The decode of an entry `e` of stream `i` that is not used leaves `w`, where `treated` is the machine once the entry is
treated. A hold, and the window whose deadline the entry has left as it was, that waited for the entry expire at once, each as the
command of its expiry has it (R38, R58), the hold first (log entry 20); one that the entry did not arrive before is left. The
cells that one frame set share their hold. -/
def State.closedBy (s treated w : State) (t : Time) (e : IntakeEntry) (i : StreamId) : Prop :=
  ∃ v,
    ((i = .stability → ∀ a c x, s.table.stability.get a = some c → c.expiry = some x → reached t x = true →
        earlier e.arrival x = false) → v = { treated with now := t }) ∧
    (i = .stability → (∀ a c x, s.table.stability.get a = some c → c.expiry = some x → reached t x = true →
        earlier e.arrival x = true) → exec (.holdExpiry t) treated = .next v) ∧
    ((∀ d, (s.streams.get i).deadline = some d → (treated.streams.get i).deadline = some d → reached t d = true →
        earlier e.arrival d = false) → w = v) ∧
    (∀ d, (s.streams.get i).deadline = some d → (treated.streams.get i).deadline = some d → earlier e.arrival d = true →
      exec (.windowExpiry t i) v = .next w)

/-- A demand record holds what a DEMAND payload carries: the torque in word 1, ready in bit 15 and the direction in bits 1–0 of
word 2, the profile in word 3 (section 9.7), the torque within ± the demand maximum (R30, R40). -/
def DemandRecord.carriedBy (d : DemandRecord) (p : Params) (ws : List Word16) : Prop :=
  d.torque = clampTo (-p.demandMax) p.demandMax (payloadWord ws 1).toInt ∧
    (d.ready = true ↔ 32768 ≤ (payloadWord ws 2).toNat) ∧
    (d.direction = .neutral ↔ (payloadWord ws 2).toNat % 4 = 0) ∧ (d.direction = .forward ↔ (payloadWord ws 2).toNat % 4 = 1) ∧
    (d.direction = .reverse ↔ (payloadWord ws 2).toNat % 4 = 2) ∧
    (d.profile = .normal ↔ (payloadWord ws 3).toNat = 0) ∧ (d.profile = .lowGrip ↔ (payloadWord ws 3).toNat = 1)

/-- An axle status record holds what an AXLE STATUS payload carries: the motor speed, the applied torque and the two capabilities
in words 1 to 4, signed and clamped, the echoed sequence in bits 3–0 of word 5, and ready, accepting and fault in bits 0, 1 and 2
of word 6 (section 9.7, R30, R41). -/
def AxleStatus.carriedBy (f : AxleStatus) (ws : List Word16) : Prop :=
  f.speed = max (-20000) (min 20000 (payloadWord ws 1).toInt) ∧ f.applied = max (-6000) (min 6000 (payloadWord ws 2).toInt) ∧
    f.driveCapability = max 0 (min 6000 (payloadWord ws 3).toInt) ∧
    f.regenCapability = max 0 (min 6000 (payloadWord ws 4).toInt) ∧ f.echoed.toNat = (payloadWord ws 5).toNat % 16 ∧
    (f.ready = true ↔ (payloadWord ws 6).toNat % 2 = 1) ∧ (f.accepting = true ↔ (payloadWord ws 6).toNat / 2 % 2 = 1) ∧
    (f.fault = true ↔ (payloadWord ws 6).toNat / 4 % 2 = 1)

/-- A pass request, `u` being the machine after it and `s` before: in a mode that runs passes an IDLE engine starts a pass at the
time of the event, with the table and the mode as they then stand, and a pass in flight is followed by a pending one; in another
mode it is dropped (R3, R5). -/
def State.PassRequested (s u : State) : Prop :=
  (u.modes.mode.runsPasses = true → s.engine.flight = none →
    ∃ sn, u.engine.flight = some sn ∧ sn.table = u.table ∧ sn.mode = u.modes.mode ∧ sn.time = u.now ∧
      u.engine.lastStart = u.now) ∧
    (∀ sn, u.modes.mode.runsPasses = true → s.engine.flight = some sn →
      u.engine.flight = some sn ∧ u.engine.pendingPass = true) ∧
    (u.modes.mode.runsPasses = false →
      u.engine.flight = s.engine.flight ∧ u.engine.pendingPass = s.engine.pendingPass ∧ u.engine.timer = s.engine.timer)

/-- What a status frame, or the loss of a status stream, gives the rest of the part when it changes the state of axle `a`, `u`
being the machine after it and `s` before: DRIVING with both axles OFFLINE or FAULTED becomes FADING (R134), a pass is requested
(R121), and an axle that has become OFFLINE has its grip regulator reset and its GRIP cell absent, or the reset put off to the end
of the pass in flight (R82, R83); a reset that leaves both regulators GRIPPING ends GRIP LIMITING (R96, R169). An axle that keeps
its state brings none of this. -/
def State.AxleHandedOn (s u : State) (a : Axle) : Prop :=
  ((u.axles.get a).state = (s.axles.get a).state →
    u.modes = s.modes ∧ u.engine = s.engine ∧ u.grip = s.grip ∧ u.table.grip = s.table.grip ∧
      u.report.gripLimiting = s.report.gripLimiting) ∧
  ((u.axles.get a).state ≠ (s.axles.get a).state →
    u.modes.mode = (if s.modes.mode = .driving ∧ u.axles.front.state.unable = true ∧ u.axles.rear.state.unable = true
      then .fading else s.modes.mode) ∧
    s.PassRequested u ∧
    (∀ b, (b ≠ a ∨ (u.axles.get a).state ≠ .offline ∨ s.engine.flight ≠ none) →
      u.grip.get b = s.grip.get b ∧ u.table.grip.get b = s.table.grip.get b) ∧
    ((u.axles.get a).state = .offline → s.engine.flight = none →
      u.grip.get a = { ceiling := none, state := .gripping, limitingSince := none } ∧ u.table.grip.get a = none ∧
        u.engine.deferred = s.engine.deferred ∧
        u.report.gripLimiting =
          (if u.grip.front.state = .gripping ∧ u.grip.rear.state = .gripping then false else s.report.gripLimiting)) ∧
    ((u.axles.get a).state = .offline → s.engine.flight ≠ none →
      u.engine.deferred = s.engine.deferred ++ [.regulator a] ∧ u.report.gripLimiting = s.report.gripLimiting) ∧
    ((u.axles.get a).state ≠ .offline →
      u.engine.deferred = s.engine.deferred ∧ u.report.gripLimiting = s.report.gripLimiting))

/-! ## Passes -/

/-- The snapshot of a pass that starts at `t` with this constraint table (R5). -/
def State.snapshotAt (s : State) (table : ConstraintTable) (t : Time) : Snapshot :=
  { demand := s.records.demand, demandState := s.streams.demand.state, status := s.records.status,
    statusState := ⟨s.streams.frontStatus.state, s.streams.rearStatus.state⟩, power := s.records.power,
    powerState := s.streams.power.state, reference := s.records.reference, referenceState := s.streams.reference.state,
    towPresent := s.records.towPresent, towState := s.streams.tow.state, table := table, hold := s.filters.hold.accepted,
    mode := s.modes.mode, time := t, lastStartBefore := s.engine.lastStart, firstPass := s.engine.firstPass }

/-- What a pass end leaves of the results of its pass, `u` being the machine after it and `s` before: the previous commands, the
regulators and the GRIP cells as step 1 writes them and the deferred resets of step 6 then reset them (R8, R60, R83), and GRIP
LIMITING: true at step 3 when an axle's limiting since lies 1 000 ms or more before the snapshot time, false when both axles are
GRIPPING, whether by the pass or by a reset, else kept (R96, R169). -/
def State.ResultsWritten (s u : State) (sn : Snapshot) (out : PassOut) : Prop :=
  u.engine.previous = (if .previousCommands ∈ s.engine.deferred then ⟨0, 0⟩ else out.record.final) ∧
    (∀ a, u.grip.get a =
      if .regulator a ∈ s.engine.deferred then { ceiling := none, state := .gripping, limitingSince := none }
      else out.grip.get a) ∧
    (∀ a, u.table.grip.get a =
      if .regulator a ∈ s.engine.deferred then none
      else some { ceiling := out.record.gripCeiling.get a, floor := -(out.record.gripCeiling.get a) }) ∧
    ((∃ a, .regulator a ∈ s.engine.deferred) → (∀ a, (u.grip.get a).state = .gripping) → u.report.gripLimiting = false) ∧
    (((∀ a, .regulator a ∉ s.engine.deferred) ∨ ∃ a, (u.grip.get a).state ≠ .gripping) →
      (∀ a since, (out.grip.get a).limitingSince = some since → 1000 ≤ (sn.time - since).toNat →
        u.report.gripLimiting = true) ∧
      ((∀ a since, (out.grip.get a).limitingSince = some since → (sn.time - since).toNat < 1000) →
        u.report.gripLimiting =
          if out.grip.front.state = .gripping ∧ out.grip.rear.state = .gripping then false else s.report.gripLimiting))

/-- How many AXLE COMMANDs of a pass end find an older one in their mailbox: an axle gets one where it is in service or still
marked (R105 to R107, R110, R151). -/
def State.commandsReplaced (s : State) : Nat :=
  ([Axle.front, .rear].filter fun a =>
    ((s.axles.get a).state.inService || s.issuer.inService.get a) && (s.link.mailboxes.get (commandKind a)).isSome).length

/-- The superseded-command counter after a pass end that places AXLE COMMANDs (R110, R151). -/
def State.supersededAfter (s : State) : Nat :=
  if s.commandsReplaced = 0 then s.report.counters.superseded
  else min (s.report.counters.superseded + s.commandsReplaced) 65535

/-! ## Captures -/

/-- A capture request is filled, `u` being the report unit after it and `r` before: the capture takes the lower-numbered FREE
slot; with none free it is dropped and counted in KEEP FIRST, and in KEEP LATEST it overwrites the slot filled longer ago. The
request is then none (R173). -/
def ReportUnit.Filled (r u : ReportUnit) (mode : CaptureMode) (c : Capture) : Prop :=
  u.request = none ∧
    (r.slotOne = none → u.slotOne = some c ∧ u.slotTwo = r.slotTwo ∧ u.newestSlot = .one ∧
      u.counters.missedCaptures = r.counters.missedCaptures) ∧
    (r.slotOne ≠ none → r.slotTwo = none →
      u.slotOne = r.slotOne ∧ u.slotTwo = some c ∧ u.newestSlot = .two ∧
        u.counters.missedCaptures = r.counters.missedCaptures) ∧
    (r.slotOne ≠ none → r.slotTwo ≠ none → mode = .keepFirst →
      u.slotOne = r.slotOne ∧ u.slotTwo = r.slotTwo ∧ u.newestSlot = r.newestSlot ∧
        u.counters.missedCaptures = min (r.counters.missedCaptures + 1) 65535) ∧
    (r.slotOne ≠ none → r.slotTwo ≠ none → mode = .keepLatest →
      u.counters.missedCaptures = r.counters.missedCaptures ∧ u.newestSlot ≠ r.newestSlot ∧
        (r.newestSlot = .one → u.slotOne = r.slotOne ∧ u.slotTwo = some c) ∧
        (r.newestSlot = .two → u.slotOne = some c ∧ u.slotTwo = r.slotTwo))

/-- The seven stream states. -/
def State.streamStates (s : State) : PerStream StreamState :=
  ⟨s.streams.demand.state, s.streams.frontStatus.state, s.streams.rearStatus.state, s.streams.power.state,
    s.streams.reference.state, s.streams.stability.state, s.streams.tow.state⟩

/-- The capture slots and the missed-capture counter stand. -/
def State.SlotsKept (s u : State) : Prop :=
  u.report.slotOne = s.report.slotOne ∧ u.report.slotTwo = s.report.slotTwo ∧ u.report.newestSlot = s.report.newestSlot ∧
    u.report.counters.missedCaptures = s.report.counters.missedCaptures

/-- No trigger is taken and no request filled. -/
def State.RequestKept (s u : State) : Prop := u.report.request = s.report.request ∧ s.SlotsKept u

/-- A request is filled outside a pass end: from the pass result record, and from the mode, the axle states and the stream states
of that moment (R173). -/
def State.FilledNow (s u : State) (r : CaptureRequest) (streams : PerStream StreamState) : Prop :=
  s.report.Filled u.report s.par.captureMode
    { source := r.source, time := r.time, merged := r.merged, record := s.engine.result, mode := u.modes.mode,
      axles := ⟨u.axles.front.state, u.axles.rear.state⟩, streams := streams }

/-- A capture trigger, `u` being the machine after its event and `s` before, `streams` the stream states at the trigger: without
its enable nothing is taken; with it the request is set with its source and the time, or the merged count of a waiting one rises,
not above 255. In a mode that runs passes, and with a pass in flight, the request waits for the pass end; else it is filled within
the event (R172). -/
def State.TriggerTaken (s u : State) (source : TriggerSource) (enabled : Bool) (streams : PerStream StreamState) : Prop :=
  (enabled = false → s.RequestKept u) ∧
    ∀ r, enabled = true →
      (s.report.request = none ∧ r = ⟨source, u.now, 0⟩ ∨
        ∃ r₀, s.report.request = some r₀ ∧ r = { r₀ with merged := min (r₀.merged + 1) 255 }) →
      ((u.modes.mode.runsPasses = true ∨ s.engine.flight ≠ none) → u.report.request = some r ∧ s.SlotsKept u) ∧
        (u.modes.mode.runsPasses = false → s.engine.flight = none → s.FilledNow u r streams)

/-- A mode that runs no passes is entered: a request that waits with no pass in flight is filled within the mode change, and one
that waits for a pass in flight goes on waiting (R172). -/
def State.WaitingFilled (s u : State) : Prop :=
  (s.report.request = none ∨ s.engine.flight ≠ none → s.RequestKept u) ∧
    ∀ r, s.report.request = some r → s.engine.flight = none → s.FilledNow u r s.streamStates

/-- A producer's placement is taken, unless it is made in LISTEN or under the quiet mark (R151). -/
def State.takesFrames (s : State) : Prop := s.link.state ≠ .listen ∧ s.link.quiet = false

/-! ## After a reset -/

/-- The values that the rules give each block after a power-on reset (R1, R24, R27, R32, R36, R48, R64, R82, R104, R114, R131,
R137, R138, R148, R161, R165, R167 to R176). The first read attempt has begun within the reset, so that the attempt count is 1 and
the read instruction and the address have been sent (log entry 12). The power record has no fallback before a block is accepted,
and is not named (log entry 13). -/
def State.AfterReset (u : State) : Prop :=
  u.now = 0 ∧ u.params = none ∧ u.port = { attempts := 1, reading := true, sent := [3, 0, 0] } ∧
    u.modes = { mode := .start, cause := .none, restorePending := false } ∧
    u.link = { bus := u.link.bus, state := .listen, quiet := false, echoCount := 0, cleanRun := 0, mailboxes := noMail,
               transmitting := none, conflicts := [], identity := none } ∧
    u.recognition = [] ∧ u.intake = [] ∧
    (∀ i, (u.streams.get i).role = none ∧ (u.streams.get i).window = none ∧ (u.streams.get i).state = .unheard ∧
      (u.streams.get i).lastSequence = none ∧ (u.streams.get i).lastArrival = 0 ∧ (u.streams.get i).deadline = none ∧
      (u.streams.get i).qualifying = 0 ∧
      (u.streams.get i).repeats = 0 ∧ (u.streams.get i).malformed = 0 ∧ (u.streams.get i).flag = .clear) ∧
    u.records.demand = { torque := 0, ready := false, direction := .neutral, profile := .normal } ∧
    (∀ a, u.records.status.get a =
      { speed := 0, applied := 0, driveCapability := 0, regenCapability := 0, echoed := 0, ready := false, accepting := false,
        fault := false }) ∧
    u.records.reference = { speed := 0, valid := false } ∧ u.records.towPresent = false ∧
    (∀ a, u.table.driveline.get a = none ∧ u.table.inverter.get a = none ∧ u.table.axle.get a = none ∧
      u.table.stability.get a = none ∧ u.table.grip.get a = none ∧ u.table.supply.get a = none) ∧
    u.engine.flight = none ∧ u.engine.pendingPass = false ∧ u.engine.timer = none ∧ u.engine.previous = ⟨0, 0⟩ ∧
    u.engine.lastStart = 0 ∧ u.engine.firstPass = false ∧ u.engine.passNumber = 0 ∧ u.engine.deferred = [] ∧
    u.engine.result.demand = 0 ∧ u.engine.result.windows = ⟨⟨0, 0⟩, ⟨0, 0⟩⟩ ∧ u.engine.result.scaled = ⟨0, 0⟩ ∧
    u.engine.result.final = ⟨0, 0⟩ ∧ u.engine.result.gripCeiling = ⟨0, 0⟩ ∧
    u.engine.result.gripState = ⟨.gripping, .gripping⟩ ∧ u.engine.result.share = 0 ∧ u.engine.result.factor = 4096 ∧
    u.engine.result.residual = 0 ∧ u.engine.result.shortfall = 0 ∧ u.engine.result.passNumber = 0 ∧
    (∀ a, u.grip.get a = { ceiling := none, state := .gripping, limitingSince := none }) ∧
    u.issuer = { sequence := ⟨0, 0⟩, inService := ⟨false, false⟩, reportSequence := 0 } ∧
    (∀ a, u.axles.get a = { state := .offline, tracking := 0, sinceActivation := 0, line := [] }) ∧
    (∀ l, (u.filters.get l).accepted = .inactive ∧ (u.filters.get l).candidate = none ∧ (u.filters.get l).timer = none) ∧
    u.supply.judgement = .ok ∧ u.supply.lowTimer = none ∧ u.supply.restoreTimer = none ∧ u.supply.flag = false ∧
    u.supply.reportedMark = none ∧ u.exception = none ∧
    u.report.statusTimer = none ∧ u.report.placement = 0 ∧ u.report.alerts = alertsClear ∧ u.report.powerRun = 0 ∧
    u.report.gripLimiting = false ∧ u.report.leading = none ∧ u.report.request = none ∧ u.report.slotOne = none ∧
    u.report.slotTwo = none ∧ u.report.sta = true ∧ u.report.stb = true ∧
    u.report.query = { busy := none, refused := 0 } ∧ u.report.counters = ⟨0, 0, 0, 0, 0, 0, 0, 0⟩

/-- What a warm restart returns to its start and what it keeps, `u` being the machine after it and `s` before (R47, R145, R148,
R169). SUPPLY LOW keeps its state while the flag is set; of the other alerts EXCEPTION HELD alone can be true, and it is raised
afresh, whether or not it was NOTED (R170). -/
def State.WarmRestarted (s u : State) : Prop :=
  u.modes = { mode := .dozing, cause := .none, restorePending := false } ∧
    u.engine.flight = none ∧ u.engine.pendingPass = false ∧ u.engine.timer = none ∧ u.engine.previous = ⟨0, 0⟩ ∧
    u.engine.firstPass = false ∧ u.engine.deferred = [] ∧
    (∀ a, u.grip.get a = { ceiling := none, state := .gripping, limitingSince := none }) ∧
    u.issuer.inService = ⟨false, false⟩ ∧
    (∀ a, u.axles.get a = { state := .offline, tracking := 0, sinceActivation := 0, line := [] }) ∧
    (∀ i, (u.streams.get i).state = .unheard ∧ (u.streams.get i).lastSequence = none ∧ (u.streams.get i).lastArrival = 0 ∧
      (u.streams.get i).deadline = none ∧ (u.streams.get i).qualifying = 0 ∧ (u.streams.get i).repeats = (s.streams.get i).repeats ∧
      (u.streams.get i).malformed = (s.streams.get i).malformed ∧ (u.streams.get i).window = (s.streams.get i).window) ∧
    u.intake = [] ∧ u.recognition = s.recognition ∧
    (∀ a, u.table.inverter.get a = none ∧ u.table.axle.get a = some { ceiling := 0, floor := 0 } ∧
      u.table.stability.get a = none ∧ u.table.grip.get a = none ∧ u.table.supply.get a = none) ∧
    u.link.quiet = false ∧ u.link.state = (if s.link.state = .listen then .active else s.link.state) ∧
    u.link.echoCount = s.link.echoCount ∧ u.link.cleanRun = s.link.cleanRun ∧ u.link.transmitting = none ∧
    u.link.bus = (if s.link.transmitting = none then s.link.bus else .aborted) ∧ u.link.conflicts = s.link.conflicts ∧
    u.link.mailboxes.frontCommand = none ∧ u.link.mailboxes.rearCommand = none ∧
    u.link.mailboxes.splitReport = none ∧ u.link.mailboxes.reply = none ∧
    u.filters = s.filters ∧ u.params = s.params ∧ u.report.query = { busy := none, refused := 0 } ∧
    u.report.powerRun = 0 ∧ u.report.gripLimiting = false ∧
    u.report.alerts.supplyLow = (if s.supply.flag = true then s.report.alerts.supplyLow else .clear) ∧
    (∀ i, i ≠ .supplyLow → u.report.alerts.get i =
      if i = .exceptionHeld ∧ u.exception ≠ none ∧ s.par.ranks.exceptionHeld ≠ 0 then .raised else .clear)

/-! ## Commands sent -/

/-- A frame is an AXLE COMMAND that asks an axle for torque (R105, R109). -/
def OutFrame.asksTorque (f : OutFrame) : Bool :=
  match f.content with
  | .command tenths _ _ _ => tenths != 0
  | .splitReport _ _ _ _ _ _ _ => false
  | .alert _ _ _ _ => false
  | .status _ _ _ _ => false
  | .reply _ _ _ _ _ => false

/-- A frame that waits in a mailbox or is in transmission. -/
def LinkController.carries (l : LinkController) (f : OutFrame) : Prop :=
  (∃ k, l.mailboxes.get k = some f) ∨ l.transmitting = some f

end Sys2Proof.Machine
end

