-- ==== Sys2Proof/Certificates/Slice0/Obligations.lean ====
section
/-! DEFINITION. The statements for the provers. Where a statement gives the next state as `{ s with … }`, everything not named
there is unchanged; where it gives it through `sameButReports`, everything not named there is unchanged but for what the report
unit writes at the end of every event (`State.unreported`). -/

open Sys2Proof Sys2Proof.Machine

/-! ## The queue of commands -/

/-- A step runs the command at the front of the queue with the queue's rest; on an empty queue the block idles (the model's own
choice, log entry 2). -/
def Obligations.StepRunsFrontCommand : Prop :=
  ∀ s : State,
    (∀ c rest, s.pending = c :: rest → step s = exec c { s with pending := rest }) ∧ (s.pending = [] → step s = .next s)

/-- Every command completes in every state and leaves the waiting commands alone; once a block is accepted or START has failed,
only POWER_ON_RESET changes the parameters and the recognition table (R24, R165). That a command completes where its event cannot
fall, moving the clock alone, is the model's choice (log entry 11), and so is the queue of waiting commands (log entry 2). -/
def Obligations.EveryCommandAnswersNext : Prop :=
  ∀ (c : Instr) (s : State), ∃ u, exec c s = .next u ∧ u.pending = s.pending ∧
    (c ≠ .powerOnReset → s.port.reading = false → u.params = s.params ∧ u.recognition = s.recognition)

/-! ## Reset and START -/

/-- The machine after reset holds the values that the rules of each block give, and POWER_ON_RESET returns every block to them
from any state; the input lines and the supply sense stand as they are (R131, R7; that a reset leaves the pins alone is the
model's choice, log entry 3, and so is the phase of the bus it leaves, log entry 32). -/
def Obligations.ResetReturnsEveryBlockToItsStart : Prop :=
  State.reset.AfterReset ∧
    ∀ s : State, ∃ u, exec .powerOnReset s = .next u ∧ u.AfterReset ∧ u.pending = s.pending ∧ u.supply.sense = s.supply.sense ∧
      (∀ l, (u.filters.get l).line = (s.filters.get l).line) ∧
      u.link.bus = if s.link.transmitting = none then s.link.bus else .aborted

/-- A block holds its parameters in the word order of section 9.7 (`Params.readFrom`), and is accepted by four checks and no
other: format 1 and length 96 in word 0, a sum of its 96 words that is 0 modulo 65 536, every field in its range of section 10.4,
and the parameters that a consistency check pairs in agreement (R162). An accepted block ends START in DOZING while the supply
judgement is OK, and in SUPPLY HALTED while it is LOW: the parameters, the recognition table with the lengths that R24 fixes, the
streams, the DRIVELINE row, the AXLE cells, the link identity and the status timer are set, and the filters begin to watch, a line
at ACTIVE counting as a change (R132, R137, R164). The words are those that the 192 bytes spell, the high byte of each first
(R161). Every alert condition is weighed, and a leading alert gets its ALERT (R170, R171); that this ALERT is placed once the link
is ACTIVE, and so is taken and stands in its mailbox, is the model's reading (log entry 18). -/
def Obligations.AcceptedBlockEndsStart : Prop :=
  (∀ (words : List Word16) (p : Params), words.length = 96 → blockParams words = p →
    p.readFrom words ∧
      (blockAccepted words = true ↔
        (wordAt words 0 / 256 = 1 ∧ wordAt words 0 % 256 = 96) ∧ (words.map fun w => w.toNat).sum % 65536 = 0 ∧ p.InRange ∧
          p.Agree)) ∧
  ∀ (s : State) (t : Time) (bytes : List (BitVec 8)) (words : List Word16) (p : Params),
    s.StartSound → s.AlertsFollow → s.port.reading = true → words.length = 96 → bytes.length = 192 →
    (∀ k, k < 96 → words.getD k 0 = bytes.getD (2 * k) 0 ++ bytes.getD (2 * k + 1) 0) →
    blockAccepted words = true → blockParams words = p →
    ∃ u, exec (.readAttemptEnd t bytes) s = .next u ∧
      u.modes.mode = (if s.supply.judgement = .ok then .dozing else .supplyHalted) ∧ u.modes.cause = .none ∧
      u.port = { attempts := s.port.attempts, reading := false, sent := [] } ∧ u.params = some p ∧
      u.recognition.map (fun e => (e.role, e.station, e.kind)) = p.roles.map (fun e => (e.role, e.station, e.kind)) ∧
      u.recognition.map (fun e => e.expectedLength) = [3, 6, 6, 2, 2, 3, 1, 2, 1] ∧
      (∀ i, (u.streams.get i).role = some (.stream i) ∧ (u.streams.get i).window = some (p.windows.get i) ∧
        (u.streams.get i).state = .unheard) ∧
      (∀ a, u.table.driveline.get a = some { ceiling := p.drivelineSolo.get a, floor := -(p.drivelineSolo.get a) } ∧
        u.table.axle.get a = some { ceiling := 0, floor := 0 }) ∧
      (∀ l, ((s.filters.get l).line = .inactive → u.filters.get l = s.filters.get l) ∧
        ((s.filters.get l).line = .active → u.filters.get l =
          { line := .active, accepted := (s.filters.get l).accepted, candidate := some .active,
            timer := some (later t (p.filterTime.get l)) })) ∧
      u.AlertsFollow ∧ (∀ i, u.report.alerts.get i ≠ .noted) ∧
      (∀ i, u.report.leading = some i → ∃ f raised noted, u.link.mailboxes.alert = some f ∧
        f.content = .alert i.number (BitVec.ofNat 8 (p.ranks.get i)) raised noted) ∧
      u.link.state = .active ∧ u.link.identity = some { station := p.ownStation, classes := p.classes } ∧
      u.link.quiet = decide (s.supply.judgement ≠ .ok) ∧
      u.report.statusTimer = some (later t p.statusPeriod) ∧ u.report.placement = s.report.placement + 1 ∧
      u.records.power = { discharge := p.fallbackDischarge, charge := p.fallbackCharge } ∧
      u.intake = [] ∧ u.exception = s.exception ∧ u.report.counters.badChecks = s.report.counters.badChecks ∧
      u.issuer = s.issuer ∧ u.engine.timer = none ∧ u.engine.flight = s.engine.flight ∧ u.grip = s.grip ∧
      u.supply.judgement = s.supply.judgement ∧ u.supply.flag = s.supply.flag

/-- A block that fails its checks is read again while fewer than three attempts have been made, each attempt selecting the memory
and sending the read instruction 3 and the address 0 (R161); the third failure moves the part to SAFE with cause PARAMETER, on the
fixed identity, with a STATUS of that mode placed (R163). -/
def Obligations.FailedAttemptIsRepeatedOrEndsInSafe : Prop :=
  ∀ (s : State) (t : Time) (bytes : List (BitVec 8)) (words : List Word16),
    s.StartSound → s.port.reading = true → words.length = 96 → bytes.length = 192 →
    (∀ k, k < 96 → words.getD k 0 = bytes.getD (2 * k) 0 ++ bytes.getD (2 * k + 1) 0) → blockAccepted words = false →
    (s.port.attempts < 3 →
      exec (.readAttemptEnd t bytes) s =
        .next { s with now := t, port := { attempts := s.port.attempts + 1, reading := true, sent := [3, 0, 0] } }) ∧
    (s.port.attempts = 3 →
      ∃ u fields flags, exec (.readAttemptEnd t bytes) s = .next u ∧ u.modes.mode = .safe ∧ u.modes.cause = .parameter ∧
        u.port = { attempts := 3, reading := false, sent := [] } ∧ u.params = none ∧ u.recognition = [] ∧ u.link.state = .active ∧
        u.link.identity = some { station := 15, classes := ⟨7, 7, 7, 7, 7, 7⟩ } ∧
        u.report.statusTimer = some (later t 1000) ∧
        (u.link.mailboxes.status.map (·.content)) = some (.status (s.report.placement + 1) fields 3 flags) ∧
        fields.mode = .safe ∧ fields.cause = .parameter ∧
        u.intake = [] ∧ u.report.sta = s.report.sta ∧ u.report.stb = s.report.stb ∧ u.engine.flight = s.engine.flight ∧
        u.report.counters.badChecks = s.report.counters.badChecks)

/-! ## The drive link: reception -/

/-- A received frame: one that is invalid or cut short is counted, and ends a clean run while MUTED, unless it is the part's own
aborted frame, which is not counted (R146); a valid one of another station is matched by station and kind (R25) and appended to
the intake queue with its arrival time, or counted as an overflow at a full queue (R26). The gap follows it (R147). That every
invalid frame read after an abort is the part's own is the model's choice (log entry 32), and that levels which agree with the
frame in transmission are its echo is its reading (log entry 28). -/
def Obligations.ReceivedFrameIsCheckedMatchedAndQueued : Prop :=
  ∀ (s : State) (t : Time) (levels : List BusLevel), isOwnEcho levels s = false →
    ((∀ f, readFrame levels = some f → validFrame f = false) →
      (s.link.bus ≠ .aborted →
        exec (.frameReception t levels) s =
          .next { s with now := t, link.bus := .gap 0, report.counters.badChecks := min (s.report.counters.badChecks + 1) 65535,
                         link.cleanRun := if s.link.state = .muted then 0 else s.link.cleanRun }) ∧
      (s.link.bus = .aborted → exec (.frameReception t levels) s = .next { s with now := t, link.bus := .gap 0 })) ∧
    (∀ f, readFrame levels = some f → validFrame f = true → s.link.state ≠ .muted → ownStation s ≠ some f.station →
      (∀ e ∈ s.recognition, ¬ (e.station = f.station ∧ e.kind = f.kind)) →
        exec (.frameReception t levels) s = .next { s with now := t, link.bus := .gap 0 }) ∧
    (∀ f before e after, readFrame levels = some f → validFrame f = true → s.link.state ≠ .muted → ownStation s ≠ some f.station →
      s.recognition = before ++ e :: after → e.station = f.station → e.kind = f.kind →
      (∀ x ∈ before, ¬ (x.station = f.station ∧ x.kind = f.kind)) →
        exec (.frameReception t levels) s =
          .next (if s.intake.length < 8 then
              { s with now := t, link.bus := .gap 0,
                       intake := s.intake ++
                         [{ cls := f.cls, station := f.station, kind := f.kind, sequence := f.sequence, length := f.length,
                            payload := f.payload, role := e.role, expectedLength := e.expectedLength, arrival := t }] }
            else { s with now := t, link.bus := .gap 0,
                          report.counters.intakeOverflows := min (s.report.counters.intakeOverflows + 1) 65535 }))

/-- While MUTED a valid frame of another station lengthens the clean run; at 128 the link state becomes ACTIVE, or LISTEN with
every mailbox empty when the quiet mark is set, with both counts 0 and the mark clear (R157). The frame is admitted to the intake
queue, or counted at a full one, as in any link state (R26, R149, R156). -/
def Obligations.CleanRunOf128EndsMuted : Prop :=
  ∀ (s : State) (t : Time) (levels : List BusLevel) (f : WireFrame),
    isOwnEcho levels s = false → readFrame levels = some f → validFrame f = true → s.link.state = .muted →
    ownStation s ≠ some f.station →
    ∃ u, exec (.frameReception t levels) s = .next u ∧ u.modes = s.modes ∧ u.axles = s.axles ∧ u.engine = s.engine ∧
      u.records = s.records ∧ u.table = s.table ∧ u.exception = s.exception ∧ u.filters = s.filters ∧
      ((∀ e ∈ s.recognition, ¬ (e.station = f.station ∧ e.kind = f.kind)) →
        u.intake = s.intake ∧ u.report.counters = s.report.counters) ∧
      (∀ before e after, s.recognition = before ++ e :: after → e.station = f.station → e.kind = f.kind →
        (∀ x ∈ before, ¬ (x.station = f.station ∧ x.kind = f.kind)) →
        (s.intake.length < 8 → u.report.counters = s.report.counters ∧
          u.intake = s.intake ++
            [{ cls := f.cls, station := f.station, kind := f.kind, sequence := f.sequence, length := f.length,
               payload := f.payload, role := e.role, expectedLength := e.expectedLength, arrival := t }]) ∧
        (8 ≤ s.intake.length → u.intake = s.intake ∧
          u.report.counters =
            { s.report.counters with intakeOverflows := min (s.report.counters.intakeOverflows + 1) 65535 })) ∧
      (s.link.cleanRun + 1 < 128 → u.link = { s.link with bus := .gap 0, cleanRun := s.link.cleanRun + 1 }) ∧
      (128 ≤ s.link.cleanRun + 1 →
        u.link.cleanRun = 0 ∧ u.link.echoCount = 0 ∧ u.link.quiet = false ∧ u.link.transmitting = s.link.transmitting ∧
          (s.link.quiet = false → u.link.state = .active ∧ u.link.mailboxes.reply = s.link.mailboxes.reply ∧
            u.link.mailboxes.frontCommand = s.link.mailboxes.frontCommand ∧
            u.link.mailboxes.rearCommand = s.link.mailboxes.rearCommand) ∧
          (s.link.quiet = true → u.link.state = .listen ∧ u.link.mailboxes = noMail))

/-- A frame that carries the own station is a station conflict, counted and timed, and while MUTED it ends the clean run (R150,
R157). When its time and the time of the conflict two before it differ by less than 1 000 ms the part enters SAFE with cause
STATION CONFLICT, from each mode but START and SAFE: the pass timer stops, the axles in service stand by (R143, R144), and a
capture request that waits with no pass in flight is filled (R172). With fewer conflicts, with 1 000 ms or more between them, or
in START or SAFE, the mode stays. -/
def Obligations.ThirdConflictWithinASecondEntersSafe : Prop :=
  ∀ (s : State) (t : Time) (levels : List BusLevel) (f : WireFrame),
    isOwnEcho levels s = false → readFrame levels = some f → validFrame f = true → s.params.isSome = true →
    ownStation s = some f.station → (∀ e ∈ s.recognition, ¬ (e.station = f.station ∧ e.kind = f.kind)) →
    (s.link.conflicts.length < 2 ∨ s.modes.mode = .start ∨ s.modes.mode = .safe ∨
        (∃ newer older rest, s.link.conflicts = newer :: older :: rest ∧ 1000 ≤ (t - older).toNat) →
      exec (.frameReception t levels) s =
        .next { s with now := t, link.bus := .gap 0, link.conflicts := (t :: s.link.conflicts).take 3,
                       link.cleanRun := if s.link.state = .muted then 0 else s.link.cleanRun,
                       report.counters.stationConflicts := min (s.report.counters.stationConflicts + 1) 65535 }) ∧
    (∀ newer older rest, s.link.conflicts = newer :: older :: rest → (t - older).toNat < 1000 →
      s.modes.mode ≠ .start → s.modes.mode ≠ .safe →
      ∃ u, exec (.frameReception t levels) s = .next u ∧
        u.modes = { mode := .safe, cause := .stationConflict, restorePending := false } ∧
        u.report.counters.stationConflicts = min (s.report.counters.stationConflicts + 1) 65535 ∧
        u.engine.timer = none ∧ u.engine.flight = s.engine.flight ∧ u.engine.previous = s.engine.previous ∧
        u.link.conflicts = [t, newer, older] ∧ (s.modes.mode = .supplyHalted → u.link.state ≠ .listen ∧ u.link.quiet = false) ∧
        (∀ a, (u.axles.get a).state = if (s.axles.get a).state.inService then .standby else (s.axles.get a).state) ∧
        u.table.supply = s.table.supply ∧ u.table.driveline = s.table.driveline ∧ u.table.inverter = s.table.inverter ∧
        u.intake = s.intake ∧ u.records = s.records ∧ u.issuer = s.issuer ∧ u.exception = s.exception ∧
        u.filters = s.filters ∧ s.WaitingFilled u)

/-! ## The drive link: transmission -/

/-- A frame of n payload words stands on the wire as 40 + 16 n bits, part by part in the order of section 9.1, each field most
significant bit first, dominant for 0 and recessive for 1 (section 9.7), and whoever reads them gets the frame again. A received
frame is valid by four tests and no other: a dominant start bit, a length code in 1 … 6, the check that is the complement of the
sum of the tag word, the sequence-and-length word and the payload words, and five recessive end bits (R146). Every frame that the
controller drives is valid for whoever receives it: its start and end bits, its length code, its payload and its check. A REPLY
body holds at most four words. The words of each payload are those of section 9.7 (R160): its fields at their places, a signed one
in two's complement, its codes, and every bit that no field names 0. A SPLIT REPORT is given as one number of 96 bits, word 1 the
highest. The trigger sources of a capture have the codes 1 to 6, its stream states the bits of STATUS word 3 (section 11.4), and
the alerts the numbers 1 to 10 (section 11.2). -/
def Obligations.SentFramesAreValid : Prop :=
  (∀ (f : WireFrame) (more : List BusLevel), f.payload.length = f.length.toNat → f.endField.length = 5 →
    f.levels = [f.start] ++ fieldLevels f.cls ++ fieldLevels f.station ++ fieldLevels f.kind ++ fieldLevels f.sequence ++
      fieldLevels f.length ++ f.payload.flatMap (fun w => fieldLevels w) ++ fieldLevels f.check ++ f.endField ∧
    f.levels.length = 40 + 16 * f.length.toNat ∧ readFrame (f.levels ++ more) = some f) ∧
  (∀ (n : Nat) (b : BitVec n) (i : Nat), i < n →
    (fieldLevels b)[i]? = some (if b.getLsbD (n - 1 - i) then .recessive else .dominant)) ∧
  (∀ (levels : List BusLevel) (f : WireFrame) (tag sequence payload : Nat), readFrame levels = some f →
    tag = f.cls.toNat * 256 + f.station.toNat * 16 + f.kind.toNat → sequence = f.sequence.toNat * 8 + f.length.toNat →
    payload = (f.payload.map fun w => w.toNat).sum →
    (validFrame f = true ↔
      f.start = .dominant ∧ (1 ≤ f.length.toNat ∧ f.length.toNat ≤ 6) ∧
        f.check.toNat = 65535 - (tag + sequence + payload) % 65536 ∧
        f.endField = [.recessive, .recessive, .recessive, .recessive, .recessive])) ∧
  (∀ (id : Identity) (f : OutFrame),
    (∀ code index total refused body, f.content = .reply code index total refused body → body.length ≤ 4) →
    validFrame (f.onWire id) = true ∧ (f.onWire id).station = id.station ∧ (f.onWire id).kind = f.kind.code ∧
      (f.onWire id).cls = id.classes.get f.kind ∧ (f.onWire id).payload = f.content.words ∧
      readFrame (f.onWire id).levels = some (f.onWire id) ∧
      ∃ tag rest, (f.onWire id).levels = [.dominant] ++ tag ++ rest ++ List.replicate 5 .recessive ∧
        tag = fieldLevels (BitVec.ofNat 11 (ownTag id f.kind))) ∧
  ([OwnKind.frontCommand, .rearCommand, .splitReport, .alert, .status, .reply].map (·.code) = [1, 2, 3, 4, 5, 6] ∧
    [Mode.dozing, .driving, .fading, .supplyDown, .supplyHalted, .safe].map (·.code) = [1, 2, 3, 4, 5, 6] ∧
    [SafeCause.none, .parameter, .stationConflict].map (·.code) = [0, 1, 2] ∧
    [LinkState.listen, .active, .muted].map (·.code) = [0, 1, 2] ∧
    [AxleState.offline, .standby, .active, .derated, .faulted].map (·.code) = [0, 1, 2, 3, 4] ∧
    [StreamState.unheard, .fresh, .late, .lost].map (·.code) = [0, 1, 2, 3] ∧
    [StateCode.drive, .fade, .supply].map (·.code) = [1, 2, 3] ∧
    [Governor.none, .row .driveline, .row .inverter, .row .axle, .row .stability, .row .grip, .row .supply, .power, .ramp].map
      (·.code) = [0, 1, 2, 3, 4, 5, 6, 7, 8] ∧
    [GripState.gripping, .slipping, .recovering].map (·.code) = [0, 1, 2] ∧
    [ReplyCode.data, .empty, .released, .unknown].map (·.code) = [1, 2, 3, 4] ∧
    [TriggerSource.frontFaulted, .rearFaulted, .driveline, .supplyDown, .mark, .demandLost].map (·.code) =
      [1, 2, 3, 4, 5, 6] ∧
    alertIds = [.demandLost, .frontDerated, .rearDerated, .frontFaulted, .rearFaulted, .powerScaled, .referenceLost,
      .gripLimiting, .exceptionHeld, .supplyLow] ∧
    alertIds.map (·.number) = [1, 2, 3, 4, 5, 6, 7, 8, 9, 10]) ∧
  (∀ x : PerStream StreamState, (streamStatesWord x).toNat =
    x.demand.code.toNat * 4096 + x.frontStatus.code.toNat * 1024 + x.rearStatus.code.toNat * 256 + x.power.code.toNat * 64 +
      x.reference.code.toNat * 16 + x.stability.code.toNat * 4 + x.tow.code.toNat) ∧
  (∀ (tenths : Int) (code : StateCode) (bound enable : Bool), -32768 ≤ tenths → tenths ≤ 32767 →
    ∃ w₁ w₂ : Word16, (Content.command tenths code bound enable).words = [w₁, w₂] ∧ w₁.toInt = tenths ∧
      w₂.toNat = code.code.toNat * 256 + bound.toNat * 2 + enable.toNat) ∧
  (∀ (demand shortfall share factor : Int) (final : PerAxle Int) (governor : PerAxle Governor) (grip : PerAxle GripState),
    ∃ w₁ w₂ w₃ w₄ w₅ w₆ : Word16,
      (Content.splitReport demand final shortfall share factor governor grip).words = [w₁, w₂, w₃, w₄, w₅, w₆] ∧
      (((((w₁.toNat * 65536 + w₂.toNat) * 65536 + w₃.toNat) * 65536 + w₄.toNat) * 65536 + w₅.toNat) * 65536 + w₆.toNat : Int) =
        demand % 2 ^ 15 * 2 ^ 81 + final.front % 2 ^ 15 * 2 ^ 66 + final.rear % 2 ^ 15 * 2 ^ 51 + shortfall % 2 ^ 16 * 2 ^ 35 +
          share % 2 ^ 10 * 2 ^ 25 + factor % 2 ^ 13 * 2 ^ 12 + governor.front.code.toNat * 2 ^ 8 +
          governor.rear.code.toNat * 2 ^ 4 + grip.front.code.toNat * 2 ^ 2 + grip.rear.code.toNat) ∧
  (∀ (number raised noted : Nat) (rank : BitVec 8), number < 256 → raised < 256 → noted < 256 →
    ∃ w₁ w₂ : Word16, (Content.alert number rank raised noted).words = [w₁, w₂] ∧ w₁.toNat = number * 256 + rank.toNat ∧
      w₂.toNat = raised * 256 + noted) ∧
  (∀ (q : BitVec 32) (f : Reported) (attempts : Nat) (flags : PerStream Bool), attempts < 4 →
    ∃ w₁ w₂ w₃ w₄ : Word16, (Content.status q f attempts flags).words = [w₁, w₂, w₃, w₄] ∧
      w₁.toNat = f.mode.code.toNat * 4096 + f.cause.code.toNat * 1024 + f.link.code.toNat * 256 +
        f.axles.front.code.toNat * 32 + f.axles.rear.code.toNat * 4 + f.supplyLow.toNat * 2 + f.exceptionHeld.toNat ∧
      w₂.toNat = attempts * 256 + f.slotOne.toNat * 2 + f.slotTwo.toNat ∧
      w₃.toNat = f.streams.demand.code.toNat * 4096 + f.streams.frontStatus.code.toNat * 1024 +
        f.streams.rearStatus.code.toNat * 256 + f.streams.power.code.toNat * 64 + f.streams.reference.code.toNat * 16 +
        f.streams.stability.code.toNat * 4 + f.streams.tow.code.toNat ∧
      w₄.toNat = flags.demand.toNat * 64 + flags.frontStatus.toNat * 32 + flags.rearStatus.toNat * 16 + flags.power.toNat * 8 +
        flags.reference.toNat * 4 + flags.stability.toNat * 2 + flags.tow.toNat) ∧
  ∀ (code : ReplyCode) (index total refused : Nat) (body : List Word16), index < 16 → total < 16 → refused < 65536 →
    ∃ w₁ w₂ : Word16, (Content.reply code index total refused body).words = w₁ :: w₂ :: body ∧
      w₁.toNat = code.code.toNat * 4096 + index * 256 + total * 16 ∧ w₂.toNat = refused

/-- Two stations that start together arbitrate over the tag: each reads dominant where either drives it, and the one that reads
dominant where it sent recessive stops. The controller loses exactly when the other tag is lower, and every station then reads the
other tag; otherwise it reads its own tag as it sent it, whatever the other station drove (R147, R154). The bus is free from the
end of a gap of 8 recessive bit times until a station starts a frame with a dominant bit (R147). That a dominant level read within
a gap is such a start, and that no level read ends the frame on a busy bus, is the model's choice (log entry 32). -/
def Obligations.ArbitrationIsDecidedByTheTags : Prop :=
  (∀ (id : Identity) (f : OutFrame) (cls : BitVec 3) (station kind : BitVec 4) (sent other read : List BusLevel),
    sent = (f.onWire id).levels → other = .dominant :: (fieldLevels cls ++ fieldLevels station ++ fieldLevels kind) →
    read = arbitrate (sent.take 12) other →
    ((tagWord cls station kind).toNat < ownTag id f.kind → read = other ∧ judgeEcho sent read = .lost) ∧
    (ownTag id f.kind ≤ (tagWord cls station kind).toNat → read = sent.take 12 ∧ judgeEcho sent read = .unfinished)) ∧
  (∀ n m : Nat, n < 8 →
    (BusPhase.gap n).reads (List.replicate m .recessive) = if 8 ≤ n + m then .free else .gap (n + m)) ∧
  (∀ m : Nat, BusPhase.free.reads (List.replicate m .recessive) = .free) ∧
  (∀ levels : List BusLevel, BusPhase.busy.reads levels = .busy ∧ BusPhase.aborted.reads levels = .aborted) ∧
  (∀ (b : BusPhase) (levels : List BusLevel), b ≠ .aborted → .dominant ∈ levels → b.reads levels = .busy)

/-- A command mailbox is open while the accepting flag of its axle's record reads 1 and the other four always are (R152); in SAFE
with cause PARAMETER only STATUS is offered (R163). An offer in ACTIVE on a free bus with no frame in transmission takes the frame
of lowest tag among the mailboxes whose gate is open and starts it (R147, R152); in LISTEN or MUTED, on a bus that is not free,
during a transmission, or with no such mailbox, nothing is offered, and the command reads the bus alone (log entry 11). -/
def Obligations.OfferTakesTheLowestOpenTag : Prop :=
  ∀ (s : State) (t : Time) (levels : List BusLevel) (bus : BusPhase), s.link.bus.reads levels = bus →
    (∀ k, gateOpen s k = true ↔
      if s.modes.mode = .safe ∧ s.modes.cause = .parameter then k = .status
      else (k = .frontCommand → s.records.status.front.accepting = true) ∧
        (k = .rearCommand → s.records.status.rear.accepting = true)) ∧
    ((s.link.state ≠ .active ∨ s.link.transmitting ≠ none ∨ bus ≠ .free) →
      exec (.offer ⟨t, levels⟩) s = .next { s with now := t, link.bus := bus }) ∧
    (s.link.quiet = false → (∀ k, s.link.mailboxes.get k ≠ none → gateOpen s k = false) →
      exec (.offer ⟨t, levels⟩) s = .next { s with now := t, link.bus := bus }) ∧
    (∀ id k f, s.link.state = .active → s.link.transmitting = none → bus = .free → s.link.identity = some id →
      s.link.mailboxes.get k = some f → gateOpen s k = true →
      (∀ j, j ≠ k → s.link.mailboxes.get j ≠ none → gateOpen s j = true → ownTag id k < ownTag id j) →
      exec (.offer ⟨t, levels⟩) s =
        .next { s with now := t, link.bus := .busy, link.mailboxes := s.link.mailboxes.set k none,
                       link.transmitting := some f })

/-- A frame whose echo equals what was sent to the last end bit is complete: the frame in transmission becomes none, the gap
begins, the echo count falls, and the completion reaches its block (R153). An AXLE COMMAND reaches its axle's supervisor:
commands-since-activation rises, not above 4, and the command enters the front of the delay line, an older entry of the same
sequence and a fifth entry leaving it (R112, R113). STATUS placement `q` clears each change flag CARRIED by a number not greater
than `q` (R168), and, while the reported mark is set by a placement not later than `q`, the supply-low flag too, which a new
STATUS reports (R139); that placement numbers are compared as unsigned numbers is the model's reading (log entry 26). A REPLY
sends the next frame of the reply with the refused count, which becomes 0, or ends the reply after its last frame (R174); in
LISTEN the next frame is refused and the reply abandoned with the count kept. A SPLIT REPORT or an ALERT is reported to no block.
A transmission in the quiet phase stands in QuietPhaseEndsInListen. -/
def Obligations.CleanTransmissionsReachTheirBlocks : Prop :=
  ∀ (s done : State) (t : Time) (f : OutFrame) (id : Identity) (echo : BusReading),
    s.link.transmitting = some f → s.link.identity = some id → echo = ⟨t, (f.onWire id).levels⟩ → s.link.quiet = false →
    done = { s with now := t, link.transmitting := none, link.bus := .gap 0, link.echoCount := s.link.echoCount - 1 } →
    (∀ a tenths code bound enable, f.kind = commandKind a → f.content = .command tenths code bound enable →
      exec (.cleanTransmission echo) s =
        .next { done with
          axles := s.axles.set a { s.axles.get a with
            sinceActivation := min ((s.axles.get a).sinceActivation + 1) 4,
            line := ({ sequence := f.sequence, tenths := tenths } ::
              (s.axles.get a).line.filter fun e => e.sequence != f.sequence).take 4 } }) ∧
    (∀ q fields attempts flags, f.kind = .status → f.content = .status q fields attempts flags →
      ((s.supply.flag = false ∨ ∀ m, s.supply.reportedMark = some m → q.toNat < m.toNat) →
        ∃ u, exec (.cleanTransmission echo) s = .next u ∧ u = { done with streams := u.streams } ∧
          ∀ i, (u.streams.get i).unflagged = (s.streams.get i).unflagged ∧
            (u.streams.get i).flag =
              match (s.streams.get i).flag with
              | .clear => .clear
              | .set => .set
              | .carried n => if n.toNat ≤ q.toNat then .clear else .carried n) ∧
      (∀ m, s.supply.flag = true → s.supply.reportedMark = some m → m.toNat ≤ q.toNat →
        ∃ u, exec (.cleanTransmission echo) s = .next u ∧ u.sameButReports { done with supply.flag := false } ∧
          u.supply.reportedMark = none ∧ u.report.placement = s.report.placement + 1 ∧
          u.report.alerts.supplyLow = .clear)) ∧
    (∀ code index total refused body r sent left, f.kind = .reply → f.content = .reply code index total refused body →
      s.report.query.busy = some r → r.bodies = sent :: left →
      (left = [] → exec (.cleanTransmission echo) s = .next { done with report.query.busy := none }) ∧
      (∀ b more, left = b :: more → s.link.state ≠ .listen →
        exec (.cleanTransmission echo) s =
          .next { done with
            draws := s.draws + 1,
            link.mailboxes.reply := some
              { kind := .reply, sequence := Config.freeSequence s.draws,
                content := .reply r.code (r.total - more.length) r.total s.report.query.refused b },
            report.query := { busy := some { r with bodies := left }, refused := 0 } }) ∧
      (left ≠ [] → s.link.state = .listen →
        exec (.cleanTransmission echo) s = .next { done with draws := s.draws + 1, report.query.busy := none })) ∧
    ((f.kind = .splitReport ∨ f.kind = .alert) → exec (.cleanTransmission echo) s = .next done)

/-- A frame of which a recessive tag bit is read back dominant has lost arbitration: it stops, the winning frame stays on the bus,
and it returns to its empty mailbox; when a newer frame waits there it is dropped, an AXLE COMMAND being counted as superseded;
the echo count does not move (R147, R154). Any other difference is an echo mismatch: below an echo count of 16 it aborts the
frame, raises the echo count and the echo-fault counter, and returns the frame in the same way; what remains of the frame is on
the bus (R155), until FRAME_RECEPTION ends it, which is the model's choice (log entry 32). That an outcome which the bits read
back do not show, or one with no frame in transmission, moves the clock alone is the model's choice (log entry 11). -/
def Obligations.LostAndMismatchedFramesReturn : Prop :=
  (∀ (s : State) (t : Time) (f : OutFrame) (id : Identity) (before after echo : List BusLevel) (x y : BusLevel),
    s.link.quiet = false → s.link.transmitting = some f → s.link.identity = some id →
    (f.onWire id).levels = before ++ x :: after → echo = before ++ [y] → x ≠ y →
    (1 ≤ before.length ∧ before.length ≤ 11 ∧ x = .recessive →
      (s.link.mailboxes.get f.kind = none →
        exec (.lostArbitration ⟨t, echo⟩) s =
          .next { s with now := t, link.transmitting := none, link.mailboxes := s.link.mailboxes.set f.kind (some f) }) ∧
      (∀ newer, s.link.mailboxes.get f.kind = some newer →
        exec (.lostArbitration ⟨t, echo⟩) s =
          .next { s with now := t, link.transmitting := none, report.counters.superseded :=
                    if f.kind = .frontCommand ∨ f.kind = .rearCommand then min (s.report.counters.superseded + 1) 65535
                    else s.report.counters.superseded })) ∧
    (¬ (1 ≤ before.length ∧ before.length ≤ 11 ∧ x = .recessive) → s.link.echoCount < 15 →
      (s.link.mailboxes.get f.kind = none →
        exec (.echoMismatch ⟨t, echo⟩) s =
          .next { s with now := t, link.transmitting := none, link.bus := .aborted, link.echoCount := s.link.echoCount + 1,
                         link.mailboxes := s.link.mailboxes.set f.kind (some f),
                         report.counters.echoFaults := min (s.report.counters.echoFaults + 1) 65535 }) ∧
      (∀ newer, s.link.mailboxes.get f.kind = some newer →
        exec (.echoMismatch ⟨t, echo⟩) s =
          .next { s with now := t, link.transmitting := none, link.bus := .aborted, link.echoCount := s.link.echoCount + 1,
                         report.counters := { s.report.counters with
                           superseded :=
                             if f.kind = .frontCommand ∨ f.kind = .rearCommand then
                               min (s.report.counters.superseded + 1) 65535
                             else s.report.counters.superseded,
                           echoFaults := min (s.report.counters.echoFaults + 1) 65535 } }))) ∧
  (∀ (s : State) (echo : BusReading),
    (echoOf s echo.levels ≠ some .clean → exec (.cleanTransmission echo) s = .next { s with now := echo.time }) ∧
    (echoOf s echo.levels ≠ some .lost → exec (.lostArbitration echo) s = .next { s with now := echo.time }) ∧
    (echoOf s echo.levels ≠ some .mismatch → exec (.echoMismatch echo) s = .next { s with now := echo.time }) ∧
    (s.link.transmitting = none → echoOf s echo.levels = none))

/-- With the quiet mark set in ACTIVE, an offer, or the end of a transmission, that finds no frame in transmission and no open
mailbox holding one ends the quiet phase: the frames left in closed mailboxes are discarded uncounted, all mailboxes are empty,
the mark is clear and the link state is LISTEN, which a STATUS placement reports and refuses itself. A frame that returns to an
open mailbox keeps the phase going (R158). That what remains of an aborted frame is on the bus until FRAME_RECEPTION ends it is
the model's choice (log entry 32). -/
def Obligations.QuietPhaseEndsInListen : Prop :=
  ∀ (s : State) (t : Time) (id : Identity),
    s.link.quiet = true → s.link.state = .active → s.link.identity = some id →
    (∀ levels, s.link.transmitting = none → s.link.bus.reads levels = .free →
      (∀ k, s.link.mailboxes.get k ≠ none → gateOpen s k = false) →
      ∃ u, exec (.offer ⟨t, levels⟩) s = .next u ∧
        u.link = { s.link with bus := .free, state := .listen, quiet := false, mailboxes := noMail } ∧
        u.sameButReports { s with now := t, link := u.link } ∧ u.report.placement = s.report.placement + 1) ∧
    (∀ f, s.link.transmitting = some f → (∀ k, s.link.mailboxes.get k ≠ none → gateOpen s k = false) →
      (∃ u, exec (.cleanTransmission ⟨t, (f.onWire id).levels⟩) s = .next u ∧
        u.link = { s.link with bus := .gap 0, state := .listen, quiet := false, mailboxes := noMail, transmitting := none,
                               echoCount := s.link.echoCount - 1 } ∧
        u.modes = s.modes ∧ u.engine = s.engine ∧ u.records = s.records ∧ u.table = s.table ∧ u.intake = s.intake ∧
        u.report.counters = s.report.counters ∧ u.report.placement = s.report.placement + 1) ∧
      (∀ echo, echoOf s echo = some .lost → s.link.mailboxes.get f.kind = none →
        (gateOpen s f.kind = false →
          ∃ u, exec (.lostArbitration ⟨t, echo⟩) s = .next u ∧
            u.link = { s.link with state := .listen, quiet := false, mailboxes := noMail, transmitting := none } ∧
            u.sameButReports { s with now := t, link := u.link } ∧ u.report.placement = s.report.placement + 1) ∧
        (gateOpen s f.kind = true →
          exec (.lostArbitration ⟨t, echo⟩) s =
            .next { s with now := t, link.transmitting := none,
                           link.mailboxes := s.link.mailboxes.set f.kind (some f) })) ∧
      (∀ echo, echoOf s echo = some .mismatch → s.link.mailboxes.get f.kind = none → s.link.echoCount < 15 →
        (gateOpen s f.kind = false →
          ∃ u, exec (.echoMismatch ⟨t, echo⟩) s = .next u ∧
            u.link = { s.link with bus := .aborted, state := .listen, quiet := false, mailboxes := noMail, transmitting := none,
                                   echoCount := s.link.echoCount + 1 } ∧
            u.report.counters = { s.report.counters with echoFaults := min (s.report.counters.echoFaults + 1) 65535 } ∧
            u.report.placement = s.report.placement + 1) ∧
        (gateOpen s f.kind = true →
          exec (.echoMismatch ⟨t, echo⟩) s =
            .next { s with now := t, link.transmitting := none, link.bus := .aborted,
                           link.echoCount := s.link.echoCount + 1,
                           link.mailboxes := s.link.mailboxes.set f.kind (some f),
                           report.counters.echoFaults := min (s.report.counters.echoFaults + 1) 65535 })))

/-- At an echo count of 16 the link controller enters MUTED: the mailboxes are emptied and the clean-run count is 0 (R156). In
DRIVING and FADING that is a link loss: the part enters DOZING, the in-service marks are cleared and the axles in service stand by
(R136). An IDLE engine's previous commands become 0 and its regulators are reset, which ends GRIP LIMITING (R96, R169); with a
pass in flight these resets join the deferred resets and the pass goes on (R1, R6, R83). A capture request that waits with no pass
in flight is filled (R172). A REPLY that waits, or that this mismatch returns to its mailbox, is lost: the query service becomes
IDLE and keeps its refused count (R174). In the other modes the mode stays. That what remains of the frame is on the bus until
FRAME_RECEPTION ends it is the model's choice (log entry 32). -/
def Obligations.SixteenthMismatchMutesTheLink : Prop :=
  ∀ (s : State) (echo : BusReading),
    echoOf s echo.levels = some .mismatch → 15 ≤ s.link.echoCount →
    ∃ u, exec (.echoMismatch echo) s = .next u ∧ u.link.bus = .aborted ∧
      u.report.counters.echoFaults = min (s.report.counters.echoFaults + 1) 65535 ∧
      u.link.state = .muted ∧ u.link.echoCount = 16 ∧ u.link.cleanRun = 0 ∧
      u.link.quiet = s.link.quiet ∧ u.link.transmitting = none ∧ u.link.mailboxes.frontCommand = none ∧
      u.link.mailboxes.rearCommand = none ∧ u.link.mailboxes.splitReport = none ∧ u.link.mailboxes.reply = none ∧
      u.link.conflicts = s.link.conflicts ∧ u.link.identity = s.link.identity ∧
      u.intake = s.intake ∧ u.records = s.records ∧ u.exception = s.exception ∧ u.filters = s.filters ∧
      (∀ i, (u.streams.get i).unflagged = (s.streams.get i).unflagged) ∧
      u.report.query.refused = s.report.query.refused ∧
      ((s.link.mailboxes.reply ≠ none ∨ ∃ f, s.link.transmitting = some f ∧ f.kind = .reply) → u.report.query.busy = none) ∧
      (s.link.mailboxes.reply = none → (∀ f, s.link.transmitting = some f → f.kind ≠ .reply) →
        u.report.query.busy = s.report.query.busy) ∧
      ((s.modes.mode = .driving ∨ s.modes.mode = .fading) →
        u.modes.mode = .dozing ∧ u.issuer = { s.issuer with inService := ⟨false, false⟩ } ∧
          (s.engine.flight = none →
            u.engine = { s.engine with timer := none, previous := ⟨0, 0⟩ } ∧ u.report.gripLimiting = false ∧
              ∀ a, u.grip.get a = { ceiling := none, state := .gripping, limitingSince := none } ∧ u.table.grip.get a = none) ∧
          (s.engine.flight ≠ none →
            u.engine =
              { s.engine with
                timer := none
                deferred := s.engine.deferred ++ [.previousCommands, .regulator .front, .regulator .rear] } ∧
            u.grip = s.grip ∧ u.table.grip = s.table.grip ∧ u.report.gripLimiting = s.report.gripLimiting) ∧
          (∀ a, (u.axles.get a).state = if (s.axles.get a).state.inService then .standby else (s.axles.get a).state) ∧
          s.WaitingFilled u) ∧
      (s.modes.mode ≠ .driving → s.modes.mode ≠ .fading →
        u.modes = s.modes ∧ u.engine = s.engine ∧ u.grip = s.grip ∧ u.issuer = s.issuer ∧ u.axles = s.axles ∧
          u.table = s.table ∧ s.RequestKept u)

/-! ## Decodes -/

/-- A frame of the wrong length, and a frame with an impossible field, is rejected: the rejected-frame counter rises, a REJECT
event with the field's index and raw value reaches the exception record, the malformed count of a supervised stream rises for a
wrong length alone, and nothing else changes (R29, R31, R65). It is no arrival: a window, or a hold, that waited for it expires at
the end of its decode (R38, R58), the hold first, which is the model's reading (log entry 20). -/
def Obligations.RejectedFrameChangesNoStream : Prop :=
  ∀ (s : State) (t : Time) (e : IntakeEntry) (rest : List IntakeEntry) (index : Nat) (raw : Word16),
    s.intake = e :: rest →
    (e.length.toNat ≠ e.expectedLength ∧ index = 0 ∧ raw = BitVec.ofNat 16 e.length.toNat ∨
      e.length.toNat = e.expectedLength ∧
        (e.role = .stream .demand ∧
            ((payloadWord e.payload 2).toNat % 4 = 3 ∧ index = 3 ∧ raw = 3 ∨
              (payloadWord e.payload 2).toNat % 4 ≠ 3 ∧ 1 < (payloadWord e.payload 3).toNat ∧ index = 4 ∧ raw = payloadWord e.payload 3) ∨
          e.role = .stream .stability ∧
            (16001 ≤ (payloadWord e.payload 1).toNat ∧ (payloadWord e.payload 1).toNat ≤ 65534 ∧ index = 1 ∧
                raw = payloadWord e.payload 1 ∨
              ¬ (16001 ≤ (payloadWord e.payload 1).toNat ∧ (payloadWord e.payload 1).toNat ≤ 65534) ∧
                16001 ≤ (payloadWord e.payload 2).toNat ∧ (payloadWord e.payload 2).toNat ≤ 65534 ∧ index = 2 ∧
                raw = payloadWord e.payload 2))) →
    ∃ u w treated, exec (.decode t) s = .next u ∧ u.sameButReports w ∧
      (∀ i, e.role = .stream i → s.closedBy treated w t e i) ∧
      ((e.role = .query ∨ e.role = .alertSeen) → w = { treated with now := t }) ∧
      treated = { s with
        intake := rest,
        streams :=
          match e.role with
          | .stream i =>
            if index = 0 then
              s.streams.set i { s.streams.get i with malformed := min ((s.streams.get i).malformed + 1) 65535 }
            else s.streams
          | .query => s.streams
          | .alertSeen => s.streams,
        report.counters.rejectedFrames := min (s.report.counters.rejectedFrames + 1) 65535,
        exception :=
          match s.exception with
          | none => some { event := .reject e.role e.arrival index raw, further := 0 }
          | some h => some { h with further := min (h.further + 1) 255 } }

/-- A repeat frame raises the repeat count and its content is ignored (R34). In LOST, a new frame before the deadline that is not
the third qualifies: the qualifying count, the last sequence, the last arrival and the deadline move and the content is not used
(R37); one that arrived at the deadline or later counts as the first again, which is the model's reading (log entry 14). A DEMAND
frame whose torque is clamped is counted all the same (R30). A window whose deadline the frame has left as it was, or a hold, that
waited for the frame expires at the end of the decode, as its command has it (R38, R58); that the hold goes first is the model's
reading (log entry 20). -/
def Obligations.RepeatAndQualifyingFramesAreNotUsed : Prop :=
  ∀ (s treated : State) (t : Time) (e : IntakeEntry) (rest : List IntakeEntry) (i : StreamId) (clamps : Nat) (r : StreamRecord),
    s.headIs e rest (.stream i) → fieldsPass e.role e.payload →
    clamps = (if i = .demand ∧
        clampTo (-s.par.demandMax) s.par.demandMax (payloadWord e.payload 1).toInt ≠ (payloadWord e.payload 1).toInt
      then min (s.report.counters.demandClamps + 1) 65535 else s.report.counters.demandClamps) →
    ((s.streams.get i).lastSequence = some e.sequence ∧
        r = { s.streams.get i with repeats := min ((s.streams.get i).repeats + 1) 65535 } ∨
      (s.streams.get i).lastSequence ≠ some e.sequence ∧ (s.streams.get i).state = .lost ∧
        ∃ d, (s.streams.get i).deadline = some d ∧ (earlier e.arrival d = true → (s.streams.get i).qualifying < 2) ∧
          r = { s.streams.get i with
                lastSequence := some e.sequence, lastArrival := e.arrival,
                deadline := some (later e.arrival ((s.streams.get i).window.getD 0)),
                qualifying := if earlier e.arrival d = true then (s.streams.get i).qualifying + 1 else 1 }) →
    treated = { s with intake := rest, report.counters.demandClamps := clamps, streams := s.streams.set i r } →
    ∃ w, exec (.decode t) s = .next w ∧ s.closedBy treated w t e i

/-- A POWER, REFERENCE or TOW frame whose content is used makes its stream FRESH and sets its record, clamped; a TOW frame that
changes the tow state rewrites the DRIVELINE row (R30, R34, R42, R43, R44, R51). The new deadline governs, however late the decode
comes (R38). A change of the stream's state sets its change flag, which the STATUS of the decode carries, also where the stream is
LATE before and after it (R33, R35, R37, R39, R168); that a STATUS which is refused carries it too is the model's reading (log
entry 19). -/
def Obligations.PowerReferenceAndTowFramesSetTheirRecords : Prop :=
  (∀ (ws : List Word16) (k : Nat), payloadWord ws (k + 1) = ws.getD k 0) ∧
  (∀ lo hi v : Int, lo ≤ hi → clampTo lo hi v = max lo (min hi v)) ∧
  ∀ (s : State) (t : Time) (e : IntakeEntry) (rest : List IntakeEntry) (i : StreamId) (p : Params) (before : Prop),
    s.headIs e rest (.stream i) → (s.streams.get i).uses e → s.params = some p →
    (before ↔ s.streams.tow.state = .lost ∨
      (s.streams.tow.state = .fresh ∨ s.streams.tow.state = .late) ∧ s.records.towPresent = true) →
    (∀ u, exec (.decode t) s = .next u → (i = .power ∨ i = .reference ∨ i = .tow) →
      s.FlagsFollow u i (s.streamAfterUse t e rest i).state) ∧
    (i = .power →
      ∃ u, exec (.decode t) s = .next u ∧
        u.sameButReports { s with now := t, intake := rest, streams := s.streams.set i (s.streamAfterUse t e rest i),
                                  records.power := { discharge := clampTo 0 6000 (payloadWord e.payload 1).toInt,
                                                     charge := clampTo 0 6000 (payloadWord e.payload 2).toInt } }) ∧
    (i = .reference →
      ∃ u, exec (.decode t) s = .next u ∧
        u.sameButReports { s with now := t, intake := rest, streams := s.streams.set i (s.streamAfterUse t e rest i),
                                  records.reference := { speed := clampTo (-25000) 25000 (payloadWord e.payload 1).toInt,
                                                         valid := (payloadWord e.payload 2).getLsbD 0 } }) ∧
    (i = .tow →
      ∃ u, exec (.decode t) s = .next u ∧
        u.sameButReports { s with
          now := t, intake := rest, streams := s.streams.set i (s.streamAfterUse t e rest i), table := u.table,
          records.towPresent := (payloadWord e.payload 1).getLsbD 0 } ∧
        u.table = { s.table with driveline := u.table.driveline } ∧
        (((payloadWord e.payload 1).getLsbD 0 = true ↔ before) → u.table.driveline = s.table.driveline) ∧
        ((payloadWord e.payload 1).getLsbD 0 = true → ¬ before →
          ∀ a, u.table.driveline.get a = some { ceiling := p.drivelineTow.get a, floor := -(p.drivelineTow.get a) }) ∧
        ((payloadWord e.payload 1).getLsbD 0 = false → before →
          ∀ a, u.table.driveline.get a = some { ceiling := p.drivelineSolo.get a, floor := -(p.drivelineSolo.get a) }))

/-- An AXLE STATUS frame whose content is used sets its axle's record, writes its INVERTER cell from the converted capabilities
(R52), moves the axle state (R115, R116, R117, R129) and rewrites the AXLE cell by the table of R54 (R55, R128). A change of the
axle state is handed on: both axles OFFLINE or FAULTED fade a driving part (R134), a pass is requested (R121), and OFFLINE resets
the regulator (R82, R83). An axle that enters FAULTED is a capture trigger (R172). The other axle and the other rows keep what
they hold. The record is what the frame's words carry (R41), and the frame's new deadline governs, however late its decode comes
(R38, section 2.9). The change flag follows the stream's state (R39, R168; log entry 19). -/
def Obligations.StatusFrameWritesItsCellsAndMovesItsAxle : Prop :=
  ∀ (s : State) (t : Time) (e : IntakeEntry) (rest : List IntakeEntry) (a : Axle) (p : Params) (f : AxleStatus),
    s.headIs e rest (.stream (statusStream a)) → (s.streams.get (statusStream a)).uses e →
    s.params = some p → f.carriedBy e.payload →
    ∃ u, exec (.decode t) s = .next u ∧ u.intake = rest ∧ u.records = { s.records with status := s.records.status.set a f } ∧
      (u.streams.get (statusStream a)).unflagged = (s.streamAfterUse t e rest (statusStream a)).unflagged ∧
      (∀ i, i ≠ statusStream a → (u.streams.get i).unflagged = (s.streams.get i).unflagged) ∧
      s.FlagsFollow u (statusStream a) (s.streamAfterUse t e rest (statusStream a)).state ∧
      u.table.inverter = s.table.inverter.set a
        (some { ceiling := (f.driveCapability * p.ratio.get a).tdiv 2560,
                floor := -((f.regenCapability * p.ratio.get a).tdiv 2560) }) ∧
      u.table.axle.get a = (u.axles.get a).state.cell (p.derateCap.get a) f.accepting ∧
      (∀ b, b ≠ a → u.axles.get b = s.axles.get b ∧ u.table.axle.get b = s.table.axle.get b) ∧
      u.table.driveline = s.table.driveline ∧ u.table.stability = s.table.stability ∧
      (u.axles.get a).line = (s.axles.get a).line ∧
      (u.axles.get a).sinceActivation = (s.axles.get a).sinceActivation ∧
      (f.fault = true → (u.axles.get a).state = .faulted ∧ (u.axles.get a).tracking = (s.axles.get a).tracking) ∧
      (f.fault = false → f.ready = false → (s.axles.get a).state ≠ .faulted → (u.axles.get a).state = .offline) ∧
      (f.fault = false → f.ready = true →
        ((s.axles.get a).state = .offline ∨ (s.axles.get a).state = .standby) → (u.axles.get a).state = .standby) ∧
      (f.fault = false → (s.axles.get a).state = .faulted → s.modes.mode = .dozing →
        (u.axles.get a).state = (if f.ready then .standby else .offline) ∧ (u.axles.get a).tracking = 0) ∧
      (f.fault = false → (s.axles.get a).state = .faulted → s.modes.mode ≠ .dozing → u.axles.get a = s.axles.get a) ∧
      (f.fault = false → f.ready = true → f.accepting = false → (s.axles.get a).state.inService = true →
        u.axles.get a = s.axles.get a) ∧
      s.AxleHandedOn u a ∧
      ((u.axles.get a).state = .faulted → (s.axles.get a).state ≠ .faulted →
        s.TriggerTaken u (match a with | .front => .frontFaulted | .rear => .rearFaulted) p.enables.axleFaulted
          (s.streamStates.set (statusStream a) .fresh)) ∧
      ((u.axles.get a).state ≠ .faulted ∨ (s.axles.get a).state = .faulted → s.RequestKept u) ∧
      u.engine.previous = s.engine.previous ∧ u.engine.result = s.engine.result ∧ u.issuer = s.issuer ∧
      u.exception = s.exception ∧ u.filters = s.filters

/-- The command-return check: a status frame of an axle in service, ready and accepting and without fault, is judged against the
entry of the delay line that holds its echoed sequence; the tracking count falls on agreement and rises on disagreement, and moves
the state at 8, 16 and 0 (R124, R125, R127). -/
def Obligations.CommandReturnCheckMovesTheTrackingCount : Prop :=
  ∀ (s : State) (t : Time) (e : IntakeEntry) (rest : List IntakeEntry) (a : Axle) (p : Params) (f : AxleStatus),
    s.headIs e rest (.stream (statusStream a)) → (s.streams.get (statusStream a)).uses e →
    s.params = some p → f.carriedBy e.payload → f.fault = false → f.ready = true → f.accepting = true →
    (s.axles.get a).state.inService = true → (s.axles.get a).tracking ≤ 16 →
    ∃ u, exec (.decode t) s = .next u ∧ (u.axles.get a).line = (s.axles.get a).line ∧
      (∀ before entry after, (s.axles.get a).line = before ++ entry :: after → entry.sequence = f.echoed →
        (∀ x ∈ before, x.sequence ≠ f.echoed) →
        (u.axles.get a).tracking =
          if (f.applied - entry.tenths).natAbs ≤ p.trackingAbs + (entry.tenths.natAbs * p.trackingRel).tdiv 1000 then
            (s.axles.get a).tracking - 1
          else min ((s.axles.get a).tracking + 1) 16) ∧
      ((∀ x ∈ (s.axles.get a).line, x.sequence ≠ f.echoed) →
        (u.axles.get a).tracking =
          if 4 ≤ (s.axles.get a).sinceActivation then min ((s.axles.get a).tracking + 1) 16
          else (s.axles.get a).tracking) ∧
      ((s.axles.get a).state = .active →
        (u.axles.get a).state =
          if (s.axles.get a).tracking < (u.axles.get a).tracking ∧ 8 ≤ (u.axles.get a).tracking then .derated else .active) ∧
      ((s.axles.get a).state = .derated →
        (u.axles.get a).state =
          if (u.axles.get a).tracking = 0 ∧ 0 < (s.axles.get a).tracking then .active
          else if (s.axles.get a).tracking < (u.axles.get a).tracking ∧ (u.axles.get a).tracking = 16 then .faulted
          else .derated)

/-- A DEMAND frame with ready 1 whose content is used wakes a part in DOZING or FADING whose HOLD level is inactive, whose link is
not MUTED and of whose axles one is able: the part enters DRIVING (R133). From DOZING both previous commands become 0, both
regulators are reset and the first pass has the first-pass mark; with a pass of the former drive still in flight the resets wait
for its end, which is the model's reading (log entry 24). From FADING the previous commands, the ceilings and the grip states are
kept and no first-pass mark is set. The frame's own request is taken in DRIVING: an IDLE engine starts a pass with the new record,
which is what the frame's words carry (R40), in its snapshot (R1, R3, R4, R5). That the request is raised also where the stream is
LATE at the end of the decode is the model's choice (log entry 34). The frame's new deadline governs, however late its decode
comes (R38), and the change flag follows the stream's state (R39, R168; log entry 19). -/
def Obligations.ReadyDemandWakesThePart : Prop :=
  (∀ x : AxleState, x.unable = true ↔ x = .offline ∨ x = .faulted) ∧
  ∀ (s : State) (t : Time) (e : IntakeEntry) (rest : List IntakeEntry) (p : Params) (d : DemandRecord),
    s.headIs e rest (.stream .demand) → fieldsPass e.role e.payload → d.carriedBy p e.payload → s.streams.demand.uses e →
    s.params = some p → (s.modes.mode = .dozing ∨ s.modes.mode = .fading) → s.filters.hold.accepted = .inactive →
    s.link.state ≠ .muted → (s.axles.front.state.unable = false ∨ s.axles.rear.state.unable = false) →
    d.ready = true →
    ∃ u, exec (.decode t) s = .next u ∧ u.modes = { s.modes with mode := .driving, cause := .none } ∧
      u.records = { s.records with demand := d } ∧
      u.streams.demand.unflagged = (s.streamAfterUse t e rest .demand).unflagged ∧
      s.FlagsFollow u .demand (s.streamAfterUse t e rest .demand).state ∧
      u.table.driveline = s.table.driveline ∧ u.table.axle = s.table.axle ∧ u.table.inverter = s.table.inverter ∧
      u.axles = s.axles ∧ u.issuer = s.issuer ∧ u.intake = rest ∧ u.exception = s.exception ∧ u.filters = s.filters ∧
      (s.engine.flight = none → ∃ sn, u.engine.flight = some sn ∧ sn.mode = .driving ∧ sn.time = t ∧
        sn.demand = d ∧ sn.demandState = .fresh ∧ sn.status = s.records.status ∧
        sn.power = s.records.power ∧ sn.hold = .inactive ∧ sn.table = u.table ∧
        sn.firstPass = (decide (s.modes.mode = .dozing) || s.engine.firstPass) ∧
        u.engine.timer = some (later t p.maxPassInterval) ∧ u.engine.pendingPass = false ∧
        u.engine.lastStart = t ∧ u.engine.firstPass = false) ∧
      (s.modes.mode = .dozing → s.engine.flight = none → u.engine.previous = ⟨0, 0⟩ ∧
        u.report.gripLimiting = false ∧
        ∀ a, u.grip.get a = { ceiling := none, state := .gripping, limitingSince := none } ∧ u.table.grip.get a = none) ∧
      (s.modes.mode = .dozing → ∀ sn, s.engine.flight = some sn →
        u.grip = s.grip ∧ u.engine =
          { s.engine with
            pendingPass := true
            firstPass := true
            deferred := s.engine.deferred ++ [.previousCommands, .regulator .front, .regulator .rear] }) ∧
      (s.modes.mode = .fading → u.engine.previous = s.engine.previous ∧ u.grip = s.grip ∧ u.table.grip = s.table.grip) ∧
      (s.modes.mode = .fading → ∀ sn, s.engine.flight = some sn → u.engine = { s.engine with pendingPass := true })

/-- A DEMAND frame whose content is used sets the demand record and changes no mode where it neither wakes the part nor fades it:
in DOZING and FADING with ready 0, an active HOLD, a MUTED link or both axles unable, and in every other mode but DRIVING. Its
pass request is taken in FADING and SUPPLY DOWN and dropped elsewhere (R2, R3, R133, R134). That the request is raised also where
the stream is LATE at the end of the decode is the model's choice (log entry 34). The record is what the frame's words carry
(R40), the frame's new deadline governs, however late its decode comes (R38), and the change flag follows the stream's state (R39,
R168; log entry 19). -/
def Obligations.DemandThatWakesNothingSetsItsRecord : Prop :=
  ∀ (s : State) (t : Time) (e : IntakeEntry) (rest : List IntakeEntry) (d : DemandRecord),
    s.headIs e rest (.stream .demand) → fieldsPass e.role e.payload → d.carriedBy s.par e.payload → s.streams.demand.uses e →
    s.modes.mode ≠ .driving →
    (s.modes.mode = .dozing ∨ s.modes.mode = .fading →
      d.ready = false ∨ s.filters.hold.accepted = .active ∨ s.link.state = .muted ∨
        (s.axles.front.state.unable = true ∧ s.axles.rear.state.unable = true)) →
    ∃ u, exec (.decode t) s = .next u ∧
      u.sameButReports { s with
        now := t, intake := rest, streams.demand := s.streamAfterUse t e rest .demand, engine := u.engine,
        records.demand := d,
        report.counters.demandClamps :=
          if clampTo (-s.par.demandMax) s.par.demandMax (payloadWord e.payload 1).toInt = (payloadWord e.payload 1).toInt then
            s.report.counters.demandClamps else min (s.report.counters.demandClamps + 1) 65535 } ∧
      s.PassRequested u ∧ s.FlagsFollow u .demand (s.streamAfterUse t e rest .demand).state ∧
      (∀ sn, s.engine.flight = some sn → s.modes.mode.runsPasses = true →
        u.engine = { s.engine with pendingPass := true }) ∧
      (s.modes.mode.runsPasses = false → u.engine = s.engine) ∧
      (s.engine.flight = none → ∀ sn, u.engine.flight = some sn → sn.demand = d)

/-- In DRIVING a DEMAND frame whose content is used requests a pass: an IDLE engine starts one at once, and a pass in flight goes
on with its snapshot and a pending pass (R2, R3). A frame with ready 0 first moves the part to FADING, whose entry requests the
pass (R134); that the request of the frame itself then leaves a pending pass is the model's reading (log entry 20: the requests of
one event are taken one after another). That the request is raised also where the stream is LATE at the end of the decode is the
model's choice (log entry 34). The record is what the frame's words carry (R40), the frame's new deadline governs, however late
its decode comes (R38), and the change flag follows the stream's state (R39, R168; log entry 19). -/
def Obligations.DemandInDrivingRequestsAPassOrFades : Prop :=
  ∀ (s : State) (t : Time) (e : IntakeEntry) (rest : List IntakeEntry) (p : Params) (d : DemandRecord),
    s.headIs e rest (.stream .demand) → fieldsPass e.role e.payload → d.carriedBy p e.payload → s.streams.demand.uses e →
    s.params = some p → s.modes.mode = .driving →
    ∃ u, exec (.decode t) s = .next u ∧ u.modes.mode = (if d.ready then .driving else .fading) ∧
      u.records = { s.records with demand := d } ∧
      u.streams.demand.unflagged = (s.streamAfterUse t e rest .demand).unflagged ∧ u.intake = rest ∧
      s.FlagsFollow u .demand (s.streamAfterUse t e rest .demand).state ∧
      u.engine.previous = s.engine.previous ∧ u.grip = s.grip ∧ u.table = s.table ∧ u.axles = s.axles ∧
      u.issuer = s.issuer ∧ u.exception = s.exception ∧ u.filters = s.filters ∧
      u.report.counters.demandClamps =
        (if clampTo (-p.demandMax) p.demandMax (payloadWord e.payload 1).toInt = (payloadWord e.payload 1).toInt then
          s.report.counters.demandClamps else min (s.report.counters.demandClamps + 1) 65535) ∧
      (∀ sn, s.engine.flight = some sn → u.engine = { s.engine with pendingPass := true }) ∧
      (s.engine.flight = none →
        ∃ sn, u.engine.flight = some sn ∧ sn.mode = u.modes.mode ∧ sn.time = t ∧ sn.demand = d ∧
          sn.table = s.table ∧ u.engine.timer = some (later t p.maxPassInterval) ∧ u.engine.lastStart = t ∧
          u.engine.pendingPass = !d.ready)

/-- A STABILITY frame whose content is used sets both STABILITY cells from its caps and its hold time, counted from its arrival
(R56); a cell is changed where it becomes present or absent or its cap differs, and a change requests a pass (R57): an IDLE engine
starts one, and a pass in flight goes on with its snapshot and a pending pass (R3). The caps are words 1 and 2 as unsigned numbers
(R45), and the frame's new deadline governs, however late its decode comes (R38). -/
def Obligations.StabilityFrameSetsTheCaps : Prop :=
  ∀ (s : State) (t : Time) (e : IntakeEntry) (rest : List IntakeEntry) (hold : Nat),
    s.headIs e rest (.stream .stability) → fieldsPass e.role e.payload →
    s.streams.stability.uses e → (hold : Int) = max 0 (min 1000 (payloadWord e.payload 3).toInt) →
    ∃ u, exec (.decode t) s = .next u ∧ u.streams.stability.unflagged = (s.streamAfterUse t e rest .stability).unflagged ∧
      u.intake = rest ∧ u.records = s.records ∧ u.axles = s.axles ∧ u.modes = s.modes ∧
      u.grip = s.grip ∧ u.issuer = s.issuer ∧ u.table.driveline = s.table.driveline ∧ u.table.inverter = s.table.inverter ∧
      u.table.axle = s.table.axle ∧
      (∀ a cap, (payloadWord e.payload (match a with | .front => 1 | .rear => 2)).toNat = cap →
        u.table.stability.get a =
          if hold = 0 ∨ cap = 65535 ∨ reached t (later e.arrival hold) = true then none
          else some { cap := cap, expiry := some (later e.arrival hold) }) ∧
      (s.modes.mode.runsPasses = false → u.engine = s.engine) ∧
      ((∀ a, (u.table.stability.get a).map (·.cap) = (s.table.stability.get a).map (·.cap)) → u.engine = s.engine) ∧
      (s.modes.mode.runsPasses = true →
        (∃ a, (u.table.stability.get a).map (·.cap) ≠ (s.table.stability.get a).map (·.cap)) →
        (s.engine.flight = none →
          ∃ sn, u.engine.flight = some sn ∧ sn.table = u.table ∧ sn.time = t ∧ sn.mode = s.modes.mode ∧
            u.engine.pendingPass = false ∧ u.engine.lastStart = t) ∧
        (∀ sn, s.engine.flight = some sn → u.engine = { s.engine with pendingPass := true }))

/-- A QUERY entry is handed to the query service and an ALERT SEEN entry to the alert table: the decode acts as the command of the
query's kind does on the queue's rest, and a query of no known kind is answered UNKNOWN, or refused by a busy service, or its
reply is lost in LISTEN and under the quiet mark, the service staying IDLE with its refused count (R28, R46, R174). That such a
command is the hand-on of the decode and takes no queue entry itself is the model's reading (log entry 4). -/
def Obligations.QueryEntriesAreHandedOn : Prop :=
  ∀ (s : State) (t : Time) (e : IntakeEntry) (rest : List IntakeEntry),
    (s.headIs e rest .query →
      (payloadWord e.payload 1 = 1 →
        exec (.decode t) s = exec (.readCapture t (payloadWord e.payload 2)) { s with intake := rest }) ∧
      (payloadWord e.payload 1 = 2 →
        exec (.decode t) s = exec (.releaseCapture t (payloadWord e.payload 2)) { s with intake := rest }) ∧
      (payloadWord e.payload 1 = 3 → exec (.decode t) s = exec (.readException t) { s with intake := rest }) ∧
      (payloadWord e.payload 1 = 4 → exec (.decode t) s = exec (.releaseException t) { s with intake := rest }) ∧
      (payloadWord e.payload 1 = 5 → exec (.decode t) s = exec (.readCounters t) { s with intake := rest }) ∧
      (payloadWord e.payload 1 = 6 →
        exec (.decode t) s = exec (.readStreamCounts t (payloadWord e.payload 2)) { s with intake := rest })) ∧
    (s.headIs e rest .query → ((payloadWord e.payload 1).toNat = 0 ∨ 6 < (payloadWord e.payload 1).toNat) →
      s.recognition ≠ [] → s.link.state ≠ .listen → s.link.quiet = false →
      (s.report.query.busy = none →
        exec (.decode t) s =
          .next { s with
            now := t, intake := rest, draws := s.draws + 1,
            link.mailboxes.reply := some
              { kind := .reply, sequence := Config.freeSequence s.draws,
                content := .reply .unknown 1 1 s.report.query.refused [] },
            report.query := { busy := some { code := .unknown, total := 1, bodies := [[]] }, refused := 0 } }) ∧
      (∀ r, s.report.query.busy = some r →
        exec (.decode t) s =
          .next { s with now := t, intake := rest,
                         report.query.refused := min (s.report.query.refused + 1) 65535 })) ∧
    (s.headIs e rest .query → ((payloadWord e.payload 1).toNat = 0 ∨ 6 < (payloadWord e.payload 1).toNat) →
      s.recognition ≠ [] → (s.link.state = .listen ∨ s.link.quiet = true) → s.report.query.busy = none →
      exec (.decode t) s = .next { s with now := t, intake := rest, draws := s.draws + 1 }) ∧
    (s.headIs e rest .alertSeen →
      exec (.decode t) s = exec (.alertSeen t (payloadWord e.payload 1)) { s with intake := rest })

/-! ## Expiries -/

/-- A window expires at its deadline unless an entry of its role that arrived before it waits in the queue (R38): a FRESH stream
becomes LATE with its record held (R35), a LOST stream stays LOST with its qualifying count 0 (R37), and the next deadline is one
window later. Times are compared on their 32-bit difference: at a deadline it is reached, 1 ms before it not, and the wrap changes
nothing (R32, R56); that the difference is read as a signed number is the model's reading (log entry 33). That the command does
nothing before the deadline is the model's choice (log entry 11), and that the flag is CARRIED by the new placement also where the
STATUS is refused is its reading (log entry 19). -/
def Obligations.WindowExpiryWaitsForEarlierEntries : Prop :=
  (∀ (now d : Time) (ms : Nat),
    (earlier now d = true ↔ 2 ^ 31 ≤ (now - d).toNat) ∧ (reached now d = true ↔ (now - d).toNat < 2 ^ 31) ∧
      (later d ms).toNat = (d.toNat + ms) % 2 ^ 32 ∧ reached d d = true ∧ reached (d - 1) d = false ∧
      earlier (d - 1) d = true ∧ earlier d d = false ∧ reached (d + 1) d = true) ∧
  ∀ (s : State) (t : Time) (i : StreamId),
    ((∀ d, (s.streams.get i).deadline = some d →
        reached t d = false ∨ ∃ e ∈ s.intake, e.role = .stream i ∧ earlier e.arrival d = true) →
      exec (.windowExpiry t i) s = .next { s with now := t }) ∧
    (∀ d, (s.streams.get i).deadline = some d → reached t d = true →
      (∀ e ∈ s.intake, e.role = .stream i → earlier e.arrival d = false) →
      ((s.streams.get i).state = .fresh →
        ∃ u, exec (.windowExpiry t i) s = .next u ∧
          u.sameButReports { s with now := t, streams := s.streams.set i { s.streams.get i with
            state := .late, deadline := some (later d ((s.streams.get i).window.getD 0)) } } ∧
          u.report.placement = s.report.placement + 1 ∧ (u.streams.get i).flag = .carried (s.report.placement + 1)) ∧
      ((s.streams.get i).state = .lost →
        exec (.windowExpiry t i) s =
          .next { s with now := t, streams := s.streams.set i { s.streams.get i with
            qualifying := 0, deadline := some (later d ((s.streams.get i).window.getD 0)) } }))

/-- The second expiry makes a LATE stream LOST and gives its record the LOST fallback (R36). DEMAND fades the part in DRIVING,
whose entry requests a pass (R134); a status stream takes its INVERTER cell away and its axle OFFLINE, unless it is FAULTED (R53,
R118), and a change of the axle state is handed on: both axles OFFLINE or FAULTED fade a driving part (R134), a pass is requested
(R121), and the regulator is reset (R82, R83); STABILITY puts the fallback caps in place (R59); TOW assumes a trailer. The demand
stream entering LOST is a capture trigger, and the loss of another stream is none (R172). The stream's change flag is set, and the
STATUS of the expiry carries it (R39, R168), also where it is refused, which is the model's reading (log entry 19). -/
def Obligations.LostStreamTakesItsFallback : Prop :=
  ∀ (s : State) (t : Time) (i : StreamId) (d : Time) (p : Params),
    s.params = some p → (s.streams.get i).state = .late → (s.streams.get i).deadline = some d → reached t d = true →
    (∀ e ∈ s.intake, e.role = .stream i → earlier e.arrival d = false) →
    ∃ u, exec (.windowExpiry t i) s = .next u ∧ u.intake = s.intake ∧ u.issuer = s.issuer ∧ u.exception = s.exception ∧
      u.filters = s.filters ∧
      (u.streams.get i).unflagged =
        { (s.streams.get i).unflagged with state := .lost, qualifying := 0,
                                           deadline := some (later d ((s.streams.get i).window.getD 0)) } ∧
      (∀ j, j ≠ i → (u.streams.get j).unflagged = (s.streams.get j).unflagged) ∧ s.FlagsFollow u i .lost ∧
      (i = .demand → u.records = { s.records with demand := .fallback } ∧ u.axles = s.axles ∧ u.table = s.table ∧
        u.grip = s.grip ∧ u.engine.previous = s.engine.previous ∧
        u.modes.mode = (if s.modes.mode = .driving then .fading else s.modes.mode) ∧
        (s.modes.mode = .driving → s.PassRequested u) ∧ (s.modes.mode ≠ .driving → u.engine = s.engine) ∧
        s.TriggerTaken u .demandLost p.enables.demandLost (s.streamStates.set .demand .lost)) ∧
      (i ≠ .demand → s.RequestKept u) ∧
      (∀ a, i = statusStream a → u.records = { s.records with status := s.records.status.set a .fallback } ∧
        u.table.inverter = s.table.inverter.set a none ∧
        (u.axles.get a).state = (if (s.axles.get a).state = .faulted then .faulted else .offline) ∧
        u.table.axle.get a = some { ceiling := 0, floor := 0 } ∧ (∀ b, b ≠ a → u.axles.get b = s.axles.get b) ∧
        s.AxleHandedOn u a) ∧
      (i = .power → u.records = { s.records with power := ⟨p.fallbackDischarge, p.fallbackCharge⟩ } ∧ u.table = s.table ∧
        u.modes = s.modes ∧ u.engine = s.engine ∧ u.axles = s.axles) ∧
      (i = .reference → u.records = { s.records with reference := .fallback } ∧ u.table = s.table ∧ u.modes = s.modes ∧
        u.engine = s.engine ∧ u.axles = s.axles) ∧
      (i = .stability → u.records = s.records ∧ u.modes = s.modes ∧ u.axles = s.axles ∧
        (∀ a, u.table.stability.get a = some { cap := p.stabilityFallback.get a, expiry := none }) ∧
        ((∃ a, (s.table.stability.get a).map (·.cap) ≠ some (p.stabilityFallback.get a)) → s.PassRequested u)) ∧
      (i = .tow → u.records = { s.records with towPresent := true } ∧ u.modes = s.modes ∧ u.engine = s.engine ∧
        u.axles = s.axles ∧
        (s.records.towPresent = false →
          ∀ a, u.table.driveline.get a = some { ceiling := p.drivelineTow.get a, floor := -(p.drivelineTow.get a) }))

/-- A stability hold expires at its time unless a STABILITY entry that arrived before it waits: the cell becomes absent and a pass
is requested (R58). That the command does nothing where no hold is due is the model's choice (log entry 11). -/
def Obligations.HoldExpiryRemovesTheCaps : Prop :=
  ∀ (s : State) (t : Time),
    ((∀ a c x, s.table.stability.get a = some c → c.expiry = some x →
        reached t x = false ∨ ∃ e ∈ s.intake, e.role = .stream .stability ∧ earlier e.arrival x = true) →
      exec (.holdExpiry t) s = .next { s with now := t }) ∧
    (∀ a c x, s.table.stability.get a = some c → c.expiry = some x → reached t x = true →
      (∀ e ∈ s.intake, e.role = .stream .stability → earlier e.arrival x = false) →
      ∃ u, exec (.holdExpiry t) s = .next u ∧ u.table.stability.get a = none ∧
        u = { s with now := t, table.stability := u.table.stability, engine := u.engine } ∧
        (∀ b k, s.table.stability.get b = some k → k.expiry = none → u.table.stability.get b = some k) ∧
        (∀ b k y, s.table.stability.get b = some k → k.expiry = some y → reached t y = false →
          u.table.stability.get b = some k) ∧
        (s.modes.mode.runsPasses = false → u.engine = s.engine) ∧
        (∀ sn, s.modes.mode.runsPasses = true → s.engine.flight = some sn →
          u.engine = { s.engine with pendingPass := true }) ∧
        (s.modes.mode.runsPasses = true → s.engine.flight = none →
          ∃ sn, u.engine.flight = some sn ∧ sn.table = u.table ∧ sn.time = t ∧ u.engine.lastStart = t))

/-- The pass timer's expiry requests a pass (R4): in a mode that runs passes an IDLE engine starts one, with the snapshot of R5
and the timer restarted, and a pass in flight is followed by a pending one (R3). That the command does nothing while the timer is
stopped or not yet due is the model's choice (log entry 11). -/
def Obligations.PassTimerExpiryRequestsAPass : Prop :=
  (∀ m : Mode, m.runsPasses = true ↔ m = .driving ∨ m = .fading ∨ m = .supplyDown) ∧
  ∀ (s : State) (t : Time) (p : Params), s.params = some p →
    ((∀ d, s.engine.timer = some d → reached t d = false) → exec (.passTimerExpiry t) s = .next { s with now := t }) ∧
    (∀ d, s.engine.timer = some d → reached t d = true → s.modes.mode.runsPasses = true →
      (∀ sn, s.engine.flight = some sn →
        exec (.passTimerExpiry t) s = .next { s with now := t, engine.timer := none, engine.pendingPass := true }) ∧
      (s.engine.flight = none →
        exec (.passTimerExpiry t) s =
          .next { s with
            now := t
            engine := { s.engine with
              flight := some (s.snapshotAt s.table t)
              pendingPass := false
              timer := some (later t p.maxPassInterval)
              lastStart := t
              firstPass := false } }))

/-! ## Pass ends -/

/-- The end of a pass that completes no fade and no supply ramp writes its results: the finals become the previous commands, the
regulators and the GRIP cells take the pass's, a pass of SUPPLY DOWN lowers the SUPPLY cells by the fall rate, and SUPPLY DOWN
entered during the pass sets them at the finals' magnitudes (R61); the pass number rises and the pass result record takes the
pass's values; the SPLIT REPORT is placed with the report sequence, which rises; the first DRIVELINE event of the pass is held in
an EMPTY exception record and the others are counted (R9, R20, R65, R111). At step 6 the deferred resets put the previous commands
at 0 and the regulators named in their reset form, after step 1 has written; the pass result record keeps the pass's values, and
the list is empty (R8, R60, R83). GRIP LIMITING follows R169. At step 8 a pending pass starts from a new snapshot, taken of the
machine as the steps before left it; with none the engine is IDLE. The axles that step 5 activates request passes after step 8:
the first request of an IDLE engine starts a pass and a further one leaves it pending (R8, R119, R121); that two axles activated
at one end ask twice is the model's reading (log entry 20). -/
def Obligations.PassEndWritesTheResults : Prop :=
  ∀ (s : State) (t : Time) (sn : Snapshot) (out : PassOut) (activated : Axle → Bool) (wanted : Nat),
    s.engine.flight = some sn → s.modes.mode.runsPasses = true →
    (∀ a, activated a = true ↔
      s.modes.mode = .driving ∧ (s.axles.get a).state = .standby ∧ (s.records.status.get a).accepting = true) →
    wanted = s.engine.pendingPass.toNat + (activated .front).toNat + (activated .rear).toNat →
    computePass s.par sn s.engine.previous s.grip (s.engine.passNumber + 1) = out →
    (s.modes.mode = .driving ∨ sn.mode ≠ s.modes.mode ∨ out.record.final ≠ ⟨0, 0⟩) →
    ∃ u, exec (.passEnd t) s = .next u ∧ s.ResultsWritten u sn out ∧
      (wanted = 0 → u.engine =
        { s.engine with flight := none, previous := u.engine.previous, passNumber := s.engine.passNumber + 1,
                        result := out.record, deferred := [] }) ∧
      (0 < wanted → u.engine =
        { flight := some (s.snapshotAt u.table t), pendingPass := decide (1 < wanted),
          timer := some (later t s.par.maxPassInterval), previous := u.engine.previous, lastStart := t, firstPass := false,
          passNumber := s.engine.passNumber + 1, result := out.record, deferred := [] }) ∧
      u.table = { s.table with grip := u.table.grip, supply := u.table.supply, axle := u.table.axle } ∧
      (∀ a, u.axles.get a =
          (if activated a then { state := .active, tracking := 0, sinceActivation := 0, line := [] } else s.axles.get a) ∧
        u.table.axle.get a = if activated a then none else s.table.axle.get a) ∧
      (∀ a b m, sn.mode = .supplyDown → sn.table.supply.get a = some b →
        m = max 0 (b.ceiling - s.par.supplyFallRate * elapsedTime sn) →
        u.table.supply.get a = some { ceiling := m, floor := -m }) ∧
      (∀ a, sn.mode ≠ .supplyDown → s.modes.mode = .supplyDown → u.table.supply.get a =
        some { ceiling := (out.record.final.get a).natAbs, floor := -(out.record.final.get a).natAbs }) ∧
      (sn.mode ≠ .supplyDown → s.modes.mode ≠ .supplyDown → u.table.supply = s.table.supply) ∧
      u.issuer.reportSequence = s.issuer.reportSequence + 1 ∧
      (s.takesFrames → u.link.mailboxes.splitReport = some
        { kind := .splitReport, sequence := s.issuer.reportSequence,
          content := .splitReport out.record.demand out.record.final out.record.shortfall out.record.share
            out.record.factor out.record.governor out.record.gripState }) ∧
      u.report.powerRun = (if out.record.factor < 4096 then min (s.report.powerRun + 1) 20 else 0) ∧
      (s.exception = none → u.exception =
        match out.cuts.filter fun c => c.row == .driveline with
        | [] => none
        | c :: later => some
          { event := .driveline c.axle sn.time (s.engine.passNumber + 1) c.preClip c.limit, further := min later.length 255 }) ∧
      u.modes = s.modes ∧ u.records = s.records ∧ u.intake = s.intake ∧ u.filters = s.filters ∧
      (∀ i, (u.streams.get i).unflagged = (s.streams.get i).unflagged) ∧ u.supply.flag = s.supply.flag ∧
      u.link.state = s.link.state ∧ u.link.transmitting = s.link.transmitting

/-- At the end of a pass in a mode that runs passes, and that is no closing pass, an axle in service gets a service frame with its
final as motor torque, enable 1 and the state code of the pass's mode, DRIVE, FADE or SUPPLY, and an axle that left service gets
one release frame with the same code; each takes the axle's sequence, which rises (R105, R106, R108). Any other axle gets none.
Each frame that replaces an older one in its mailbox raises the superseded-command counter, and the SPLIT REPORT, the STATUS and
the ALERT of the event raise none (R110, R151). -/
def Obligations.PassEndPlacesServiceAndReleaseFrames : Prop :=
  (∀ x : AxleState, x.inService = true ↔ x = .active ∨ x = .derated) ∧
  ∀ (s : State) (t : Time) (sn : Snapshot) (out : PassOut) (a : Axle) (p : Params) (code : StateCode),
    s.engine.flight = some sn → s.modes.mode.runsPasses = true → s.params = some p → s.takesFrames →
    (sn.mode = .driving ∧ code = .drive ∨ sn.mode = .fading ∧ code = .fade ∨ sn.mode = .supplyDown ∧ code = .supply) →
    computePass p sn s.engine.previous s.grip (s.engine.passNumber + 1) = out →
    (s.modes.mode = .driving ∨ sn.mode ≠ s.modes.mode ∨ out.record.final ≠ ⟨0, 0⟩) →
    ∃ u, exec (.passEnd t) s = .next u ∧
      u.report.counters =
        { s.report.counters with superseded := s.supersededAfter, missedCaptures := u.report.counters.missedCaptures } ∧
      ((s.axles.get a).state.inService = true →
        u.link.mailboxes.get (commandKind a) = some
          { kind := commandKind a, sequence := s.issuer.sequence.get a,
            content := .command (max (-6000) (min 6000 ((out.record.final.get a * 2560).tdiv (p.ratio.get a)))) code
              (out.record.governor.get a != .none) true } ∧
        u.issuer.sequence.get a = s.issuer.sequence.get a + 1 ∧ u.issuer.inService.get a = true) ∧
      ((s.axles.get a).state.inService = false → s.issuer.inService.get a = true →
        u.link.mailboxes.get (commandKind a) = some
          { kind := commandKind a, sequence := s.issuer.sequence.get a, content := .command 0 code false false } ∧
        u.issuer.sequence.get a = s.issuer.sequence.get a + 1 ∧ u.issuer.inService.get a = false) ∧
      ((s.axles.get a).state.inService = false → s.issuer.inService.get a = false →
        u.link.mailboxes.get (commandKind a) = s.link.mailboxes.get (commandKind a) ∧
        u.issuer.sequence.get a = s.issuer.sequence.get a ∧ u.issuer.inService.get a = false)

/-- A pass end in DRIVING, whatever the mode of the pass, makes a STANDBY axle whose record accepts ACTIVE, with its counts 0, its
delay line empty and its AXLE cell absent, and the change of state starts the axle's first pass (R119, R121). A STANDBY axle whose
record does not accept, and one at a pass end in another mode, is not activated. -/
def Obligations.PassEndActivatesStandbyAxles : Prop :=
  ∀ (s : State) (t : Time) (sn : Snapshot) (a : Axle),
    s.engine.flight = some sn → (s.axles.get a).state = .standby →
    (s.modes.mode ≠ .driving → ∃ u, exec (.passEnd t) s = .next u ∧ (u.axles.get a).state ≠ .active) ∧
    (s.modes.mode = .driving → (s.records.status.get a).accepting = true →
      ∃ u next, exec (.passEnd t) s = .next u ∧
        u.axles.get a = { state := .active, tracking := 0, sinceActivation := 0, line := [] } ∧
        u.table.axle.get a = none ∧ u.engine.flight = some next ∧ next.table.axle.get a = none ∧ next.time = t ∧
        next.mode = .driving ∧ u.modes = s.modes ∧ u.records = s.records ∧ u.intake = s.intake) ∧
    (s.modes.mode = .driving → (s.records.status.get a).accepting = false →
      ∃ u, exec (.passEnd t) s = .next u ∧ u.axles.get a = s.axles.get a)

/-- A pass that ends in a mode that runs none places no AXLE COMMAND, leaves the command sequences and marks alone, and still
places its SPLIT REPORT and completes its other steps; a pending pass is dropped, and the deferred resets are applied after step 1
has written (R8, R9). -/
def Obligations.PassEndingOutsideDrivePlacesNoCommand : Prop :=
  ∀ (s : State) (t : Time) (sn : Snapshot) (out : PassOut),
    s.engine.flight = some sn → s.modes.mode.runsPasses = false →
    computePass s.par sn s.engine.previous s.grip (s.engine.passNumber + 1) = out →
    ∃ u, exec (.passEnd t) s = .next u ∧ u.link.mailboxes.frontCommand = s.link.mailboxes.frontCommand ∧
      u.link.mailboxes.rearCommand = s.link.mailboxes.rearCommand ∧ u.issuer.sequence = s.issuer.sequence ∧
      u.issuer.inService = s.issuer.inService ∧ u.issuer.reportSequence = s.issuer.reportSequence + 1 ∧
      (s.takesFrames → ∃ f, u.link.mailboxes.splitReport = some f ∧ f.sequence = s.issuer.reportSequence) ∧
      u.engine.flight = none ∧ u.engine.pendingPass = false ∧ u.engine.deferred = [] ∧
      u.engine.passNumber = s.engine.passNumber + 1 ∧ u.engine.result = out.record ∧ u.modes = s.modes ∧ u.axles = s.axles ∧
      u.engine.timer = s.engine.timer ∧ s.ResultsWritten u sn out ∧ u.report.counters.superseded = s.report.counters.superseded

/-- The pass end raises a capture request for its DRIVELINE events, where their trigger is enabled: the first sets the request and
each other, as each while a request already waits, raises its merged count, not above 255 (R172). A request that waits, or was
raised so, is then filled from the pass result record of this pass and from the mode, the axle states and the stream states of the
moment, step 4, before an axle is activated at step 5 (R8, R173); without one the slots stand. -/
def Obligations.PassEndFillsTheCaptureRequest : Prop :=
  ∀ (s : State) (t : Time) (sn : Snapshot) (out : PassOut) (p : Params) (events : Nat),
    s.engine.flight = some sn → s.params = some p →
    computePass p sn s.engine.previous s.grip (s.engine.passNumber + 1) = out →
    events = (if p.enables.driveline then (out.cuts.filter fun c => c.row == .driveline).length else 0) →
    ∃ u, exec (.passEnd t) s = .next u ∧
      (∀ r, (s.report.request = some r ∨ s.report.request = none ∧ 0 < events ∧ r = ⟨.driveline, t, 0⟩) →
        r.merged ≤ 255 →
        s.report.Filled u.report p.captureMode
          { source := r.source, time := r.time,
            merged := min (r.merged + (if s.report.request = none then events - 1 else events)) 255,
            record := out.record, mode := s.modes.mode, axles := ⟨s.axles.front.state, s.axles.rear.state⟩,
            streams := ⟨s.streams.demand.state, s.streams.frontStatus.state, s.streams.rearStatus.state,
              s.streams.power.state, s.streams.reference.state, s.streams.stability.state, s.streams.tow.state⟩ }) ∧
      (s.report.request = none → events = 0 →
        u.report.request = none ∧ u.report.slotOne = s.report.slotOne ∧ u.report.slotTwo = s.report.slotTwo ∧
          u.report.newestSlot = s.report.newestSlot ∧
          u.report.counters.missedCaptures = s.report.counters.missedCaptures)

/-- The pass in FADING whose finals are both 0 closes the fade: the axles in service and those still marked get release frames,
the part enters DOZING, the axles in service stand by and no pass follows (R107, R135). The pass in SUPPLY DOWN whose finals are
both 0 ends the supply ramp: with no restore pending the part enters SUPPLY HALTED, its link goes quiet and the SUPPLY cells
become absent; with one pending it makes a warm restart (R141, R142, R145), which stops a frame in transmission (R148); that what
remains of that frame is then on the bus is the model's choice (log entry 32). -/
def Obligations.ClosingPassEndsTheFadeOrTheSupplyRamp : Prop :=
  ∀ (s : State) (t : Time) (sn : Snapshot) (out : PassOut),
    s.engine.flight = some sn → sn.mode = s.modes.mode →
    computePass s.par sn s.engine.previous s.grip (s.engine.passNumber + 1) = out → out.record.final = ⟨0, 0⟩ →
    (s.modes.mode = .fading →
      ∃ u, exec (.passEnd t) s = .next u ∧ u.modes.mode = .dozing ∧ u.engine.flight = none ∧ u.engine.pendingPass = false ∧
        u.engine.timer = none ∧ u.engine.previous = ⟨0, 0⟩ ∧ u.issuer.inService = ⟨false, false⟩ ∧
        u.engine.deferred = [] ∧ s.ResultsWritten u sn out ∧
        (∀ a, (u.axles.get a).state = if (s.axles.get a).state.inService then .standby else (s.axles.get a).state) ∧
        (s.takesFrames → u.report.counters.superseded = s.supersededAfter) ∧
        (∀ a, s.takesFrames → ((s.axles.get a).state.inService = true ∨ s.issuer.inService.get a = true) →
          u.link.mailboxes.get (commandKind a) = some
            { kind := commandKind a, sequence := s.issuer.sequence.get a, content := .command 0 .fade false false }) ∧
        u.records = s.records ∧ u.intake = s.intake ∧ u.filters = s.filters ∧ u.table.driveline = s.table.driveline) ∧
    (s.modes.mode = .supplyDown → s.modes.restorePending = false → s.link.state = .active → s.link.quiet = false →
      ∃ u, exec (.passEnd t) s = .next u ∧ u.modes.mode = .supplyHalted ∧ u.table.supply = ⟨none, none⟩ ∧
        u.link.quiet = true ∧ u.link.state = .active ∧ u.link.mailboxes.status.isSome = true ∧ u.engine.flight = none ∧
        u.engine.timer = none ∧ u.engine.previous = ⟨0, 0⟩ ∧ u.issuer.inService = ⟨false, false⟩ ∧
        u.engine.deferred = [] ∧ s.ResultsWritten u sn out ∧ u.report.counters.superseded = s.supersededAfter ∧
        (∀ a, (u.axles.get a).state = if (s.axles.get a).state.inService then .standby else (s.axles.get a).state) ∧
        (∀ a, ((s.axles.get a).state.inService = true ∨ s.issuer.inService.get a = true) →
          u.link.mailboxes.get (commandKind a) = some
            { kind := commandKind a, sequence := s.issuer.sequence.get a, content := .command 0 .supply false false }) ∧
        u.records = s.records ∧ u.intake = s.intake) ∧
    (s.modes.mode = .supplyDown → s.modes.restorePending = true →
      ∃ u, exec (.passEnd t) s = .next u ∧ s.WarmRestarted u ∧ u.engine.passNumber = s.engine.passNumber + 1 ∧
        u.engine.result = out.record)

/-! ## Inputs and timers -/

/-- A line that changes to the level opposite to the accepted one makes that level the candidate, due one filter time later; a
change back withdraws it; before acceptance the filters watch nothing. The filter timer's expiry makes the candidate the accepted
level (R137). HOLD becoming ACTIVE in DRIVING fades the part (R134). MARK becoming ACTIVE with its trigger enabled sets a capture
request, or raises the merged count of a waiting one; with no pass in flight in a mode that runs none it is filled at once, and
otherwise it waits (R172, R173). Every other accepted change does nothing more. That a line change to the level the line has, and
an expiry that is not yet due, move the clock alone is the model's choice (log entry 11). -/
def Obligations.FiltersAcceptALevelThatLasts : Prop :=
  (∀ (s : State) (t : Time) (l : LineId) (level : Level),
    (level = (s.filters.get l).line → exec (.lineChange t l level) s = .next { s with now := t }) ∧
    (level ≠ (s.filters.get l).line → s.params = none →
      exec (.lineChange t l level) s =
        .next { s with now := t, filters := s.filters.set l { s.filters.get l with line := level } }) ∧
    (∀ p, level ≠ (s.filters.get l).line → s.params = some p → level ≠ (s.filters.get l).accepted →
      exec (.lineChange t l level) s =
        .next { s with now := t, filters := s.filters.set l {
                    line := level, accepted := (s.filters.get l).accepted, candidate := some level,
                    timer := some (later t (p.filterTime.get l)) } }) ∧
    (∀ p, level ≠ (s.filters.get l).line → s.params = some p → level = (s.filters.get l).accepted →
      exec (.lineChange t l level) s =
        .next { s with now := t, filters := s.filters.set l {
                    line := level, accepted := (s.filters.get l).accepted, candidate := none, timer := none } })) ∧
  (∀ (s : State) (t : Time) (l : LineId) (level : Level) (d : Time) (accepted : PerLine InputFilter),
    (s.filters.get l).timer = some d →
    accepted = s.filters.set l { s.filters.get l with accepted := level, candidate := none, timer := none } →
    (reached t d = false → exec (.filterTimerExpiry t l) s = .next { s with now := t }) ∧
    (reached t d = true → (s.filters.get l).candidate = some level →
      (level = .inactive ∨ l = .hold ∧ s.modes.mode ≠ .driving ∨ l = .mark ∧ s.par.enables.mark = false →
        exec (.filterTimerExpiry t l) s = .next { s with now := t, filters := accepted }) ∧
      (l = .hold → level = .active → s.modes.mode = .driving →
        ∃ u, exec (.filterTimerExpiry t l) s = .next u ∧ u.modes = { s.modes with mode := .fading, cause := .none } ∧
          u.filters = accepted ∧
          u.records = s.records ∧ u.table = s.table ∧ u.axles = s.axles ∧ u.grip = s.grip ∧ u.issuer = s.issuer ∧
          u.intake = s.intake ∧ u.exception = s.exception ∧ u.report.placement = s.report.placement + 1 ∧
          (s.engine.flight = none → ∃ sn, u.engine.flight = some sn ∧ sn.mode = .fading ∧ sn.hold = .active) ∧
          (∀ sn, s.engine.flight = some sn → u.engine = { s.engine with pendingPass := true })) ∧
      (∀ r, l = .mark → level = .active → s.par.enables.mark = true →
        (s.report.request = none ∧ r = ⟨.mark, t, 0⟩ ∨
          ∃ r₀, s.report.request = some r₀ ∧ r = { r₀ with merged := min (r₀.merged + 1) 255 }) →
        ((s.modes.mode.runsPasses = true ∨ s.engine.flight ≠ none) →
          exec (.filterTimerExpiry t l) s = .next { s with now := t, filters := accepted, report.request := some r }) ∧
        (s.modes.mode.runsPasses = false → s.engine.flight = none →
          ∃ u, exec (.filterTimerExpiry t l) s = .next u ∧
            s.report.Filled u.report s.par.captureMode
              { source := r.source, time := r.time, merged := r.merged, record := s.engine.result, mode := s.modes.mode,
                axles := ⟨s.axles.front.state, s.axles.rear.state⟩,
                streams := ⟨s.streams.demand.state, s.streams.frontStatus.state, s.streams.rearStatus.state,
                  s.streams.power.state, s.streams.reference.state, s.streams.stability.state, s.streams.tow.state⟩ } ∧
            u.report.counters = { s.report.counters with missedCaptures := u.report.counters.missedCaptures } ∧
            u.modes = s.modes ∧ u.filters = accepted ∧ u.engine = s.engine ∧ u.records = s.records ∧ u.table = s.table ∧
            u.axles = s.axles ∧ u.intake = s.intake ∧ u.exception = s.exception))))

/-- The supply sense runs the low timer while it is below 8.5 V and the judgement is OK, and the restore timer while it is above
9.5 V and the judgement is LOW; each starts when its condition begins and stops when it ends (R138; the three bands of the sense
are log entry 16). That a command which repeats the level below 8.5 V starts a low timer that is not running is the model's choice
(log entry 15). -/
def Obligations.SupplySenseRunsTheTimers : Prop :=
  ∀ (s : State) (t : Time) (level : SupplyLevel),
    (s.supply.judgement = .ok → s.supply.restoreTimer = none →
      exec (.supplySenseChange t level) s =
        .next { s with now := t, supply.sense := level,
                       supply.lowTimer := if level = .below then some (s.supply.lowTimer.getD (later t 2)) else none }) ∧
    (s.supply.judgement = .low → s.supply.lowTimer = none →
      exec (.supplySenseChange t level) s =
        .next { s with now := t, supply.sense := level,
                       supply.restoreTimer :=
                         if level = .above then some (s.supply.restoreTimer.getD (later t 100)) else none })

/-- The low event sets the judgement LOW and the supply-low flag (R138). In DOZING the part enters SUPPLY HALTED with its link
going quiet; in DRIVING and FADING it enters SUPPLY DOWN, an IDLE engine's SUPPLY cells standing at the previous commands and a
pass starting; in SUPPLY DOWN a pending restore is cleared; in START, SUPPLY HALTED and SAFE the mode stays (R61, R140). Entry
into SUPPLY DOWN is a capture trigger, and entry into SUPPLY HALTED fills a request that waits with no pass in flight (R172). -/
def Obligations.LowEventHaltsOrRampsThePart : Prop :=
  ∀ (s : State) (t : Time) (d : Time),
    s.supply.judgement = .ok → s.supply.lowTimer = some d → reached t d = true →
    ∃ u, exec (.lowEvent t) s = .next u ∧ u.supply.judgement = .low ∧ u.supply.flag = true ∧ u.supply.reportedMark = none ∧
      u.supply.lowTimer = none ∧
      u.supply.restoreTimer = (if s.supply.sense = .above then some (later t 100) else none) ∧
      u.records = s.records ∧ u.intake = s.intake ∧ u.filters = s.filters ∧ u.issuer = s.issuer ∧ u.grip = s.grip ∧
      u.exception = s.exception ∧ (∀ i, (u.streams.get i).unflagged = (s.streams.get i).unflagged) ∧
      u.engine.previous = s.engine.previous ∧
      (s.modes.mode = .dozing → u.modes.mode = .supplyHalted ∧ u.engine.timer = none ∧
        (s.link.state = .active → s.link.quiet = false → u.link.quiet = true ∧ u.link.state = .active ∧
          u.link.mailboxes.status.isSome = true) ∧ s.WaitingFilled u) ∧
      ((s.modes.mode = .driving ∨ s.modes.mode = .fading) → u.modes.mode = .supplyDown ∧ u.axles = s.axles ∧
        s.TriggerTaken u .supplyDown s.par.enables.supplyDown s.streamStates ∧
        (s.engine.flight = none →
          (∀ a, u.table.supply.get a = some { ceiling := (s.engine.previous.get a).natAbs,
                                              floor := -(s.engine.previous.get a).natAbs }) ∧
          ∃ sn, u.engine.flight = some sn ∧ sn.mode = .supplyDown ∧ sn.table = u.table) ∧
        (∀ sn, s.engine.flight = some sn → u.table.supply = s.table.supply ∧
          u.engine = { s.engine with pendingPass := true })) ∧
      (s.modes.mode = .supplyDown →
        u.modes = { s.modes with restorePending := false } ∧ u.engine = s.engine ∧ s.RequestKept u) ∧
      ((s.modes.mode = .start ∨ s.modes.mode = .supplyHalted ∨ s.modes.mode = .safe) →
        u.modes = s.modes ∧ u.engine = s.engine ∧ u.axles = s.axles ∧ u.table = s.table ∧ s.RequestKept u)

/-- The restore event sets the judgement OK and leaves the supply-low flag set (R138). In SUPPLY DOWN it is kept for the end of
the ramp (R141); in SUPPLY HALTED it makes a warm restart (R142, R145), which stops a frame in transmission (R148), what remains
of it being on the bus (the model's choice, log entry 32), and which first fills a capture request that waits (R172); that the
slot then takes the mode, the axle states and the stream states before the restart is the model's reading (log entry 22). In the
other modes the mode stays. -/
def Obligations.RestoreEventWarmRestartsAHaltedPart : Prop :=
  ∀ (s : State) (t : Time) (d : Time),
    s.supply.judgement = .low → s.supply.restoreTimer = some d → reached t d = true →
    ∃ u, exec (.restoreEvent t) s = .next u ∧ u.supply.judgement = .ok ∧ u.supply.flag = s.supply.flag ∧
      u.supply.restoreTimer = none ∧ u.supply.lowTimer = (if s.supply.sense = .below then some (later t 2) else none) ∧
      u.exception = s.exception ∧ u.recognition = s.recognition ∧ u.issuer.sequence = s.issuer.sequence ∧
      u.engine.passNumber = s.engine.passNumber ∧ u.engine.result = s.engine.result ∧ u.link.conflicts = s.link.conflicts ∧
      (s.modes.mode = .supplyDown →
        u = { s with now := t, modes.restorePending := true, supply.judgement := .ok, supply.restoreTimer := none,
                     supply.lowTimer := u.supply.lowTimer }) ∧
      (s.modes.mode = .supplyHalted → s.WarmRestarted u ∧ (s.report.request = none → s.RequestKept u) ∧
        ∀ r, s.report.request = some r →
          s.report.Filled u.report s.par.captureMode
            { source := r.source, time := r.time, merged := r.merged, record := s.engine.result, mode := .supplyHalted,
              axles := ⟨s.axles.front.state, s.axles.rear.state⟩, streams := s.streamStates }) ∧
      (s.modes.mode ≠ .supplyDown → s.modes.mode ≠ .supplyHalted →
        u = { s with now := t, supply.judgement := .ok, supply.restoreTimer := none, supply.lowTimer := u.supply.lowTimer })

/-- The status timer's expiry places a STATUS with the next placement number, carrying the values of that moment and every raised
change flag, and sets the next expiry one period after this one: the status period of the block, or 1 000 ms in SAFE with cause
PARAMETER (R163, R167, R168). That a STATUS which the link controller refuses still carries the flags and sets the reported mark
is the model's reading (log entry 19). -/
def Obligations.StatusTimerExpiryPlacesStatus : Prop :=
  ∀ (s : State) (t : Time) (d : Time) (period : Nat) (n : BitVec 32) (fields : Reported),
    s.report.statusTimer = some d → reached t d = true → s.report.placement + 1 = n →
    (s.modes.mode = .safe ∧ s.modes.cause = .parameter ∧ period = 1000 ∨
      ¬ (s.modes.mode = .safe ∧ s.modes.cause = .parameter) ∧ ∃ p, s.params = some p ∧ period = p.statusPeriod) →
    fields = { mode := s.modes.mode, cause := s.modes.cause, link := s.link.state,
               axles := ⟨s.axles.front.state, s.axles.rear.state⟩, supplyLow := s.supply.flag,
               exceptionHeld := s.exception.isSome, slotOne := s.report.slotOne.isSome,
               slotTwo := s.report.slotTwo.isSome,
               streams := ⟨s.streams.demand.state, s.streams.frontStatus.state, s.streams.rearStatus.state,
                 s.streams.power.state, s.streams.reference.state, s.streams.stability.state, s.streams.tow.state⟩ } →
    ∃ u flags, exec (.statusTimerExpiry t) s = .next u ∧
      u.sameButReports { s with now := t, report.statusTimer := some (later d period) } ∧
      u.report.placement = n ∧ u.report.alerts = s.report.alerts ∧ u.link.mailboxes.alert = s.link.mailboxes.alert ∧
      (∀ i, (u.streams.get i).flag = if (s.streams.get i).flag = .clear then .clear else .carried n) ∧
      (∀ i, flags.get i = ((s.streams.get i).flag != .clear)) ∧
      (s.takesFrames → u.link.mailboxes.status = some
        { kind := .status, sequence := Config.freeSequence s.draws,
          content := .status n fields s.port.attempts flags }) ∧
      (¬ s.takesFrames → u.link.mailboxes.status = s.link.mailboxes.status) ∧
      u.supply.reportedMark =
        (if s.supply.flag = true ∧ s.supply.judgement = .ok ∧ s.supply.reportedMark = none then some n
          else s.supply.reportedMark)

/-! ## Queries and alerts -/

/-- An idle query service serves a read at once: its first REPLY frame is placed with the refused count, which becomes 0, and the
service is BUSY with the whole reply; a busy one refuses it and counts it (R174). The words of the bodies of the counters, the
stream counts, the exception record and a capture are those of section 11.4, the field-index word of a DRIVELINE event being a
free value (log entry 7); an argument that names no slot or no stream is answered UNKNOWN. A release of a capture slot makes it
FREE, and a release of the exception record makes it EMPTY, answered RELEASED; a busy service refuses the release and nothing is
released (R66, R173). In LISTEN and under the quiet mark the reply of an idle service is refused and lost: the service is IDLE
with its refused count, and a release is carried out all the same (R174). The command stands for the query that a decode hands on
(log entry 4). -/
def Obligations.QueriesAreServedOrRefused : Prop :=
  ∀ (s : State) (t : Time) (c : Instr), s.recognition ≠ [] →
    (∀ (code : ReplyCode) (body : List Word16) (more : List (List Word16)),
      ((∃ k, c = .readCounters t ∧ s.report.counters = k ∧ code = .data ∧ body :: more =
          [[.ofNat 16 k.demandClamps, .ofNat 16 k.intakeOverflows, .ofNat 16 k.badChecks, .ofNat 16 k.echoFaults],
           [.ofNat 16 k.superseded, .ofNat 16 k.stationConflicts, .ofNat 16 k.missedCaptures, .ofNat 16 k.rejectedFrames]]) ∨
        (∃ v i r, c = .readStreamCounts t v ∧ s.streams.get i = r ∧ code = .data ∧
          (v, i) ∈ ([(1, .demand), (2, .frontStatus), (3, .rearStatus), (4, .power), (5, .reference), (6, .stability),
            (7, .tow)] : List (Word16 × StreamId)) ∧
          body :: more = [[.ofNat 16 r.repeats, .ofNat 16 r.malformed, r.lastArrival.extractLsb' 16 16,
            r.lastArrival.extractLsb' 0 16]]) ∨
        (∃ a w n pre limit further, c = .readException t ∧
          s.exception = some { event := .driveline a w n pre limit, further := further } ∧ code = .data ∧ body :: more =
            [[0#1 ++ 0#3 ++ (if a = .front then 1#4 else 2#4) ++ BitVec.ofNat 8 further, w.extractLsb' 16 16,
                w.extractLsb' 0 16, Config.freeFieldIndex s.draws],
             [n.extractLsb' 16 16, n.extractLsb' 0 16, .ofInt 16 pre, .ofInt 16 limit]]) ∨
        (∃ role w index raw further number, c = .readException t ∧
          s.exception = some { event := .reject role w index raw, further := further } ∧ code = .data ∧
          (role, number) ∈ ([(.stream .demand, 1), (.stream .frontStatus, 2), (.stream .rearStatus, 3), (.stream .power, 4),
            (.stream .reference, 5), (.stream .stability, 6), (.stream .tow, 7), (.query, 8), (.alertSeen, 9)] :
              List (Role × BitVec 4)) ∧
          body :: more =
            [[1#1 ++ 0#3 ++ number ++ BitVec.ofNat 8 further, w.extractLsb' 16 16, w.extractLsb' 0 16, .ofNat 16 index],
             [raw, 0, 0, 0]]) ∨
        (c = .readException t ∧ s.exception = none ∧ code = .empty ∧ body = [] ∧ more = []) ∨
        (∃ v k r, (v = 1 ∧ s.report.slotOne = some k ∨ v = 2 ∧ s.report.slotTwo = some k) ∧ c = .readCapture t v ∧
          k.record = r ∧ code = .data ∧ body :: more =
            [[k.mode.code ++ r.gripState.front.code ++ r.gripState.rear.code ++ BitVec.ofNat 8 k.merged,
                k.time.extractLsb' 16 16, k.time.extractLsb' 0 16, r.passNumber.extractLsb' 16 16],
             [r.passNumber.extractLsb' 0 16, k.axles.front.code ++ k.axles.rear.code ++ BitVec.ofInt 10 r.share,
                streamStatesWord k.streams, .ofInt 16 r.demand],
             [.ofInt 16 r.windows.front.floor, .ofInt 16 r.windows.front.ceiling, .ofInt 16 r.windows.rear.floor,
                .ofInt 16 r.windows.rear.ceiling],
             [.ofInt 16 r.scaled.front, .ofInt 16 r.scaled.rear, .ofInt 16 r.final.front, .ofInt 16 r.final.rear],
             [.ofInt 16 r.gripCeiling.front, .ofInt 16 r.gripCeiling.rear, k.source.code ++ BitVec.ofInt 13 r.factor,
                .ofInt 16 r.shortfall],
             [0#8 ++ r.governor.front.code ++ r.governor.rear.code, 0, 0, 0]]) ∨
        (c = .readCapture t 1 ∧ s.report.slotOne = none ∧ code = .empty ∧ body = [] ∧ more = []) ∨
        (c = .readCapture t 2 ∧ s.report.slotTwo = none ∧ code = .empty ∧ body = [] ∧ more = []) ∨
        (∃ v, (c = .readCapture t v ∨ c = .releaseCapture t v) ∧ v ≠ 1 ∧ v ≠ 2 ∧ code = .unknown ∧ body = [] ∧ more = []) ∨
        (∃ v, c = .readStreamCounts t v ∧ (v.toNat = 0 ∨ 7 < v.toNat) ∧ code = .unknown ∧ body = [] ∧ more = [])) →
      s.report.query.busy = none →
      ((s.link.state = .listen ∨ s.link.quiet = true) → exec c s = .next { s with now := t, draws := s.draws + 1 }) ∧
      (s.takesFrames → exec c s =
        .next { s with
          now := t, draws := s.draws + 1,
          link.mailboxes.reply := some
            { kind := .reply, sequence := Config.freeSequence s.draws,
              content := .reply code 1 (more.length + 1) s.report.query.refused body },
          report.query := { busy := some { code := code, total := more.length + 1, bodies := body :: more },
                            refused := 0 } })) ∧
    (∀ released : State,
      (c = .releaseCapture t 1 ∧ released = { s with now := t, report.slotOne := none } ∨
        c = .releaseCapture t 2 ∧ released = { s with now := t, report.slotTwo := none } ∨
        c = .releaseException t ∧ released = { s with now := t, exception := none }) →
      s.report.query.busy = none →
      ∃ u, exec c s = .next u ∧
        ((s.link.state = .listen ∨ s.link.quiet = true) → u.sameButReports released) ∧
        (s.takesFrames → u.sameButReports { released with
          link.mailboxes.reply := some
            { kind := .reply, sequence := Config.freeSequence s.draws,
              content := .reply .released 1 1 s.report.query.refused [] },
          report.query := { busy := some { code := .released, total := 1, bodies := [[]] }, refused := 0 } })) ∧
    (∀ r, s.report.query.busy = some r →
      (c = .readCounters t ∨ c = .readException t ∨ c = .releaseException t ∨
        ∃ v, c = .readCapture t v ∨ c = .releaseCapture t v ∨ c = .readStreamCounts t v) →
      exec c s = .next { s with now := t, report.query.refused := min (s.report.query.refused + 1) 65535 })

/-- An ALERT SEEN that names a RAISED alert moves it to NOTED and no other alert; one that names a CLEAR or NOTED alert, or none,
is ignored. A leading alert that is noted gives the lead to the next, or to none, and an ALERT frame is placed with the new
leading alert's number, 0 for none, its rank, and the numbers of RAISED and of NOTED alerts; an alert that does not lead is noted
with no ALERT (R170, R171). The command stands for the frame that a decode hands on (log entry 4); the rank of no alert is a free
value (log entry 6). -/
def Obligations.AlertSeenNotesARaisedAlert : Prop :=
  ∀ (s : State) (t : Time) (v : Word16) (p : Params), s.params = some p → s.AlertsFollow →
    (∀ i, v.toNat = i.number → s.report.alerts.get i = .raised →
      ∃ u, exec (.alertSeen t v) s = .next u ∧ u.sameButReports { s with now := t } ∧ u.report.alerts.get i = .noted ∧
        (∀ j, j ≠ i → u.report.alerts.get j = s.report.alerts.get j) ∧
        u.report.alerts.ledBy p u.report.leading ∧ u.report.leading ≠ some i ∧
        u.report.placement = s.report.placement ∧
        (s.report.leading ≠ some i → u.report.leading = s.report.leading ∧
          u.link.mailboxes.alert = s.link.mailboxes.alert) ∧
        (s.report.leading = some i → s.takesFrames →
          u.link.mailboxes.alert = some
            { kind := .alert, sequence := Config.freeSequence s.draws,
              content := .alert ((u.report.leading.map (·.number)).getD 0)
                (match u.report.leading with
                  | none => Config.freeRank s.draws
                  | some j => BitVec.ofNat 8 (p.ranks.get j))
                (alertIds.filter fun j => u.report.alerts.get j == .raised).length
                (alertIds.filter fun j => u.report.alerts.get j == .noted).length })) ∧
    ((∀ i, v.toNat = i.number → s.report.alerts.get i ≠ .raised) →
      exec (.alertSeen t v) s = .next { s with now := t })

/-! ## The split pass -/

/-- Stages S1 to S3. The elapsed time `e` is 1 ms with the first-pass mark, else the unsigned 32-bit time since the last start
clamped to 1 … 20 (R11). The demand is the record's torque in a DRIVING pass with HOLD inactive, a demand stream FRESH or LATE and
a direction FORWARD or REVERSE, else 0; the ready flag is not read (R12). The axle speed is trunc(rpm × K / 65 536) clamped to ±25
000 (R67). The reference speed is the valid record's while its stream is FRESH or LATE (R84), else that of the measured axle, of
the slower of two, FRONT where they are equally fast, or 0 (R85). `g` is the ceiling prepared to the driveline limit of the pass
(R90), `slip` the slip (R87), `signed` the slip in the direction of the torque (R88): above the target slip (R89) the ceiling is
cut and the state is SLIPPING (R91); within it a SLIPPING axle keeps its ceiling and is RECOVERING (R92), and any other recovers
by the recovery rate, GRIPPING again at the limit (R93). An axle that is not measured takes the reset form at the limit (R86).
Limiting since follows (R95). -/
def Obligations.GripUpdateFollowsTheSignedSlip : Prop :=
  ∀ (p : Params) (sn : Snapshot) (previous : PerAxle Int) (regs : PerAxle GripRegulator) (n : BitVec 32) (a : Axle)
    (out : PassOut) (r : GripRegulator) (measured : Axle → Prop) (tow : Prop) (lowGrip : Prop) (v : PerAxle Int)
    (e demand vref limit target g slip signed : Int),
    computePass p sn previous regs n = out → out.grip.get a = r →
    (∀ b, measured b ↔ sn.statusState.get b = .fresh ∨ sn.statusState.get b = .late) →
    (tow ↔ sn.towState = .lost ∨ (sn.towState = .fresh ∨ sn.towState = .late) ∧ sn.towPresent = true) →
    (lowGrip ↔ (sn.demandState = .fresh ∨ sn.demandState = .late) ∧ sn.demand.profile = .lowGrip) →
    (sn.firstPass = true ∧ e = 1 ∨ sn.firstPass = false ∧ e = max 1 (min 20 ((sn.time - sn.lastStartBefore).toNat : Int))) →
    (∀ b, v.get b = max (-25000) (min 25000 (((sn.status.get b).speed * p.speedFactor.get b).tdiv 65536))) →
    (((sn.referenceState = .fresh ∨ sn.referenceState = .late) ∧ sn.reference.valid = true ∧ vref = sn.reference.speed) ∨
      (¬ ((sn.referenceState = .fresh ∨ sn.referenceState = .late) ∧ sn.reference.valid = true) ∧
        (measured .front ∧ measured .rear ∧ vref = (if v.rear.natAbs < v.front.natAbs then v.rear else v.front) ∨
          measured .front ∧ ¬ measured .rear ∧ vref = v.front ∨ ¬ measured .front ∧ measured .rear ∧ vref = v.rear ∨
          ¬ measured .front ∧ ¬ measured .rear ∧ vref = 0))) →
    (sn.mode = .driving ∧ sn.hold = .inactive ∧ (sn.demandState = .fresh ∨ sn.demandState = .late) ∧
        sn.demand.direction ≠ .neutral ∧ demand = sn.demand.torque ∨
      ¬ (sn.mode = .driving ∧ sn.hold = .inactive ∧ (sn.demandState = .fresh ∨ sn.demandState = .late) ∧
        sn.demand.direction ≠ .neutral) ∧ demand = 0) →
    (tow ∧ limit = p.drivelineTow.get a ∨ ¬ tow ∧ limit = p.drivelineSolo.get a) →
    (tow ∧ lowGrip ∧ target = p.slipTowLowGrip ∨ tow ∧ ¬ lowGrip ∧ target = p.slipTowNormal ∨
      ¬ tow ∧ lowGrip ∧ target = p.slipSoloLowGrip ∨ ¬ tow ∧ ¬ lowGrip ∧ target = p.slipSoloNormal) →
    g = ((sn.table.grip.get a).map fun b => min b.ceiling limit).getD limit →
    slip = max (-1000) (min 1000 (((v.get a - vref) * 1000).tdiv (max (vref.natAbs : Int) 300))) →
    signed = (if 0 < previous.get a ∨ previous.get a = 0 ∧ 0 ≤ demand then slip else -slip) →
    elapsedTime sn = e ∧ out.record.demand = demand ∧ axleSpeed p sn a = v.get a ∧ referenceSpeed p sn = vref ∧
    (passTow sn = true ↔ tow) ∧
    r.ceiling = some (out.record.gripCeiling.get a) ∧ r.state = out.record.gripState.get a ∧
    (¬ measured a → r = { ceiling := some limit, state := .gripping, limitingSince := none }) ∧
    (measured a →
      (target < signed → r.state = .slipping ∧
        r.ceiling = some (max p.gripFloor (min g (previous.get a).natAbs - p.cutGain * (signed - target)))) ∧
      (signed ≤ target → (regs.get a).state = .slipping → r.state = .recovering ∧ r.ceiling = some g) ∧
      (signed ≤ target → (regs.get a).state ≠ .slipping →
        r.ceiling = some (min limit (g + p.recoveryRate * e)) ∧
        r.state = if r.ceiling = some limit then .gripping else (regs.get a).state)) ∧
    (r.state = .gripping → r.limitingSince = none) ∧
    (r.state ≠ .gripping →
      r.limitingSince = if (regs.get a).state = .gripping then some sn.time else (regs.get a).limitingSince)

/-- Every window of a pass contains zero and lies within the axle's driveline limit for the tow state of its snapshot (R62), and
each grip ceiling of the pass lies between the grip floor and that limit (R94). The window of an axle is the one its present cells
form: it lies within the bounds of each, and each of its edges is the bound of one of them (R14). -/
def Obligations.WindowsContainZeroWithinTheDrivelineLimit : Prop :=
  ∀ (p : Params) (sn : Snapshot) (previous : PerAxle Int) (regs : PerAxle GripRegulator) (n : BitVec 32) (a : Axle),
    (∀ (r : PassRecord) (bounds : List RowBound) (w : Window), (computePass p sn previous regs n).record = r →
      sn.SupplyPresent → bounds = sn.presentBounds p (r.gripCeiling.get a) a → r.windows.get a = w →
      (∀ b ∈ bounds, b.bounds.floor ≤ w.floor ∧ w.ceiling ≤ b.bounds.ceiling) ∧
        (∃ b ∈ bounds, b.bounds.ceiling = w.ceiling) ∧ ∃ b ∈ bounds, b.bounds.floor = w.floor) ∧
    (p.PassSound → sn.Sound p →
    ((computePass p sn previous regs n).record.windows.get a).containsZero ∧
    -(drivelineLimit p (passTow sn) a) ≤ ((computePass p sn previous regs n).record.windows.get a).floor ∧
    ((computePass p sn previous regs n).record.windows.get a).ceiling ≤ drivelineLimit p (passTow sn) a ∧
    p.gripFloor ≤ (computePass p sn previous regs n).record.gripCeiling.get a ∧
    (computePass p sn previous regs n).record.gripCeiling.get a ≤ drivelineLimit p (passTow sn) a)

/-- The share is the schedule's entry for the speed band, from the tow column with a trailer present, less the load shift
truncated toward zero, clamped to the share limits; the band is the number of band edges at or below the magnitude of the
reference speed (R15, R16). The initial torques sum to the demand; the front one is the demand times the share over 1 000 rounded
to the nearest integer, a half-way value away from zero, and each has the sign of the demand or is zero (R17). -/
def Obligations.InitialTorquesSplitTheDemandByTheShare : Prop :=
  (∀ (p : Params) (sn : Snapshot) (previous : PerAxle Int) (regs : PerAxle GripRegulator) (n : BitVec 32) (r : PassRecord)
    (lower upper : List Int) (share : Int),
    (computePass p sn previous regs n).record = r →
    p.bandEdges = lower ++ upper → (∀ x ∈ lower, x ≤ (referenceSpeed p sn).natAbs) →
    (∀ x ∈ upper, ((referenceSpeed p sn).natAbs : Int) < x) →
    share = ((if towState sn.towState sn.towPresent then p.shareTow else p.shareSolo).getD lower.length 0) -
      (r.demand * p.loadShift).tdiv 65536 →
    r.share = if share < p.shareMin then p.shareMin else if p.shareMax < share then p.shareMax else share) ∧
  ∀ demand share : Int, 0 ≤ share → share ≤ 1000 →
    (initialTorque demand share).front + (initialTorque demand share).rear = demand ∧
    2 * (1000 * (initialTorque demand share).front - demand * share).natAbs ≤ 1000 ∧
    (2 * (1000 * (initialTorque demand share).front - demand * share).natAbs = 1000 →
      (demand * share).natAbs < (1000 * (initialTorque demand share).front).natAbs) ∧
    (0 ≤ demand → 0 ≤ (initialTorque demand share).front ∧ 0 ≤ (initialTorque demand share).rear) ∧
    (demand ≤ 0 → (initialTorque demand share).front ≤ 0 ∧ (initialTorque demand share).rear ≤ 0)

/-- Stage S7: each initial torque is clipped to its window; what then remains of the demand goes to the rear axle first and what
the rear axle cannot take to the front one (R18, R19). Demand remains in the end only while both axles stand at the edges that
face it. The cuts are the clamps that changed their value, in the order front clip, rear clip, rear transfer, front transfer, each
with the edge that cut it and that edge's row (R20). -/
def Obligations.ClipAndTransferPlaceTheDemandRearFirst : Prop :=
  ∀ (demand f₁ r₁ : Int) (t₀ : PerAxle Int) (w : PerAxle Window) (e : PerAxle EdgeRows) (s7 : Transfer),
    (∀ a, (w.get a).floor ≤ (w.get a).ceiling) → clipAndTransfer demand t₀ w e = s7 →
    f₁ = max w.front.floor (min w.front.ceiling t₀.front) → r₁ = max w.rear.floor (min w.rear.ceiling t₀.rear) →
    (f₁ + r₁ = demand → s7.torque = ⟨f₁, r₁⟩) ∧
    (f₁ + r₁ ≠ demand →
      s7.torque.rear = max w.rear.floor (min w.rear.ceiling (demand - f₁)) ∧
      s7.torque.front = max w.front.floor (min w.front.ceiling (demand - s7.torque.rear))) ∧
    (∀ a, (w.get a).holds (s7.torque.get a)) ∧
    (s7.torque.front + s7.torque.rear < demand → ∀ a, s7.torque.get a = (w.get a).ceiling) ∧
    (demand < s7.torque.front + s7.torque.rear → ∀ a, s7.torque.get a = (w.get a).floor) ∧
    (s7.cuts.map fun c => (c.axle, c.preClip)) =
      (([(Axle.front, t₀.front), (Axle.rear, t₀.rear)] ++
        (if f₁ + r₁ = demand then [] else [(Axle.rear, demand - f₁), (Axle.front, demand - s7.torque.rear)])).filter
          fun (x : Axle × Int) => decide (x.2 < (w.get x.1).floor ∨ (w.get x.1).ceiling < x.2)) ∧
    (∀ c ∈ s7.cuts,
      (c.limit = (w.get c.axle).ceiling ∧ c.limit < c.preClip ∧ c.row = (e.get c.axle).ceiling) ∨
        (c.limit = (w.get c.axle).floor ∧ c.preClip < c.limit ∧ c.row = (e.get c.axle).floor))

/-- The power budget. The mechanical power of each axle is trunc(T_a2 × rpm × 26 808 / (ratio code × 1 000)), `t₂` being the
torques of stage S7 (R71); the electrical power adds trunc(|P| × ℓ / 1 000), so that losses count against the battery (R72). The
limits are max(0, discharge × 100 − reserve × 100) and charge × 100 (R74). The factor of the pass is trunc(L_d × 4 096 / E) where
the total E is above L_d, trunc(L_r × 4 096 / |E|) where it is below −L_r, and 4 096 otherwise (R76), and each scaled torque is
trunc(T_a2 × f / 4 096), between 0 and T_a2 (R77). -/
def Obligations.ScaledTorquesLieBetweenZeroAndTheirTargets : Prop :=
  ∀ (p : Params) (sn : Snapshot) (previous : PerAxle Int) (regs : PerAxle GripRegulator) (n : BitVec 32) (r : PassRecord)
    (rows : PerAxle EdgeRows) (t₂ power electrical : PerAxle Int) (total drive regen : Int),
    (computePass p sn previous regs n).record = r →
    t₂ = (clipAndTransfer r.demand (initialTorque r.demand r.share) r.windows rows).torque →
    (∀ a, power.get a = (t₂.get a * (sn.status.get a).speed * 26808).tdiv (p.ratio.get a * 1000)) →
    (∀ a, electrical.get a = power.get a + ((power.get a).natAbs * p.lossAllowance).tdiv 1000) →
    total = electrical.front + electrical.rear → drive = max 0 (sn.power.discharge * 100 - p.reserve * 100) →
    regen = sn.power.charge * 100 →
    (drive < total → r.factor = (drive * 4096).tdiv total) ∧
    (total ≤ drive → total < -regen → r.factor = (regen * 4096).tdiv total.natAbs) ∧
    (total ≤ drive → -regen ≤ total → r.factor = 4096) ∧
    (∀ a, r.scaled.get a = (t₂.get a * r.factor).tdiv 4096) ∧
    (r.factor = 4096 → r.scaled = t₂) ∧ (r.factor = 0 → r.scaled = ⟨0, 0⟩) ∧
    (0 ≤ sn.power.charge → 0 ≤ r.factor ∧ r.factor ≤ 4096 ∧ (r.factor = 4096 ↔ -regen ≤ total ∧ total ≤ drive) ∧
      ∀ a, (r.scaled.get a).natAbs ≤ (t₂.get a).natAbs ∧ 0 ≤ r.scaled.get a * t₂.get a)

/-- Each final torque is the previous command moved toward the scaled torque by at most the allowance, the rise allowance where it
grows in its own direction and the release allowance otherwise (R98, R99), and then clamped: to the part of the way from 0 to the
scaled torque in a pass that scales, and to the axle's window in any other (R100). It lies within the window of the pass (R21). -/
def Obligations.FinalTorquesAreRampedWithinTheirWindows : Prop :=
  ∀ (p : Params) (sn : Snapshot) (previous : PerAxle Int) (regs : PerAxle GripRegulator) (n : BitVec 32) (a : Axle)
    (r : PassRecord) (target start allowance ramped : Int),
    p.PassSound → sn.Sound p → 0 ≤ sn.power.charge → (computePass p sn previous regs n).record = r →
    target = r.scaled.get a → start = previous.get a →
    allowance = (if start.natAbs < target.natAbs ∧ (start = 0 ∨ 0 < start ∧ 0 < target ∨ start < 0 ∧ target < 0)
      then p.riseRate * elapsedTime sn else p.releaseRate * elapsedTime sn) →
    ramped = start + max (-allowance) (min allowance (target - start)) →
    (r.factor < 4096 → r.final.get a = max (min 0 target) (min (max 0 target) ramped)) ∧
    (r.factor = 4096 → r.final.get a = max (r.windows.get a).floor (min (r.windows.get a).ceiling ramped)) ∧
    (r.windows.get a).holds (r.final.get a) ∧ r.factor ≤ 4096

/-- In a pass of SUPPLY DOWN no final torque is greater in magnitude than the axle's previous command, none changes its sign, and
none is beyond the lowered supply ceiling (R102, R141). -/
def Obligations.SupplyDownNeverRaisesATorque : Prop :=
  ∀ (p : Params) (sn : Snapshot) (previous : PerAxle Int) (regs : PerAxle GripRegulator) (n : BitVec 32) (a : Axle) (b : Bounds),
    p.PassSound → sn.Sound p → sn.mode = .supplyDown → sn.table.supply.get a = some b → 0 ≤ sn.power.charge →
    ((computePass p sn previous regs n).record.final.get a).natAbs ≤ (previous.get a).natAbs ∧
    0 ≤ (computePass p sn previous regs n).record.final.get a * previous.get a ∧
    (((computePass p sn previous regs n).record.final.get a).natAbs : Int) ≤
      max 0 (b.ceiling - p.supplyFallRate * elapsedTime sn)

/-- The residual of a pass is the demand that neither axle delivers, and the regen shortfall is the braking not delivered, 0
unless the demand is negative (R22). The governor of an axle is the first of: the row of the window edge that held a pass of
SUPPLY DOWN off its ramp, RAMP off the scaled torque, POWER where scaling changed the torque (R77), the row of the axle's last
cut, NONE. The row of an edge is the lowest-numbered row whose bound equals it, among the bounds of the present cells (R14, R23,
R63). -/
def Obligations.ResidualShortfallAndGovernorsFollowTheFinals : Prop :=
  ∀ (p : Params) (sn : Snapshot) (previous : PerAxle Int) (regs : PerAxle GripRegulator) (n : BitVec 32) (out : PassOut)
    (r : PassRecord) (a : Axle) (bounds : List RowBound) (allowance ramped t₂ : Int) (w : Window) (edges : EdgeRows)
    (heldOff : Bool),
    computePass p sn previous regs n = out → out.record = r →
    bounds = axleBounds p sn (elapsedTime sn) (r.gripCeiling.get a) a → w = r.windows.get a →
    edges = edgeRows w bounds →
    allowance = (if (previous.get a).natAbs < (r.scaled.get a).natAbs ∧
        (previous.get a = 0 ∨ 0 < previous.get a ∧ 0 < r.scaled.get a ∨ previous.get a < 0 ∧ r.scaled.get a < 0)
      then p.riseRate * elapsedTime sn else p.releaseRate * elapsedTime sn) →
    ramped = previous.get a + clampTo (-allowance) allowance (r.scaled.get a - previous.get a) →
    heldOff = decide (sn.mode = .supplyDown ∧ r.final.get a ≠ ramped) →
    t₂ = (clipAndTransfer r.demand (initialTorque r.demand r.share) r.windows
      (PerAxle.of fun b => edgeRows (r.windows.get b)
        (axleBounds p sn (elapsedTime sn) (r.gripCeiling.get b) b))).torque.get a →
    (sn.SupplyPresent → ∀ b,
      axleBounds p sn (elapsedTime sn) (r.gripCeiling.get b) b = sn.presentBounds p (r.gripCeiling.get b) b) ∧
    r.scaled.get a = (t₂ * r.factor).tdiv 4096 ∧ r.residual = r.demand - r.final.front - r.final.rear ∧
    r.shortfall = (if r.demand < 0 then max 0 (r.final.front + r.final.rear - r.demand) else 0) ∧
    ((sn.mode = .fading ∨ sn.mode = .supplyDown) → r.demand = 0 ∧ r.shortfall = 0) ∧
    (heldOff = true → r.governor.get a = .row (if r.final.get a < ramped then edges.ceiling else edges.floor)) ∧
    (heldOff = false → r.final.get a ≠ r.scaled.get a → r.governor.get a = .ramp) ∧
    (heldOff = false → r.final.get a = r.scaled.get a → r.factor < 4096 → r.scaled.get a ≠ t₂ →
      r.governor.get a = .power) ∧
    (heldOff = false → r.final.get a = r.scaled.get a → ¬ (r.factor < 4096 ∧ r.scaled.get a ≠ t₂) →
      (∀ cuts c, (out.cuts.filter fun c => c.axle == a) = cuts ++ [c] → r.governor.get a = .row c.row) ∧
      ((out.cuts.filter fun c => c.axle == a) = [] → r.governor.get a = .none)) ∧
    (∃ b ∈ bounds, b.row = edges.ceiling ∧ b.bounds.ceiling = w.ceiling) ∧
    (∃ b ∈ bounds, b.row = edges.floor ∧ b.bounds.floor = w.floor) ∧
    (∀ b ∈ bounds, w.floor ≥ b.bounds.floor ∧ w.ceiling ≤ b.bounds.ceiling ∧
      (b.bounds.ceiling = w.ceiling → edges.ceiling.code.toNat ≤ b.row.code.toNat) ∧
      (b.bounds.floor = w.floor → edges.floor.code.toNat ≤ b.row.code.toNat))

/-! ## What every step keeps -/

/-- The invariants hold at reset. -/
def Obligations.ResetMeetsTheInvariants : Prop :=
  State.reset.StartSound ∧ State.reset.ModeSound ∧ State.reset.LinkSound ∧ State.reset.EngineSound ∧
    State.reset.QueuesBounded ∧ State.reset.CountsBounded ∧ (∀ a, (State.reset.axles.get a).Bounded) ∧
    State.reset.RecordsFollow ∧ State.reset.TableFollows ∧ State.reset.GripFollows ∧ State.reset.WindowsSound ∧
    State.reset.LinesFollow ∧ State.reset.AlertsFollow ∧ State.reset.FlagsReported ∧ State.reset.PassesSound

/-- Every step keeps the control of the part sound: START and the memory port (R165), the SAFE cause and the restore-pending flag
(R131), the quiet mark and LISTEN (R158, R159), the pass timer, the pending flag and the deferred resets (R3, R4, R8). -/
def Obligations.EveryStepKeepsControlSound : Prop :=
  ∀ s u : State, s.StartSound → s.ModeSound → s.LinkSound → s.EngineSound → step s = .next u →
    u.StartSound ∧ u.ModeSound ∧ u.LinkSound ∧ u.EngineSound

/-- Every step keeps the queues and the counts within their bounds and the delay lines at four entries of distinct sequences (R27,
R32, R65, R113, R148, R163, R169, R172, R175). -/
def Obligations.EveryStepKeepsTheBounds : Prop :=
  ∀ s u : State, s.QueuesBounded → s.CountsBounded → (∀ a, (s.axles.get a).Bounded) → step s = .next u →
    u.QueuesBounded ∧ u.CountsBounded ∧ ∀ a, (u.axles.get a).Bounded

/-- Every step keeps the records at their fallbacks where their streams are not believed (R36), and rows 1 to 4 of the constraint
table at what their rules name (R50, R53, R54, R59). -/
def Obligations.EveryStepKeepsRecordsAndTable : Prop :=
  (∀ x : StreamState, x.believed = true ↔ x = .fresh ∨ x = .late) ∧
  ∀ s u : State, s.StartSound → s.RecordsFollow → s.TableFollows → step s = .next u → u.RecordsFollow ∧ u.TableFollows

/-- Every step keeps what the statements about a pass rest on: parameters within their ranges, cells that contain zero, regulators
at or above the grip floor, and a snapshot in flight that the constraint table gave (R48, R51, R62, R94, R162). -/
def Obligations.EveryStepKeepsPassesSound : Prop :=
  ∀ s u : State, s.StartSound → s.RecordsFollow → s.TableFollows → s.GripFollows → s.PassesSound → step s = .next u →
    u.PassesSound

/-- Every step keeps the GRIP row at the regulators' ceilings (R60), a window running for each stream that has been heard and for
no other (R32, R33), the lines STA and STB at the levels of their sources, high before acceptance (R176), and the alerts at their
conditions and ranks with the leading alert that R171 gives: a condition that becomes true raises its alert, unless its rank is 0,
and one that becomes false clears it (R169, R170). No change flag is left SET: the STATUS of the event carries it (R39, R167,
R168), also where the link controller refuses that STATUS, which is the model's reading (log entry 19). -/
def Obligations.EveryStepKeepsGripRowWindowsLinesAndAlerts : Prop :=
  ∀ s u : State, s.StartSound → s.GripFollows → s.WindowsSound → s.LinesFollow → s.AlertsFollow → s.FlagsReported →
    step s = .next u → u.GripFollows ∧ u.WindowsSound ∧ u.LinesFollow ∧ u.AlertsFollow ∧ u.FlagsReported

/-- The mode moves by the tables of chapter 8 alone, each move by the command of its row and one move in an event, and SAFE with
its cause is left by POWER_ON_RESET alone (R131, R133 to R136, R140 to R144). -/
def Obligations.ModesMoveByTheirTablesAlone : Prop :=
  ∀ (c : Instr) (s u : State), s.StartSound → c ≠ .powerOnReset → exec c s = .next u →
    (u.modes.mode = s.modes.mode ∨ commandMovesMode c s.modes.mode u.modes.mode = true) ∧
    (s.modes.mode = .safe → s.port.reading = false → u.modes.mode = .safe ∧ u.modes.cause = s.modes.cause)

/-- In START, DOZING, SUPPLY HALTED and SAFE no command puts an AXLE COMMAND that asks for torque into a mailbox or into
transmission that was not there before (R109). -/
def Obligations.NoTorqueIsCommandedOutsideDrive : Prop :=
  ∀ (c : Instr) (s u : State) (f : OutFrame), exec c s = .next u → s.modes.mode.runsPasses = false →
    f.asksTorque = true → u.link.carries f → s.link.carries f

/-- While a pass is in flight no event but its end and a power-on reset changes its snapshot or what it computes from: the
previous commands, the regulators and the pass number stand still (R6, R83). A warm restart is not taken while a pass is in
flight. -/
def Obligations.APassInFlightIsUndisturbed : Prop :=
  ∀ (c : Instr) (s u : State) (sn : Snapshot), s.engine.flight = some sn → exec c s = .next u → c ≠ .powerOnReset →
    (∀ t, c ≠ .passEnd t) → (∀ t, c = .restoreEvent t → s.modes.mode ≠ .supplyHalted) →
    u.engine.flight = some sn ∧ u.engine.previous = s.engine.previous ∧ u.grip = s.grip ∧
      u.engine.passNumber = s.engine.passNumber ∧ u.engine.result = s.engine.result ∧
      u.engine.lastStart = s.engine.lastStart

/-- Each event that changes what STATUS reports places exactly one STATUS, and an event that changes none of it places none; the
status timer's expiry and POWER_ON_RESET aside (R167). A decode that makes a LATE stream FRESH and, its deadline being as it was,
LATE again has changed a stream state (R38, R39), and places its STATUS. An alert that an event raises is RAISED and not NOTED. An
event that changes the leading alert places an ALERT frame with the new one's number, 0 for none, its rank, and the numbers of
RAISED and of NOTED alerts; an event that leaves it places none, so that what waits in the ALERT mailbox waited there or was
returned to it (R170, R171, R154). That an event with several changes places one ALERT alone, with the lead and the numbers of its
end, is the model's reading (log entry 18). -/
def Obligations.EveryEventReportsItsChanges : Prop :=
  (∀ s : State, reported s =
    { mode := s.modes.mode, cause := s.modes.cause, link := s.link.state,
      axles := ⟨s.axles.front.state, s.axles.rear.state⟩, supplyLow := s.supply.flag, exceptionHeld := s.exception.isSome,
      slotOne := s.report.slotOne.isSome, slotTwo := s.report.slotTwo.isSome, streams := s.streamStates }) ∧
  ∀ (c : Instr) (s u : State), s.StartSound → c ≠ .powerOnReset → exec c s = .next u →
    ((∀ t, c ≠ .statusTimerExpiry t) →
      (reported u = reported s → ¬ s.returnsToLate c → u.report.placement = s.report.placement) ∧
        (reported u ≠ reported s ∨ s.FlagsReported ∧ s.returnsToLate c → u.report.placement = s.report.placement + 1)) ∧
    (∀ i, s.report.alerts.get i = .clear → u.report.alerts.get i ≠ .noted) ∧
    (u.report.leading = s.report.leading → ∀ f, u.link.mailboxes.alert = some f →
      s.link.mailboxes.alert = some f ∨ s.link.transmitting = some f) ∧
    (u.report.leading ≠ s.report.leading → u.takesFrames →
      ∃ f number rank, u.link.mailboxes.alert = some f ∧ f.kind = .alert ∧
        f.content = .alert number rank (alertIds.filter fun j => u.report.alerts.get j == .raised).length
          (alertIds.filter fun j => u.report.alerts.get j == .noted).length ∧
        (u.report.leading = none → number = 0) ∧
        ∀ i p, u.report.leading = some i → u.params = some p → number = i.number ∧ rank = BitVec.ofNat 8 (p.ranks.get i))
end

