-- ==== Sys2Proof/Laws/State.lean ====
section
/-! SUPPORT. The plain updates of the state, field by field: what each leaves as it was, and the member laws of the families.
Every lemma is true by definition. -/

namespace Sys2Proof.Machine

/-! ## Families -/

@[simp] theorem PerAxle.get_set_self {α : Type} (p : PerAxle α) (i : Axle) (v : α) : (p.set i v).get i = v := by
  cases i <;> rfl

theorem PerAxle.get_set {α : Type} (p : PerAxle α) (i j : Axle) (v : α) :
    (p.set i v).get j = if j = i then v else p.get j := by
  cases i <;> cases j <;> rfl

theorem PerAxle.ext_get {α : Type} {p q : PerAxle α} (h : ∀ i, p.get i = q.get i) : p = q := by
  cases p; cases q; simp only [PerAxle.mk.injEq]
  exact ⟨h .front, h .rear⟩

@[simp] theorem PerLine.get_set_self {α : Type} (p : PerLine α) (i : LineId) (v : α) : (p.set i v).get i = v := by
  cases i <;> rfl

theorem PerLine.get_set {α : Type} (p : PerLine α) (i j : LineId) (v : α) :
    (p.set i v).get j = if j = i then v else p.get j := by
  cases i <;> cases j <;> rfl

theorem PerLine.ext_get {α : Type} {p q : PerLine α} (h : ∀ i, p.get i = q.get i) : p = q := by
  cases p; cases q; simp only [PerLine.mk.injEq]
  exact ⟨h .hold, h .mark⟩

@[simp] theorem PerStream.get_set_self {α : Type} (p : PerStream α) (i : StreamId) (v : α) : (p.set i v).get i = v := by
  cases i <;> rfl

theorem PerStream.get_set {α : Type} (p : PerStream α) (i j : StreamId) (v : α) :
    (p.set i v).get j = if j = i then v else p.get j := by
  cases i <;> cases j <;> rfl

theorem PerStream.ext_get {α : Type} {p q : PerStream α} (h : ∀ i, p.get i = q.get i) : p = q := by
  cases p; cases q; simp only [PerStream.mk.injEq]
  exact ⟨h .demand, h .frontStatus, h .rearStatus, h .power, h .reference, h .stability, h .tow⟩

@[simp] theorem PerKind.get_set_self {α : Type} (p : PerKind α) (i : OwnKind) (v : α) : (p.set i v).get i = v := by
  cases i <;> rfl

theorem PerKind.get_set {α : Type} (p : PerKind α) (i j : OwnKind) (v : α) :
    (p.set i v).get j = if j = i then v else p.get j := by
  cases i <;> cases j <;> rfl

theorem PerKind.ext_get {α : Type} {p q : PerKind α} (h : ∀ i, p.get i = q.get i) : p = q := by
  cases p; cases q; simp only [PerKind.mk.injEq]
  exact ⟨h .frontCommand, h .rearCommand, h .splitReport, h .alert, h .status, h .reply⟩

@[simp] theorem PerStream.get_map {α β : Type} (f : α → β) (p : PerStream α) (i : StreamId) :
    (p.map f).get i = f (p.get i) := by
  cases i <;> rfl

@[simp] theorem PerAxle.get_map {α β : Type} (f : α → β) (p : PerAxle α) (a : Axle) : (p.map f).get a = f (p.get a) := by
  cases a <;> rfl

@[simp] theorem PerAxle.get_of {α : Type} (f : Axle → α) (a : Axle) : (PerAxle.of f).get a = f a := by
  cases a <;> rfl

@[simp] theorem PerAlert.get_of {α : Type} (f : AlertId → α) (i : AlertId) : (PerAlert.of f).get i = f i := by
  cases i <;> rfl

@[simp] theorem PerAlert.of_get {α : Type} (p : PerAlert α) : PerAlert.of p.get = p := rfl

@[simp] theorem PerAxle.of_get {α : Type} (p : PerAxle α) : PerAxle.of p.get = p := rfl

/-! ## Updates -/

@[simp] theorem setMailbox_pending (k : OwnKind) (f : Option OutFrame) (s : State) :
    (setMailbox k f s).pending = s.pending := rfl
@[simp] theorem setMailbox_now (k : OwnKind) (f : Option OutFrame) (s : State) : (setMailbox k f s).now = s.now := rfl
@[simp] theorem setMailbox_draws (k : OwnKind) (f : Option OutFrame) (s : State) : (setMailbox k f s).draws = s.draws := rfl
@[simp] theorem setMailbox_params (k : OwnKind) (f : Option OutFrame) (s : State) :
    (setMailbox k f s).params = s.params := rfl
@[simp] theorem setMailbox_port (k : OwnKind) (f : Option OutFrame) (s : State) : (setMailbox k f s).port = s.port := rfl
@[simp] theorem setMailbox_recognition (k : OwnKind) (f : Option OutFrame) (s : State) :
    (setMailbox k f s).recognition = s.recognition := rfl
@[simp] theorem setMailbox_intake (k : OwnKind) (f : Option OutFrame) (s : State) :
    (setMailbox k f s).intake = s.intake := rfl
@[simp] theorem setMailbox_streams (k : OwnKind) (f : Option OutFrame) (s : State) :
    (setMailbox k f s).streams = s.streams := rfl
@[simp] theorem setMailbox_records (k : OwnKind) (f : Option OutFrame) (s : State) :
    (setMailbox k f s).records = s.records := rfl
@[simp] theorem setMailbox_table (k : OwnKind) (f : Option OutFrame) (s : State) : (setMailbox k f s).table = s.table := rfl
@[simp] theorem setMailbox_engine (k : OwnKind) (f : Option OutFrame) (s : State) :
    (setMailbox k f s).engine = s.engine := rfl
@[simp] theorem setMailbox_grip (k : OwnKind) (f : Option OutFrame) (s : State) : (setMailbox k f s).grip = s.grip := rfl
@[simp] theorem setMailbox_issuer (k : OwnKind) (f : Option OutFrame) (s : State) :
    (setMailbox k f s).issuer = s.issuer := rfl
@[simp] theorem setMailbox_axles (k : OwnKind) (f : Option OutFrame) (s : State) : (setMailbox k f s).axles = s.axles := rfl
@[simp] theorem setMailbox_modes (k : OwnKind) (f : Option OutFrame) (s : State) : (setMailbox k f s).modes = s.modes := rfl
@[simp] theorem setMailbox_filters (k : OwnKind) (f : Option OutFrame) (s : State) :
    (setMailbox k f s).filters = s.filters := rfl
@[simp] theorem setMailbox_supply (k : OwnKind) (f : Option OutFrame) (s : State) :
    (setMailbox k f s).supply = s.supply := rfl
@[simp] theorem setMailbox_exception (k : OwnKind) (f : Option OutFrame) (s : State) :
    (setMailbox k f s).exception = s.exception := rfl
@[simp] theorem setMailbox_report (k : OwnKind) (f : Option OutFrame) (s : State) :
    (setMailbox k f s).report = s.report := rfl

@[simp] theorem setStream_pending (i : StreamId) (r : StreamRecord) (s : State) :
    (setStream i r s).pending = s.pending := rfl
@[simp] theorem setStream_now (i : StreamId) (r : StreamRecord) (s : State) : (setStream i r s).now = s.now := rfl
@[simp] theorem setStream_draws (i : StreamId) (r : StreamRecord) (s : State) : (setStream i r s).draws = s.draws := rfl
@[simp] theorem setStream_params (i : StreamId) (r : StreamRecord) (s : State) : (setStream i r s).params = s.params := rfl
@[simp] theorem setStream_port (i : StreamId) (r : StreamRecord) (s : State) : (setStream i r s).port = s.port := rfl
@[simp] theorem setStream_link (i : StreamId) (r : StreamRecord) (s : State) : (setStream i r s).link = s.link := rfl
@[simp] theorem setStream_recognition (i : StreamId) (r : StreamRecord) (s : State) :
    (setStream i r s).recognition = s.recognition := rfl
@[simp] theorem setStream_intake (i : StreamId) (r : StreamRecord) (s : State) : (setStream i r s).intake = s.intake := rfl
@[simp] theorem setStream_records (i : StreamId) (r : StreamRecord) (s : State) :
    (setStream i r s).records = s.records := rfl
@[simp] theorem setStream_table (i : StreamId) (r : StreamRecord) (s : State) : (setStream i r s).table = s.table := rfl
@[simp] theorem setStream_engine (i : StreamId) (r : StreamRecord) (s : State) : (setStream i r s).engine = s.engine := rfl
@[simp] theorem setStream_grip (i : StreamId) (r : StreamRecord) (s : State) : (setStream i r s).grip = s.grip := rfl
@[simp] theorem setStream_issuer (i : StreamId) (r : StreamRecord) (s : State) : (setStream i r s).issuer = s.issuer := rfl
@[simp] theorem setStream_axles (i : StreamId) (r : StreamRecord) (s : State) : (setStream i r s).axles = s.axles := rfl
@[simp] theorem setStream_modes (i : StreamId) (r : StreamRecord) (s : State) : (setStream i r s).modes = s.modes := rfl
@[simp] theorem setStream_filters (i : StreamId) (r : StreamRecord) (s : State) :
    (setStream i r s).filters = s.filters := rfl
@[simp] theorem setStream_supply (i : StreamId) (r : StreamRecord) (s : State) : (setStream i r s).supply = s.supply := rfl
@[simp] theorem setStream_exception (i : StreamId) (r : StreamRecord) (s : State) :
    (setStream i r s).exception = s.exception := rfl
@[simp] theorem setStream_report (i : StreamId) (r : StreamRecord) (s : State) : (setStream i r s).report = s.report := rfl

@[simp] theorem setSupervisor_pending (a : Axle) (v : Supervisor) (s : State) :
    (setSupervisor a v s).pending = s.pending := rfl
@[simp] theorem setSupervisor_now (a : Axle) (v : Supervisor) (s : State) : (setSupervisor a v s).now = s.now := rfl
@[simp] theorem setSupervisor_draws (a : Axle) (v : Supervisor) (s : State) : (setSupervisor a v s).draws = s.draws := rfl
@[simp] theorem setSupervisor_params (a : Axle) (v : Supervisor) (s : State) : (setSupervisor a v s).params = s.params := rfl
@[simp] theorem setSupervisor_port (a : Axle) (v : Supervisor) (s : State) : (setSupervisor a v s).port = s.port := rfl
@[simp] theorem setSupervisor_link (a : Axle) (v : Supervisor) (s : State) : (setSupervisor a v s).link = s.link := rfl
@[simp] theorem setSupervisor_recognition (a : Axle) (v : Supervisor) (s : State) :
    (setSupervisor a v s).recognition = s.recognition := rfl
@[simp] theorem setSupervisor_intake (a : Axle) (v : Supervisor) (s : State) : (setSupervisor a v s).intake = s.intake := rfl
@[simp] theorem setSupervisor_streams (a : Axle) (v : Supervisor) (s : State) :
    (setSupervisor a v s).streams = s.streams := rfl
@[simp] theorem setSupervisor_records (a : Axle) (v : Supervisor) (s : State) :
    (setSupervisor a v s).records = s.records := rfl
@[simp] theorem setSupervisor_table (a : Axle) (v : Supervisor) (s : State) : (setSupervisor a v s).table = s.table := rfl
@[simp] theorem setSupervisor_engine (a : Axle) (v : Supervisor) (s : State) : (setSupervisor a v s).engine = s.engine := rfl
@[simp] theorem setSupervisor_grip (a : Axle) (v : Supervisor) (s : State) : (setSupervisor a v s).grip = s.grip := rfl
@[simp] theorem setSupervisor_issuer (a : Axle) (v : Supervisor) (s : State) : (setSupervisor a v s).issuer = s.issuer := rfl
@[simp] theorem setSupervisor_modes (a : Axle) (v : Supervisor) (s : State) : (setSupervisor a v s).modes = s.modes := rfl
@[simp] theorem setSupervisor_filters (a : Axle) (v : Supervisor) (s : State) :
    (setSupervisor a v s).filters = s.filters := rfl
@[simp] theorem setSupervisor_supply (a : Axle) (v : Supervisor) (s : State) : (setSupervisor a v s).supply = s.supply := rfl
@[simp] theorem setSupervisor_exception (a : Axle) (v : Supervisor) (s : State) :
    (setSupervisor a v s).exception = s.exception := rfl
@[simp] theorem setSupervisor_report (a : Axle) (v : Supervisor) (s : State) : (setSupervisor a v s).report = s.report := rfl

@[simp] theorem writeAxleCell_pending (a : Axle) (s : State) : (writeAxleCell a s).pending = s.pending := rfl
@[simp] theorem writeAxleCell_now (a : Axle) (s : State) : (writeAxleCell a s).now = s.now := rfl
@[simp] theorem writeAxleCell_draws (a : Axle) (s : State) : (writeAxleCell a s).draws = s.draws := rfl
@[simp] theorem writeAxleCell_params (a : Axle) (s : State) : (writeAxleCell a s).params = s.params := rfl
@[simp] theorem writeAxleCell_port (a : Axle) (s : State) : (writeAxleCell a s).port = s.port := rfl
@[simp] theorem writeAxleCell_link (a : Axle) (s : State) : (writeAxleCell a s).link = s.link := rfl
@[simp] theorem writeAxleCell_recognition (a : Axle) (s : State) : (writeAxleCell a s).recognition = s.recognition := rfl
@[simp] theorem writeAxleCell_intake (a : Axle) (s : State) : (writeAxleCell a s).intake = s.intake := rfl
@[simp] theorem writeAxleCell_streams (a : Axle) (s : State) : (writeAxleCell a s).streams = s.streams := rfl
@[simp] theorem writeAxleCell_records (a : Axle) (s : State) : (writeAxleCell a s).records = s.records := rfl
@[simp] theorem writeAxleCell_engine (a : Axle) (s : State) : (writeAxleCell a s).engine = s.engine := rfl
@[simp] theorem writeAxleCell_grip (a : Axle) (s : State) : (writeAxleCell a s).grip = s.grip := rfl
@[simp] theorem writeAxleCell_issuer (a : Axle) (s : State) : (writeAxleCell a s).issuer = s.issuer := rfl
@[simp] theorem writeAxleCell_axles (a : Axle) (s : State) : (writeAxleCell a s).axles = s.axles := rfl
@[simp] theorem writeAxleCell_modes (a : Axle) (s : State) : (writeAxleCell a s).modes = s.modes := rfl
@[simp] theorem writeAxleCell_filters (a : Axle) (s : State) : (writeAxleCell a s).filters = s.filters := rfl
@[simp] theorem writeAxleCell_supply (a : Axle) (s : State) : (writeAxleCell a s).supply = s.supply := rfl
@[simp] theorem writeAxleCell_exception (a : Axle) (s : State) : (writeAxleCell a s).exception = s.exception := rfl
@[simp] theorem writeAxleCell_report (a : Axle) (s : State) : (writeAxleCell a s).report = s.report := rfl

@[simp] theorem zeroPrevious_pending (s : State) : (zeroPrevious s).pending = s.pending := rfl
@[simp] theorem zeroPrevious_now (s : State) : (zeroPrevious s).now = s.now := rfl
@[simp] theorem zeroPrevious_draws (s : State) : (zeroPrevious s).draws = s.draws := rfl
@[simp] theorem zeroPrevious_params (s : State) : (zeroPrevious s).params = s.params := rfl
@[simp] theorem zeroPrevious_port (s : State) : (zeroPrevious s).port = s.port := rfl
@[simp] theorem zeroPrevious_link (s : State) : (zeroPrevious s).link = s.link := rfl
@[simp] theorem zeroPrevious_recognition (s : State) : (zeroPrevious s).recognition = s.recognition := rfl
@[simp] theorem zeroPrevious_intake (s : State) : (zeroPrevious s).intake = s.intake := rfl
@[simp] theorem zeroPrevious_streams (s : State) : (zeroPrevious s).streams = s.streams := rfl
@[simp] theorem zeroPrevious_records (s : State) : (zeroPrevious s).records = s.records := rfl
@[simp] theorem zeroPrevious_table (s : State) : (zeroPrevious s).table = s.table := rfl
@[simp] theorem zeroPrevious_grip (s : State) : (zeroPrevious s).grip = s.grip := rfl
@[simp] theorem zeroPrevious_issuer (s : State) : (zeroPrevious s).issuer = s.issuer := rfl
@[simp] theorem zeroPrevious_axles (s : State) : (zeroPrevious s).axles = s.axles := rfl
@[simp] theorem zeroPrevious_modes (s : State) : (zeroPrevious s).modes = s.modes := rfl
@[simp] theorem zeroPrevious_filters (s : State) : (zeroPrevious s).filters = s.filters := rfl
@[simp] theorem zeroPrevious_supply (s : State) : (zeroPrevious s).supply = s.supply := rfl
@[simp] theorem zeroPrevious_exception (s : State) : (zeroPrevious s).exception = s.exception := rfl
@[simp] theorem zeroPrevious_report (s : State) : (zeroPrevious s).report = s.report := rfl

@[simp] theorem stopPassTimer_pending (s : State) : (stopPassTimer s).pending = s.pending := rfl
@[simp] theorem stopPassTimer_now (s : State) : (stopPassTimer s).now = s.now := rfl
@[simp] theorem stopPassTimer_draws (s : State) : (stopPassTimer s).draws = s.draws := rfl
@[simp] theorem stopPassTimer_params (s : State) : (stopPassTimer s).params = s.params := rfl
@[simp] theorem stopPassTimer_port (s : State) : (stopPassTimer s).port = s.port := rfl
@[simp] theorem stopPassTimer_link (s : State) : (stopPassTimer s).link = s.link := rfl
@[simp] theorem stopPassTimer_recognition (s : State) : (stopPassTimer s).recognition = s.recognition := rfl
@[simp] theorem stopPassTimer_intake (s : State) : (stopPassTimer s).intake = s.intake := rfl
@[simp] theorem stopPassTimer_streams (s : State) : (stopPassTimer s).streams = s.streams := rfl
@[simp] theorem stopPassTimer_records (s : State) : (stopPassTimer s).records = s.records := rfl
@[simp] theorem stopPassTimer_table (s : State) : (stopPassTimer s).table = s.table := rfl
@[simp] theorem stopPassTimer_grip (s : State) : (stopPassTimer s).grip = s.grip := rfl
@[simp] theorem stopPassTimer_issuer (s : State) : (stopPassTimer s).issuer = s.issuer := rfl
@[simp] theorem stopPassTimer_axles (s : State) : (stopPassTimer s).axles = s.axles := rfl
@[simp] theorem stopPassTimer_modes (s : State) : (stopPassTimer s).modes = s.modes := rfl
@[simp] theorem stopPassTimer_filters (s : State) : (stopPassTimer s).filters = s.filters := rfl
@[simp] theorem stopPassTimer_supply (s : State) : (stopPassTimer s).supply = s.supply := rfl
@[simp] theorem stopPassTimer_exception (s : State) : (stopPassTimer s).exception = s.exception := rfl
@[simp] theorem stopPassTimer_report (s : State) : (stopPassTimer s).report = s.report := rfl

@[simp] theorem startPass_pending (s : State) : (startPass s).pending = s.pending := rfl
@[simp] theorem startPass_now (s : State) : (startPass s).now = s.now := rfl
@[simp] theorem startPass_draws (s : State) : (startPass s).draws = s.draws := rfl
@[simp] theorem startPass_params (s : State) : (startPass s).params = s.params := rfl
@[simp] theorem startPass_port (s : State) : (startPass s).port = s.port := rfl
@[simp] theorem startPass_link (s : State) : (startPass s).link = s.link := rfl
@[simp] theorem startPass_recognition (s : State) : (startPass s).recognition = s.recognition := rfl
@[simp] theorem startPass_intake (s : State) : (startPass s).intake = s.intake := rfl
@[simp] theorem startPass_streams (s : State) : (startPass s).streams = s.streams := rfl
@[simp] theorem startPass_records (s : State) : (startPass s).records = s.records := rfl
@[simp] theorem startPass_table (s : State) : (startPass s).table = s.table := rfl
@[simp] theorem startPass_grip (s : State) : (startPass s).grip = s.grip := rfl
@[simp] theorem startPass_issuer (s : State) : (startPass s).issuer = s.issuer := rfl
@[simp] theorem startPass_axles (s : State) : (startPass s).axles = s.axles := rfl
@[simp] theorem startPass_modes (s : State) : (startPass s).modes = s.modes := rfl
@[simp] theorem startPass_filters (s : State) : (startPass s).filters = s.filters := rfl
@[simp] theorem startPass_supply (s : State) : (startPass s).supply = s.supply := rfl
@[simp] theorem startPass_exception (s : State) : (startPass s).exception = s.exception := rfl
@[simp] theorem startPass_report (s : State) : (startPass s).report = s.report := rfl

@[simp] theorem abandonReply_pending (s : State) : (abandonReply s).pending = s.pending := rfl
@[simp] theorem abandonReply_now (s : State) : (abandonReply s).now = s.now := rfl
@[simp] theorem abandonReply_draws (s : State) : (abandonReply s).draws = s.draws := rfl
@[simp] theorem abandonReply_params (s : State) : (abandonReply s).params = s.params := rfl
@[simp] theorem abandonReply_port (s : State) : (abandonReply s).port = s.port := rfl
@[simp] theorem abandonReply_link (s : State) : (abandonReply s).link = s.link := rfl
@[simp] theorem abandonReply_recognition (s : State) : (abandonReply s).recognition = s.recognition := rfl
@[simp] theorem abandonReply_intake (s : State) : (abandonReply s).intake = s.intake := rfl
@[simp] theorem abandonReply_streams (s : State) : (abandonReply s).streams = s.streams := rfl
@[simp] theorem abandonReply_records (s : State) : (abandonReply s).records = s.records := rfl
@[simp] theorem abandonReply_table (s : State) : (abandonReply s).table = s.table := rfl
@[simp] theorem abandonReply_engine (s : State) : (abandonReply s).engine = s.engine := rfl
@[simp] theorem abandonReply_grip (s : State) : (abandonReply s).grip = s.grip := rfl
@[simp] theorem abandonReply_issuer (s : State) : (abandonReply s).issuer = s.issuer := rfl
@[simp] theorem abandonReply_axles (s : State) : (abandonReply s).axles = s.axles := rfl
@[simp] theorem abandonReply_modes (s : State) : (abandonReply s).modes = s.modes := rfl
@[simp] theorem abandonReply_filters (s : State) : (abandonReply s).filters = s.filters := rfl
@[simp] theorem abandonReply_supply (s : State) : (abandonReply s).supply = s.supply := rfl
@[simp] theorem abandonReply_exception (s : State) : (abandonReply s).exception = s.exception := rfl

@[simp] theorem countDemandClamp_pending (s : State) : (countDemandClamp s).pending = s.pending := rfl
@[simp] theorem countDemandClamp_now (s : State) : (countDemandClamp s).now = s.now := rfl
@[simp] theorem countDemandClamp_draws (s : State) : (countDemandClamp s).draws = s.draws := rfl
@[simp] theorem countDemandClamp_params (s : State) : (countDemandClamp s).params = s.params := rfl
@[simp] theorem countDemandClamp_port (s : State) : (countDemandClamp s).port = s.port := rfl
@[simp] theorem countDemandClamp_link (s : State) : (countDemandClamp s).link = s.link := rfl
@[simp] theorem countDemandClamp_recognition (s : State) : (countDemandClamp s).recognition = s.recognition := rfl
@[simp] theorem countDemandClamp_intake (s : State) : (countDemandClamp s).intake = s.intake := rfl
@[simp] theorem countDemandClamp_streams (s : State) : (countDemandClamp s).streams = s.streams := rfl
@[simp] theorem countDemandClamp_records (s : State) : (countDemandClamp s).records = s.records := rfl
@[simp] theorem countDemandClamp_table (s : State) : (countDemandClamp s).table = s.table := rfl
@[simp] theorem countDemandClamp_engine (s : State) : (countDemandClamp s).engine = s.engine := rfl
@[simp] theorem countDemandClamp_grip (s : State) : (countDemandClamp s).grip = s.grip := rfl
@[simp] theorem countDemandClamp_issuer (s : State) : (countDemandClamp s).issuer = s.issuer := rfl
@[simp] theorem countDemandClamp_axles (s : State) : (countDemandClamp s).axles = s.axles := rfl
@[simp] theorem countDemandClamp_modes (s : State) : (countDemandClamp s).modes = s.modes := rfl
@[simp] theorem countDemandClamp_filters (s : State) : (countDemandClamp s).filters = s.filters := rfl
@[simp] theorem countDemandClamp_supply (s : State) : (countDemandClamp s).supply = s.supply := rfl
@[simp] theorem countDemandClamp_exception (s : State) : (countDemandClamp s).exception = s.exception := rfl

@[simp] theorem countOverflow_pending (s : State) : (countOverflow s).pending = s.pending := rfl
@[simp] theorem countOverflow_now (s : State) : (countOverflow s).now = s.now := rfl
@[simp] theorem countOverflow_draws (s : State) : (countOverflow s).draws = s.draws := rfl
@[simp] theorem countOverflow_params (s : State) : (countOverflow s).params = s.params := rfl
@[simp] theorem countOverflow_port (s : State) : (countOverflow s).port = s.port := rfl
@[simp] theorem countOverflow_link (s : State) : (countOverflow s).link = s.link := rfl
@[simp] theorem countOverflow_recognition (s : State) : (countOverflow s).recognition = s.recognition := rfl
@[simp] theorem countOverflow_intake (s : State) : (countOverflow s).intake = s.intake := rfl
@[simp] theorem countOverflow_streams (s : State) : (countOverflow s).streams = s.streams := rfl
@[simp] theorem countOverflow_records (s : State) : (countOverflow s).records = s.records := rfl
@[simp] theorem countOverflow_table (s : State) : (countOverflow s).table = s.table := rfl
@[simp] theorem countOverflow_engine (s : State) : (countOverflow s).engine = s.engine := rfl
@[simp] theorem countOverflow_grip (s : State) : (countOverflow s).grip = s.grip := rfl
@[simp] theorem countOverflow_issuer (s : State) : (countOverflow s).issuer = s.issuer := rfl
@[simp] theorem countOverflow_axles (s : State) : (countOverflow s).axles = s.axles := rfl
@[simp] theorem countOverflow_modes (s : State) : (countOverflow s).modes = s.modes := rfl
@[simp] theorem countOverflow_filters (s : State) : (countOverflow s).filters = s.filters := rfl
@[simp] theorem countOverflow_supply (s : State) : (countOverflow s).supply = s.supply := rfl
@[simp] theorem countOverflow_exception (s : State) : (countOverflow s).exception = s.exception := rfl

@[simp] theorem countBadCheck_pending (s : State) : (countBadCheck s).pending = s.pending := rfl
@[simp] theorem countBadCheck_now (s : State) : (countBadCheck s).now = s.now := rfl
@[simp] theorem countBadCheck_draws (s : State) : (countBadCheck s).draws = s.draws := rfl
@[simp] theorem countBadCheck_params (s : State) : (countBadCheck s).params = s.params := rfl
@[simp] theorem countBadCheck_port (s : State) : (countBadCheck s).port = s.port := rfl
@[simp] theorem countBadCheck_link (s : State) : (countBadCheck s).link = s.link := rfl
@[simp] theorem countBadCheck_recognition (s : State) : (countBadCheck s).recognition = s.recognition := rfl
@[simp] theorem countBadCheck_intake (s : State) : (countBadCheck s).intake = s.intake := rfl
@[simp] theorem countBadCheck_streams (s : State) : (countBadCheck s).streams = s.streams := rfl
@[simp] theorem countBadCheck_records (s : State) : (countBadCheck s).records = s.records := rfl
@[simp] theorem countBadCheck_table (s : State) : (countBadCheck s).table = s.table := rfl
@[simp] theorem countBadCheck_engine (s : State) : (countBadCheck s).engine = s.engine := rfl
@[simp] theorem countBadCheck_grip (s : State) : (countBadCheck s).grip = s.grip := rfl
@[simp] theorem countBadCheck_issuer (s : State) : (countBadCheck s).issuer = s.issuer := rfl
@[simp] theorem countBadCheck_axles (s : State) : (countBadCheck s).axles = s.axles := rfl
@[simp] theorem countBadCheck_modes (s : State) : (countBadCheck s).modes = s.modes := rfl
@[simp] theorem countBadCheck_filters (s : State) : (countBadCheck s).filters = s.filters := rfl
@[simp] theorem countBadCheck_supply (s : State) : (countBadCheck s).supply = s.supply := rfl
@[simp] theorem countBadCheck_exception (s : State) : (countBadCheck s).exception = s.exception := rfl

@[simp] theorem countEchoFault_pending (s : State) : (countEchoFault s).pending = s.pending := rfl
@[simp] theorem countEchoFault_now (s : State) : (countEchoFault s).now = s.now := rfl
@[simp] theorem countEchoFault_draws (s : State) : (countEchoFault s).draws = s.draws := rfl
@[simp] theorem countEchoFault_params (s : State) : (countEchoFault s).params = s.params := rfl
@[simp] theorem countEchoFault_port (s : State) : (countEchoFault s).port = s.port := rfl
@[simp] theorem countEchoFault_link (s : State) : (countEchoFault s).link = s.link := rfl
@[simp] theorem countEchoFault_recognition (s : State) : (countEchoFault s).recognition = s.recognition := rfl
@[simp] theorem countEchoFault_intake (s : State) : (countEchoFault s).intake = s.intake := rfl
@[simp] theorem countEchoFault_streams (s : State) : (countEchoFault s).streams = s.streams := rfl
@[simp] theorem countEchoFault_records (s : State) : (countEchoFault s).records = s.records := rfl
@[simp] theorem countEchoFault_table (s : State) : (countEchoFault s).table = s.table := rfl
@[simp] theorem countEchoFault_engine (s : State) : (countEchoFault s).engine = s.engine := rfl
@[simp] theorem countEchoFault_grip (s : State) : (countEchoFault s).grip = s.grip := rfl
@[simp] theorem countEchoFault_issuer (s : State) : (countEchoFault s).issuer = s.issuer := rfl
@[simp] theorem countEchoFault_axles (s : State) : (countEchoFault s).axles = s.axles := rfl
@[simp] theorem countEchoFault_modes (s : State) : (countEchoFault s).modes = s.modes := rfl
@[simp] theorem countEchoFault_filters (s : State) : (countEchoFault s).filters = s.filters := rfl
@[simp] theorem countEchoFault_supply (s : State) : (countEchoFault s).supply = s.supply := rfl
@[simp] theorem countEchoFault_exception (s : State) : (countEchoFault s).exception = s.exception := rfl

@[simp] theorem countSuperseded_pending (s : State) : (countSuperseded s).pending = s.pending := rfl
@[simp] theorem countSuperseded_now (s : State) : (countSuperseded s).now = s.now := rfl
@[simp] theorem countSuperseded_draws (s : State) : (countSuperseded s).draws = s.draws := rfl
@[simp] theorem countSuperseded_params (s : State) : (countSuperseded s).params = s.params := rfl
@[simp] theorem countSuperseded_port (s : State) : (countSuperseded s).port = s.port := rfl
@[simp] theorem countSuperseded_link (s : State) : (countSuperseded s).link = s.link := rfl
@[simp] theorem countSuperseded_recognition (s : State) : (countSuperseded s).recognition = s.recognition := rfl
@[simp] theorem countSuperseded_intake (s : State) : (countSuperseded s).intake = s.intake := rfl
@[simp] theorem countSuperseded_streams (s : State) : (countSuperseded s).streams = s.streams := rfl
@[simp] theorem countSuperseded_records (s : State) : (countSuperseded s).records = s.records := rfl
@[simp] theorem countSuperseded_table (s : State) : (countSuperseded s).table = s.table := rfl
@[simp] theorem countSuperseded_engine (s : State) : (countSuperseded s).engine = s.engine := rfl
@[simp] theorem countSuperseded_grip (s : State) : (countSuperseded s).grip = s.grip := rfl
@[simp] theorem countSuperseded_issuer (s : State) : (countSuperseded s).issuer = s.issuer := rfl
@[simp] theorem countSuperseded_axles (s : State) : (countSuperseded s).axles = s.axles := rfl
@[simp] theorem countSuperseded_modes (s : State) : (countSuperseded s).modes = s.modes := rfl
@[simp] theorem countSuperseded_filters (s : State) : (countSuperseded s).filters = s.filters := rfl
@[simp] theorem countSuperseded_supply (s : State) : (countSuperseded s).supply = s.supply := rfl
@[simp] theorem countSuperseded_exception (s : State) : (countSuperseded s).exception = s.exception := rfl

@[simp] theorem countConflict_pending (s : State) : (countConflict s).pending = s.pending := rfl
@[simp] theorem countConflict_now (s : State) : (countConflict s).now = s.now := rfl
@[simp] theorem countConflict_draws (s : State) : (countConflict s).draws = s.draws := rfl
@[simp] theorem countConflict_params (s : State) : (countConflict s).params = s.params := rfl
@[simp] theorem countConflict_port (s : State) : (countConflict s).port = s.port := rfl
@[simp] theorem countConflict_link (s : State) : (countConflict s).link = s.link := rfl
@[simp] theorem countConflict_recognition (s : State) : (countConflict s).recognition = s.recognition := rfl
@[simp] theorem countConflict_intake (s : State) : (countConflict s).intake = s.intake := rfl
@[simp] theorem countConflict_streams (s : State) : (countConflict s).streams = s.streams := rfl
@[simp] theorem countConflict_records (s : State) : (countConflict s).records = s.records := rfl
@[simp] theorem countConflict_table (s : State) : (countConflict s).table = s.table := rfl
@[simp] theorem countConflict_engine (s : State) : (countConflict s).engine = s.engine := rfl
@[simp] theorem countConflict_grip (s : State) : (countConflict s).grip = s.grip := rfl
@[simp] theorem countConflict_issuer (s : State) : (countConflict s).issuer = s.issuer := rfl
@[simp] theorem countConflict_axles (s : State) : (countConflict s).axles = s.axles := rfl
@[simp] theorem countConflict_modes (s : State) : (countConflict s).modes = s.modes := rfl
@[simp] theorem countConflict_filters (s : State) : (countConflict s).filters = s.filters := rfl
@[simp] theorem countConflict_supply (s : State) : (countConflict s).supply = s.supply := rfl
@[simp] theorem countConflict_exception (s : State) : (countConflict s).exception = s.exception := rfl

@[simp] theorem countMissedCapture_pending (s : State) : (countMissedCapture s).pending = s.pending := rfl
@[simp] theorem countMissedCapture_now (s : State) : (countMissedCapture s).now = s.now := rfl
@[simp] theorem countMissedCapture_draws (s : State) : (countMissedCapture s).draws = s.draws := rfl
@[simp] theorem countMissedCapture_params (s : State) : (countMissedCapture s).params = s.params := rfl
@[simp] theorem countMissedCapture_port (s : State) : (countMissedCapture s).port = s.port := rfl
@[simp] theorem countMissedCapture_link (s : State) : (countMissedCapture s).link = s.link := rfl
@[simp] theorem countMissedCapture_recognition (s : State) : (countMissedCapture s).recognition = s.recognition := rfl
@[simp] theorem countMissedCapture_intake (s : State) : (countMissedCapture s).intake = s.intake := rfl
@[simp] theorem countMissedCapture_streams (s : State) : (countMissedCapture s).streams = s.streams := rfl
@[simp] theorem countMissedCapture_records (s : State) : (countMissedCapture s).records = s.records := rfl
@[simp] theorem countMissedCapture_table (s : State) : (countMissedCapture s).table = s.table := rfl
@[simp] theorem countMissedCapture_engine (s : State) : (countMissedCapture s).engine = s.engine := rfl
@[simp] theorem countMissedCapture_grip (s : State) : (countMissedCapture s).grip = s.grip := rfl
@[simp] theorem countMissedCapture_issuer (s : State) : (countMissedCapture s).issuer = s.issuer := rfl
@[simp] theorem countMissedCapture_axles (s : State) : (countMissedCapture s).axles = s.axles := rfl
@[simp] theorem countMissedCapture_modes (s : State) : (countMissedCapture s).modes = s.modes := rfl
@[simp] theorem countMissedCapture_filters (s : State) : (countMissedCapture s).filters = s.filters := rfl
@[simp] theorem countMissedCapture_supply (s : State) : (countMissedCapture s).supply = s.supply := rfl
@[simp] theorem countMissedCapture_exception (s : State) : (countMissedCapture s).exception = s.exception := rfl

@[simp] theorem countRejected_pending (s : State) : (countRejected s).pending = s.pending := rfl
@[simp] theorem countRejected_now (s : State) : (countRejected s).now = s.now := rfl
@[simp] theorem countRejected_draws (s : State) : (countRejected s).draws = s.draws := rfl
@[simp] theorem countRejected_params (s : State) : (countRejected s).params = s.params := rfl
@[simp] theorem countRejected_port (s : State) : (countRejected s).port = s.port := rfl
@[simp] theorem countRejected_link (s : State) : (countRejected s).link = s.link := rfl
@[simp] theorem countRejected_recognition (s : State) : (countRejected s).recognition = s.recognition := rfl
@[simp] theorem countRejected_intake (s : State) : (countRejected s).intake = s.intake := rfl
@[simp] theorem countRejected_streams (s : State) : (countRejected s).streams = s.streams := rfl
@[simp] theorem countRejected_records (s : State) : (countRejected s).records = s.records := rfl
@[simp] theorem countRejected_table (s : State) : (countRejected s).table = s.table := rfl
@[simp] theorem countRejected_engine (s : State) : (countRejected s).engine = s.engine := rfl
@[simp] theorem countRejected_grip (s : State) : (countRejected s).grip = s.grip := rfl
@[simp] theorem countRejected_issuer (s : State) : (countRejected s).issuer = s.issuer := rfl
@[simp] theorem countRejected_axles (s : State) : (countRejected s).axles = s.axles := rfl
@[simp] theorem countRejected_modes (s : State) : (countRejected s).modes = s.modes := rfl
@[simp] theorem countRejected_filters (s : State) : (countRejected s).filters = s.filters := rfl
@[simp] theorem countRejected_supply (s : State) : (countRejected s).supply = s.supply := rfl
@[simp] theorem countRejected_exception (s : State) : (countRejected s).exception = s.exception := rfl

@[simp] theorem releaseExceptionRecord_pending (s : State) : (releaseExceptionRecord s).pending = s.pending := rfl
@[simp] theorem releaseExceptionRecord_now (s : State) : (releaseExceptionRecord s).now = s.now := rfl
@[simp] theorem releaseExceptionRecord_draws (s : State) : (releaseExceptionRecord s).draws = s.draws := rfl
@[simp] theorem releaseExceptionRecord_params (s : State) : (releaseExceptionRecord s).params = s.params := rfl
@[simp] theorem releaseExceptionRecord_port (s : State) : (releaseExceptionRecord s).port = s.port := rfl
@[simp] theorem releaseExceptionRecord_link (s : State) : (releaseExceptionRecord s).link = s.link := rfl
@[simp] theorem releaseExceptionRecord_recognition (s : State) :
    (releaseExceptionRecord s).recognition = s.recognition := rfl
@[simp] theorem releaseExceptionRecord_intake (s : State) : (releaseExceptionRecord s).intake = s.intake := rfl
@[simp] theorem releaseExceptionRecord_streams (s : State) : (releaseExceptionRecord s).streams = s.streams := rfl
@[simp] theorem releaseExceptionRecord_records (s : State) : (releaseExceptionRecord s).records = s.records := rfl
@[simp] theorem releaseExceptionRecord_table (s : State) : (releaseExceptionRecord s).table = s.table := rfl
@[simp] theorem releaseExceptionRecord_engine (s : State) : (releaseExceptionRecord s).engine = s.engine := rfl
@[simp] theorem releaseExceptionRecord_grip (s : State) : (releaseExceptionRecord s).grip = s.grip := rfl
@[simp] theorem releaseExceptionRecord_issuer (s : State) : (releaseExceptionRecord s).issuer = s.issuer := rfl
@[simp] theorem releaseExceptionRecord_axles (s : State) : (releaseExceptionRecord s).axles = s.axles := rfl
@[simp] theorem releaseExceptionRecord_modes (s : State) : (releaseExceptionRecord s).modes = s.modes := rfl
@[simp] theorem releaseExceptionRecord_filters (s : State) : (releaseExceptionRecord s).filters = s.filters := rfl
@[simp] theorem releaseExceptionRecord_supply (s : State) : (releaseExceptionRecord s).supply = s.supply := rfl
@[simp] theorem releaseExceptionRecord_report (s : State) : (releaseExceptionRecord s).report = s.report := rfl

@[simp] theorem writeMode_pending (m : Mode) (c : SafeCause) (s : State) : (writeMode m c s).pending = s.pending := rfl
@[simp] theorem writeMode_now (m : Mode) (c : SafeCause) (s : State) : (writeMode m c s).now = s.now := rfl
@[simp] theorem writeMode_draws (m : Mode) (c : SafeCause) (s : State) : (writeMode m c s).draws = s.draws := rfl
@[simp] theorem writeMode_params (m : Mode) (c : SafeCause) (s : State) : (writeMode m c s).params = s.params := rfl
@[simp] theorem writeMode_port (m : Mode) (c : SafeCause) (s : State) : (writeMode m c s).port = s.port := rfl
@[simp] theorem writeMode_link (m : Mode) (c : SafeCause) (s : State) : (writeMode m c s).link = s.link := rfl
@[simp] theorem writeMode_recognition (m : Mode) (c : SafeCause) (s : State) :
    (writeMode m c s).recognition = s.recognition := rfl
@[simp] theorem writeMode_intake (m : Mode) (c : SafeCause) (s : State) : (writeMode m c s).intake = s.intake := rfl
@[simp] theorem writeMode_streams (m : Mode) (c : SafeCause) (s : State) : (writeMode m c s).streams = s.streams := rfl
@[simp] theorem writeMode_records (m : Mode) (c : SafeCause) (s : State) : (writeMode m c s).records = s.records := rfl
@[simp] theorem writeMode_table (m : Mode) (c : SafeCause) (s : State) : (writeMode m c s).table = s.table := rfl
@[simp] theorem writeMode_engine (m : Mode) (c : SafeCause) (s : State) : (writeMode m c s).engine = s.engine := rfl
@[simp] theorem writeMode_grip (m : Mode) (c : SafeCause) (s : State) : (writeMode m c s).grip = s.grip := rfl
@[simp] theorem writeMode_issuer (m : Mode) (c : SafeCause) (s : State) : (writeMode m c s).issuer = s.issuer := rfl
@[simp] theorem writeMode_axles (m : Mode) (c : SafeCause) (s : State) : (writeMode m c s).axles = s.axles := rfl
@[simp] theorem writeMode_filters (m : Mode) (c : SafeCause) (s : State) : (writeMode m c s).filters = s.filters := rfl
@[simp] theorem writeMode_supply (m : Mode) (c : SafeCause) (s : State) : (writeMode m c s).supply = s.supply := rfl
@[simp] theorem writeMode_exception (m : Mode) (c : SafeCause) (s : State) : (writeMode m c s).exception = s.exception := rfl
@[simp] theorem writeMode_report (m : Mode) (c : SafeCause) (s : State) : (writeMode m c s).report = s.report := rfl

@[simp] theorem setSupplyCeilings_pending (s : State) : (setSupplyCeilings s).pending = s.pending := rfl
@[simp] theorem setSupplyCeilings_now (s : State) : (setSupplyCeilings s).now = s.now := rfl
@[simp] theorem setSupplyCeilings_draws (s : State) : (setSupplyCeilings s).draws = s.draws := rfl
@[simp] theorem setSupplyCeilings_params (s : State) : (setSupplyCeilings s).params = s.params := rfl
@[simp] theorem setSupplyCeilings_port (s : State) : (setSupplyCeilings s).port = s.port := rfl
@[simp] theorem setSupplyCeilings_link (s : State) : (setSupplyCeilings s).link = s.link := rfl
@[simp] theorem setSupplyCeilings_recognition (s : State) : (setSupplyCeilings s).recognition = s.recognition := rfl
@[simp] theorem setSupplyCeilings_intake (s : State) : (setSupplyCeilings s).intake = s.intake := rfl
@[simp] theorem setSupplyCeilings_streams (s : State) : (setSupplyCeilings s).streams = s.streams := rfl
@[simp] theorem setSupplyCeilings_records (s : State) : (setSupplyCeilings s).records = s.records := rfl
@[simp] theorem setSupplyCeilings_engine (s : State) : (setSupplyCeilings s).engine = s.engine := rfl
@[simp] theorem setSupplyCeilings_grip (s : State) : (setSupplyCeilings s).grip = s.grip := rfl
@[simp] theorem setSupplyCeilings_issuer (s : State) : (setSupplyCeilings s).issuer = s.issuer := rfl
@[simp] theorem setSupplyCeilings_axles (s : State) : (setSupplyCeilings s).axles = s.axles := rfl
@[simp] theorem setSupplyCeilings_modes (s : State) : (setSupplyCeilings s).modes = s.modes := rfl
@[simp] theorem setSupplyCeilings_filters (s : State) : (setSupplyCeilings s).filters = s.filters := rfl
@[simp] theorem setSupplyCeilings_supply (s : State) : (setSupplyCeilings s).supply = s.supply := rfl
@[simp] theorem setSupplyCeilings_exception (s : State) : (setSupplyCeilings s).exception = s.exception := rfl
@[simp] theorem setSupplyCeilings_report (s : State) : (setSupplyCeilings s).report = s.report := rfl

@[simp] theorem clearSupplyCells_pending (s : State) : (clearSupplyCells s).pending = s.pending := rfl
@[simp] theorem clearSupplyCells_now (s : State) : (clearSupplyCells s).now = s.now := rfl
@[simp] theorem clearSupplyCells_draws (s : State) : (clearSupplyCells s).draws = s.draws := rfl
@[simp] theorem clearSupplyCells_params (s : State) : (clearSupplyCells s).params = s.params := rfl
@[simp] theorem clearSupplyCells_port (s : State) : (clearSupplyCells s).port = s.port := rfl
@[simp] theorem clearSupplyCells_link (s : State) : (clearSupplyCells s).link = s.link := rfl
@[simp] theorem clearSupplyCells_recognition (s : State) : (clearSupplyCells s).recognition = s.recognition := rfl
@[simp] theorem clearSupplyCells_intake (s : State) : (clearSupplyCells s).intake = s.intake := rfl
@[simp] theorem clearSupplyCells_streams (s : State) : (clearSupplyCells s).streams = s.streams := rfl
@[simp] theorem clearSupplyCells_records (s : State) : (clearSupplyCells s).records = s.records := rfl
@[simp] theorem clearSupplyCells_engine (s : State) : (clearSupplyCells s).engine = s.engine := rfl
@[simp] theorem clearSupplyCells_grip (s : State) : (clearSupplyCells s).grip = s.grip := rfl
@[simp] theorem clearSupplyCells_issuer (s : State) : (clearSupplyCells s).issuer = s.issuer := rfl
@[simp] theorem clearSupplyCells_axles (s : State) : (clearSupplyCells s).axles = s.axles := rfl
@[simp] theorem clearSupplyCells_modes (s : State) : (clearSupplyCells s).modes = s.modes := rfl
@[simp] theorem clearSupplyCells_filters (s : State) : (clearSupplyCells s).filters = s.filters := rfl
@[simp] theorem clearSupplyCells_supply (s : State) : (clearSupplyCells s).supply = s.supply := rfl
@[simp] theorem clearSupplyCells_exception (s : State) : (clearSupplyCells s).exception = s.exception := rfl
@[simp] theorem clearSupplyCells_report (s : State) : (clearSupplyCells s).report = s.report := rfl

@[simp] theorem leaveListen_pending (s : State) : (leaveListen s).pending = s.pending := rfl
@[simp] theorem leaveListen_now (s : State) : (leaveListen s).now = s.now := rfl
@[simp] theorem leaveListen_draws (s : State) : (leaveListen s).draws = s.draws := rfl
@[simp] theorem leaveListen_params (s : State) : (leaveListen s).params = s.params := rfl
@[simp] theorem leaveListen_port (s : State) : (leaveListen s).port = s.port := rfl
@[simp] theorem leaveListen_recognition (s : State) : (leaveListen s).recognition = s.recognition := rfl
@[simp] theorem leaveListen_intake (s : State) : (leaveListen s).intake = s.intake := rfl
@[simp] theorem leaveListen_streams (s : State) : (leaveListen s).streams = s.streams := rfl
@[simp] theorem leaveListen_records (s : State) : (leaveListen s).records = s.records := rfl
@[simp] theorem leaveListen_table (s : State) : (leaveListen s).table = s.table := rfl
@[simp] theorem leaveListen_engine (s : State) : (leaveListen s).engine = s.engine := rfl
@[simp] theorem leaveListen_grip (s : State) : (leaveListen s).grip = s.grip := rfl
@[simp] theorem leaveListen_issuer (s : State) : (leaveListen s).issuer = s.issuer := rfl
@[simp] theorem leaveListen_axles (s : State) : (leaveListen s).axles = s.axles := rfl
@[simp] theorem leaveListen_modes (s : State) : (leaveListen s).modes = s.modes := rfl
@[simp] theorem leaveListen_filters (s : State) : (leaveListen s).filters = s.filters := rfl
@[simp] theorem leaveListen_supply (s : State) : (leaveListen s).supply = s.supply := rfl
@[simp] theorem leaveListen_exception (s : State) : (leaveListen s).exception = s.exception := rfl
@[simp] theorem leaveListen_report (s : State) : (leaveListen s).report = s.report := rfl

@[simp] theorem restartLink_pending (s : State) : (restartLink s).pending = s.pending := rfl
@[simp] theorem restartLink_now (s : State) : (restartLink s).now = s.now := rfl
@[simp] theorem restartLink_draws (s : State) : (restartLink s).draws = s.draws := rfl
@[simp] theorem restartLink_params (s : State) : (restartLink s).params = s.params := rfl
@[simp] theorem restartLink_port (s : State) : (restartLink s).port = s.port := rfl
@[simp] theorem restartLink_recognition (s : State) : (restartLink s).recognition = s.recognition := rfl
@[simp] theorem restartLink_intake (s : State) : (restartLink s).intake = s.intake := rfl
@[simp] theorem restartLink_streams (s : State) : (restartLink s).streams = s.streams := rfl
@[simp] theorem restartLink_records (s : State) : (restartLink s).records = s.records := rfl
@[simp] theorem restartLink_table (s : State) : (restartLink s).table = s.table := rfl
@[simp] theorem restartLink_engine (s : State) : (restartLink s).engine = s.engine := rfl
@[simp] theorem restartLink_grip (s : State) : (restartLink s).grip = s.grip := rfl
@[simp] theorem restartLink_issuer (s : State) : (restartLink s).issuer = s.issuer := rfl
@[simp] theorem restartLink_axles (s : State) : (restartLink s).axles = s.axles := rfl
@[simp] theorem restartLink_modes (s : State) : (restartLink s).modes = s.modes := rfl
@[simp] theorem restartLink_filters (s : State) : (restartLink s).filters = s.filters := rfl
@[simp] theorem restartLink_supply (s : State) : (restartLink s).supply = s.supply := rfl
@[simp] theorem restartLink_exception (s : State) : (restartLink s).exception = s.exception := rfl
@[simp] theorem restartLink_report (s : State) : (restartLink s).report = s.report := rfl

@[simp] theorem acceptLevel_pending (l : LineId) (v : Level) (s : State) : (acceptLevel l v s).pending = s.pending := rfl
@[simp] theorem acceptLevel_now (l : LineId) (v : Level) (s : State) : (acceptLevel l v s).now = s.now := rfl
@[simp] theorem acceptLevel_draws (l : LineId) (v : Level) (s : State) : (acceptLevel l v s).draws = s.draws := rfl
@[simp] theorem acceptLevel_params (l : LineId) (v : Level) (s : State) : (acceptLevel l v s).params = s.params := rfl
@[simp] theorem acceptLevel_port (l : LineId) (v : Level) (s : State) : (acceptLevel l v s).port = s.port := rfl
@[simp] theorem acceptLevel_link (l : LineId) (v : Level) (s : State) : (acceptLevel l v s).link = s.link := rfl
@[simp] theorem acceptLevel_recognition (l : LineId) (v : Level) (s : State) :
    (acceptLevel l v s).recognition = s.recognition := rfl
@[simp] theorem acceptLevel_intake (l : LineId) (v : Level) (s : State) : (acceptLevel l v s).intake = s.intake := rfl
@[simp] theorem acceptLevel_streams (l : LineId) (v : Level) (s : State) : (acceptLevel l v s).streams = s.streams := rfl
@[simp] theorem acceptLevel_records (l : LineId) (v : Level) (s : State) : (acceptLevel l v s).records = s.records := rfl
@[simp] theorem acceptLevel_table (l : LineId) (v : Level) (s : State) : (acceptLevel l v s).table = s.table := rfl
@[simp] theorem acceptLevel_engine (l : LineId) (v : Level) (s : State) : (acceptLevel l v s).engine = s.engine := rfl
@[simp] theorem acceptLevel_grip (l : LineId) (v : Level) (s : State) : (acceptLevel l v s).grip = s.grip := rfl
@[simp] theorem acceptLevel_issuer (l : LineId) (v : Level) (s : State) : (acceptLevel l v s).issuer = s.issuer := rfl
@[simp] theorem acceptLevel_axles (l : LineId) (v : Level) (s : State) : (acceptLevel l v s).axles = s.axles := rfl
@[simp] theorem acceptLevel_modes (l : LineId) (v : Level) (s : State) : (acceptLevel l v s).modes = s.modes := rfl
@[simp] theorem acceptLevel_supply (l : LineId) (v : Level) (s : State) : (acceptLevel l v s).supply = s.supply := rfl
@[simp] theorem acceptLevel_exception (l : LineId) (v : Level) (s : State) :
    (acceptLevel l v s).exception = s.exception := rfl
@[simp] theorem acceptLevel_report (l : LineId) (v : Level) (s : State) : (acceptLevel l v s).report = s.report := rfl

@[simp] theorem numberStatus_pending (s : State) : (numberStatus s).pending = s.pending := rfl
@[simp] theorem numberStatus_now (s : State) : (numberStatus s).now = s.now := rfl
@[simp] theorem numberStatus_params (s : State) : (numberStatus s).params = s.params := rfl
@[simp] theorem numberStatus_port (s : State) : (numberStatus s).port = s.port := rfl
@[simp] theorem numberStatus_link (s : State) : (numberStatus s).link = s.link := rfl
@[simp] theorem numberStatus_recognition (s : State) : (numberStatus s).recognition = s.recognition := rfl
@[simp] theorem numberStatus_intake (s : State) : (numberStatus s).intake = s.intake := rfl
@[simp] theorem numberStatus_records (s : State) : (numberStatus s).records = s.records := rfl
@[simp] theorem numberStatus_table (s : State) : (numberStatus s).table = s.table := rfl
@[simp] theorem numberStatus_engine (s : State) : (numberStatus s).engine = s.engine := rfl
@[simp] theorem numberStatus_grip (s : State) : (numberStatus s).grip = s.grip := rfl
@[simp] theorem numberStatus_issuer (s : State) : (numberStatus s).issuer = s.issuer := rfl
@[simp] theorem numberStatus_axles (s : State) : (numberStatus s).axles = s.axles := rfl
@[simp] theorem numberStatus_modes (s : State) : (numberStatus s).modes = s.modes := rfl
@[simp] theorem numberStatus_filters (s : State) : (numberStatus s).filters = s.filters := rfl
@[simp] theorem numberStatus_exception (s : State) : (numberStatus s).exception = s.exception := rfl

@[simp] theorem weighAlerts_pending (before s : State) : (weighAlerts before s).pending = s.pending := rfl
@[simp] theorem weighAlerts_now (before s : State) : (weighAlerts before s).now = s.now := rfl
@[simp] theorem weighAlerts_draws (before s : State) : (weighAlerts before s).draws = s.draws := rfl
@[simp] theorem weighAlerts_params (before s : State) : (weighAlerts before s).params = s.params := rfl
@[simp] theorem weighAlerts_port (before s : State) : (weighAlerts before s).port = s.port := rfl
@[simp] theorem weighAlerts_link (before s : State) : (weighAlerts before s).link = s.link := rfl
@[simp] theorem weighAlerts_recognition (before s : State) : (weighAlerts before s).recognition = s.recognition := rfl
@[simp] theorem weighAlerts_intake (before s : State) : (weighAlerts before s).intake = s.intake := rfl
@[simp] theorem weighAlerts_streams (before s : State) : (weighAlerts before s).streams = s.streams := rfl
@[simp] theorem weighAlerts_records (before s : State) : (weighAlerts before s).records = s.records := rfl
@[simp] theorem weighAlerts_table (before s : State) : (weighAlerts before s).table = s.table := rfl
@[simp] theorem weighAlerts_engine (before s : State) : (weighAlerts before s).engine = s.engine := rfl
@[simp] theorem weighAlerts_grip (before s : State) : (weighAlerts before s).grip = s.grip := rfl
@[simp] theorem weighAlerts_issuer (before s : State) : (weighAlerts before s).issuer = s.issuer := rfl
@[simp] theorem weighAlerts_axles (before s : State) : (weighAlerts before s).axles = s.axles := rfl
@[simp] theorem weighAlerts_modes (before s : State) : (weighAlerts before s).modes = s.modes := rfl
@[simp] theorem weighAlerts_filters (before s : State) : (weighAlerts before s).filters = s.filters := rfl
@[simp] theorem weighAlerts_supply (before s : State) : (weighAlerts before s).supply = s.supply := rfl
@[simp] theorem weighAlerts_exception (before s : State) : (weighAlerts before s).exception = s.exception := rfl

@[simp] theorem weighAllAlerts_pending (s : State) : (weighAllAlerts s).pending = s.pending := rfl
@[simp] theorem weighAllAlerts_now (s : State) : (weighAllAlerts s).now = s.now := rfl
@[simp] theorem weighAllAlerts_draws (s : State) : (weighAllAlerts s).draws = s.draws := rfl
@[simp] theorem weighAllAlerts_params (s : State) : (weighAllAlerts s).params = s.params := rfl
@[simp] theorem weighAllAlerts_port (s : State) : (weighAllAlerts s).port = s.port := rfl
@[simp] theorem weighAllAlerts_link (s : State) : (weighAllAlerts s).link = s.link := rfl
@[simp] theorem weighAllAlerts_recognition (s : State) : (weighAllAlerts s).recognition = s.recognition := rfl
@[simp] theorem weighAllAlerts_intake (s : State) : (weighAllAlerts s).intake = s.intake := rfl
@[simp] theorem weighAllAlerts_streams (s : State) : (weighAllAlerts s).streams = s.streams := rfl
@[simp] theorem weighAllAlerts_records (s : State) : (weighAllAlerts s).records = s.records := rfl
@[simp] theorem weighAllAlerts_table (s : State) : (weighAllAlerts s).table = s.table := rfl
@[simp] theorem weighAllAlerts_engine (s : State) : (weighAllAlerts s).engine = s.engine := rfl
@[simp] theorem weighAllAlerts_grip (s : State) : (weighAllAlerts s).grip = s.grip := rfl
@[simp] theorem weighAllAlerts_issuer (s : State) : (weighAllAlerts s).issuer = s.issuer := rfl
@[simp] theorem weighAllAlerts_axles (s : State) : (weighAllAlerts s).axles = s.axles := rfl
@[simp] theorem weighAllAlerts_modes (s : State) : (weighAllAlerts s).modes = s.modes := rfl
@[simp] theorem weighAllAlerts_filters (s : State) : (weighAllAlerts s).filters = s.filters := rfl
@[simp] theorem weighAllAlerts_supply (s : State) : (weighAllAlerts s).supply = s.supply := rfl
@[simp] theorem weighAllAlerts_exception (s : State) : (weighAllAlerts s).exception = s.exception := rfl

@[simp] theorem restartAlerts_pending (s : State) : (restartAlerts s).pending = s.pending := rfl
@[simp] theorem restartAlerts_now (s : State) : (restartAlerts s).now = s.now := rfl
@[simp] theorem restartAlerts_draws (s : State) : (restartAlerts s).draws = s.draws := rfl
@[simp] theorem restartAlerts_params (s : State) : (restartAlerts s).params = s.params := rfl
@[simp] theorem restartAlerts_port (s : State) : (restartAlerts s).port = s.port := rfl
@[simp] theorem restartAlerts_link (s : State) : (restartAlerts s).link = s.link := rfl
@[simp] theorem restartAlerts_recognition (s : State) : (restartAlerts s).recognition = s.recognition := rfl
@[simp] theorem restartAlerts_intake (s : State) : (restartAlerts s).intake = s.intake := rfl
@[simp] theorem restartAlerts_streams (s : State) : (restartAlerts s).streams = s.streams := rfl
@[simp] theorem restartAlerts_records (s : State) : (restartAlerts s).records = s.records := rfl
@[simp] theorem restartAlerts_table (s : State) : (restartAlerts s).table = s.table := rfl
@[simp] theorem restartAlerts_engine (s : State) : (restartAlerts s).engine = s.engine := rfl
@[simp] theorem restartAlerts_grip (s : State) : (restartAlerts s).grip = s.grip := rfl
@[simp] theorem restartAlerts_issuer (s : State) : (restartAlerts s).issuer = s.issuer := rfl
@[simp] theorem restartAlerts_axles (s : State) : (restartAlerts s).axles = s.axles := rfl
@[simp] theorem restartAlerts_modes (s : State) : (restartAlerts s).modes = s.modes := rfl
@[simp] theorem restartAlerts_filters (s : State) : (restartAlerts s).filters = s.filters := rfl
@[simp] theorem restartAlerts_supply (s : State) : (restartAlerts s).supply = s.supply := rfl
@[simp] theorem restartAlerts_exception (s : State) : (restartAlerts s).exception = s.exception := rfl

@[simp] theorem restartReport_pending (s : State) : (restartReport s).pending = s.pending := rfl
@[simp] theorem restartReport_now (s : State) : (restartReport s).now = s.now := rfl
@[simp] theorem restartReport_draws (s : State) : (restartReport s).draws = s.draws := rfl
@[simp] theorem restartReport_params (s : State) : (restartReport s).params = s.params := rfl
@[simp] theorem restartReport_port (s : State) : (restartReport s).port = s.port := rfl
@[simp] theorem restartReport_link (s : State) : (restartReport s).link = s.link := rfl
@[simp] theorem restartReport_recognition (s : State) : (restartReport s).recognition = s.recognition := rfl
@[simp] theorem restartReport_intake (s : State) : (restartReport s).intake = s.intake := rfl
@[simp] theorem restartReport_streams (s : State) : (restartReport s).streams = s.streams := rfl
@[simp] theorem restartReport_records (s : State) : (restartReport s).records = s.records := rfl
@[simp] theorem restartReport_table (s : State) : (restartReport s).table = s.table := rfl
@[simp] theorem restartReport_engine (s : State) : (restartReport s).engine = s.engine := rfl
@[simp] theorem restartReport_grip (s : State) : (restartReport s).grip = s.grip := rfl
@[simp] theorem restartReport_issuer (s : State) : (restartReport s).issuer = s.issuer := rfl
@[simp] theorem restartReport_axles (s : State) : (restartReport s).axles = s.axles := rfl
@[simp] theorem restartReport_modes (s : State) : (restartReport s).modes = s.modes := rfl
@[simp] theorem restartReport_filters (s : State) : (restartReport s).filters = s.filters := rfl
@[simp] theorem restartReport_supply (s : State) : (restartReport s).supply = s.supply := rfl
@[simp] theorem restartReport_exception (s : State) : (restartReport s).exception = s.exception := rfl

@[simp] theorem driveLines_pending (before s : State) : (driveLines before s).pending = s.pending := rfl
@[simp] theorem driveLines_now (before s : State) : (driveLines before s).now = s.now := rfl
@[simp] theorem driveLines_draws (before s : State) : (driveLines before s).draws = s.draws := rfl
@[simp] theorem driveLines_params (before s : State) : (driveLines before s).params = s.params := rfl
@[simp] theorem driveLines_port (before s : State) : (driveLines before s).port = s.port := rfl
@[simp] theorem driveLines_link (before s : State) : (driveLines before s).link = s.link := rfl
@[simp] theorem driveLines_recognition (before s : State) : (driveLines before s).recognition = s.recognition := rfl
@[simp] theorem driveLines_intake (before s : State) : (driveLines before s).intake = s.intake := rfl
@[simp] theorem driveLines_streams (before s : State) : (driveLines before s).streams = s.streams := rfl
@[simp] theorem driveLines_records (before s : State) : (driveLines before s).records = s.records := rfl
@[simp] theorem driveLines_table (before s : State) : (driveLines before s).table = s.table := rfl
@[simp] theorem driveLines_engine (before s : State) : (driveLines before s).engine = s.engine := rfl
@[simp] theorem driveLines_grip (before s : State) : (driveLines before s).grip = s.grip := rfl
@[simp] theorem driveLines_issuer (before s : State) : (driveLines before s).issuer = s.issuer := rfl
@[simp] theorem driveLines_axles (before s : State) : (driveLines before s).axles = s.axles := rfl
@[simp] theorem driveLines_modes (before s : State) : (driveLines before s).modes = s.modes := rfl
@[simp] theorem driveLines_filters (before s : State) : (driveLines before s).filters = s.filters := rfl
@[simp] theorem driveLines_supply (before s : State) : (driveLines before s).supply = s.supply := rfl
@[simp] theorem driveLines_exception (before s : State) : (driveLines before s).exception = s.exception := rfl

@[simp] theorem restartBlocks_pending (s : State) : (restartBlocks s).pending = s.pending := rfl
@[simp] theorem restartBlocks_now (s : State) : (restartBlocks s).now = s.now := rfl
@[simp] theorem restartBlocks_draws (s : State) : (restartBlocks s).draws = s.draws := rfl
@[simp] theorem restartBlocks_params (s : State) : (restartBlocks s).params = s.params := rfl
@[simp] theorem restartBlocks_port (s : State) : (restartBlocks s).port = s.port := rfl
@[simp] theorem restartBlocks_link (s : State) : (restartBlocks s).link = s.link := rfl
@[simp] theorem restartBlocks_recognition (s : State) : (restartBlocks s).recognition = s.recognition := rfl
@[simp] theorem restartBlocks_filters (s : State) : (restartBlocks s).filters = s.filters := rfl
@[simp] theorem restartBlocks_supply (s : State) : (restartBlocks s).supply = s.supply := rfl
@[simp] theorem restartBlocks_exception (s : State) : (restartBlocks s).exception = s.exception := rfl
@[simp] theorem restartBlocks_report (s : State) : (restartBlocks s).report = s.report := rfl

@[simp] theorem acceptTables_pending (p : Params) (s : State) : (acceptTables p s).pending = s.pending := rfl
@[simp] theorem acceptTables_now (p : Params) (s : State) : (acceptTables p s).now = s.now := rfl
@[simp] theorem acceptTables_draws (p : Params) (s : State) : (acceptTables p s).draws = s.draws := rfl
@[simp] theorem acceptTables_link (p : Params) (s : State) : (acceptTables p s).link = s.link := rfl
@[simp] theorem acceptTables_intake (p : Params) (s : State) : (acceptTables p s).intake = s.intake := rfl
@[simp] theorem acceptTables_engine (p : Params) (s : State) : (acceptTables p s).engine = s.engine := rfl
@[simp] theorem acceptTables_grip (p : Params) (s : State) : (acceptTables p s).grip = s.grip := rfl
@[simp] theorem acceptTables_issuer (p : Params) (s : State) : (acceptTables p s).issuer = s.issuer := rfl
@[simp] theorem acceptTables_axles (p : Params) (s : State) : (acceptTables p s).axles = s.axles := rfl
@[simp] theorem acceptTables_modes (p : Params) (s : State) : (acceptTables p s).modes = s.modes := rfl
@[simp] theorem acceptTables_supply (p : Params) (s : State) : (acceptTables p s).supply = s.supply := rfl
@[simp] theorem acceptTables_exception (p : Params) (s : State) : (acceptTables p s).exception = s.exception := rfl
@[simp] theorem acceptTables_report (p : Params) (s : State) : (acceptTables p s).report = s.report := rfl

@[simp] theorem acceptLink_pending (p : Params) (s : State) : (acceptLink p s).pending = s.pending := rfl
@[simp] theorem acceptLink_now (p : Params) (s : State) : (acceptLink p s).now = s.now := rfl
@[simp] theorem acceptLink_draws (p : Params) (s : State) : (acceptLink p s).draws = s.draws := rfl
@[simp] theorem acceptLink_params (p : Params) (s : State) : (acceptLink p s).params = s.params := rfl
@[simp] theorem acceptLink_port (p : Params) (s : State) : (acceptLink p s).port = s.port := rfl
@[simp] theorem acceptLink_recognition (p : Params) (s : State) : (acceptLink p s).recognition = s.recognition := rfl
@[simp] theorem acceptLink_intake (p : Params) (s : State) : (acceptLink p s).intake = s.intake := rfl
@[simp] theorem acceptLink_streams (p : Params) (s : State) : (acceptLink p s).streams = s.streams := rfl
@[simp] theorem acceptLink_records (p : Params) (s : State) : (acceptLink p s).records = s.records := rfl
@[simp] theorem acceptLink_table (p : Params) (s : State) : (acceptLink p s).table = s.table := rfl
@[simp] theorem acceptLink_engine (p : Params) (s : State) : (acceptLink p s).engine = s.engine := rfl
@[simp] theorem acceptLink_grip (p : Params) (s : State) : (acceptLink p s).grip = s.grip := rfl
@[simp] theorem acceptLink_issuer (p : Params) (s : State) : (acceptLink p s).issuer = s.issuer := rfl
@[simp] theorem acceptLink_axles (p : Params) (s : State) : (acceptLink p s).axles = s.axles := rfl
@[simp] theorem acceptLink_modes (p : Params) (s : State) : (acceptLink p s).modes = s.modes := rfl
@[simp] theorem acceptLink_filters (p : Params) (s : State) : (acceptLink p s).filters = s.filters := rfl
@[simp] theorem acceptLink_supply (p : Params) (s : State) : (acceptLink p s).supply = s.supply := rfl
@[simp] theorem acceptLink_exception (p : Params) (s : State) : (acceptLink p s).exception = s.exception := rfl

@[simp] theorem beginGap_pending (s : State) : (beginGap s).pending = s.pending := rfl
@[simp] theorem beginGap_now (s : State) : (beginGap s).now = s.now := rfl
@[simp] theorem beginGap_draws (s : State) : (beginGap s).draws = s.draws := rfl
@[simp] theorem beginGap_params (s : State) : (beginGap s).params = s.params := rfl
@[simp] theorem beginGap_port (s : State) : (beginGap s).port = s.port := rfl
@[simp] theorem beginGap_recognition (s : State) : (beginGap s).recognition = s.recognition := rfl
@[simp] theorem beginGap_intake (s : State) : (beginGap s).intake = s.intake := rfl
@[simp] theorem beginGap_streams (s : State) : (beginGap s).streams = s.streams := rfl
@[simp] theorem beginGap_records (s : State) : (beginGap s).records = s.records := rfl
@[simp] theorem beginGap_table (s : State) : (beginGap s).table = s.table := rfl
@[simp] theorem beginGap_engine (s : State) : (beginGap s).engine = s.engine := rfl
@[simp] theorem beginGap_grip (s : State) : (beginGap s).grip = s.grip := rfl
@[simp] theorem beginGap_issuer (s : State) : (beginGap s).issuer = s.issuer := rfl
@[simp] theorem beginGap_axles (s : State) : (beginGap s).axles = s.axles := rfl
@[simp] theorem beginGap_modes (s : State) : (beginGap s).modes = s.modes := rfl
@[simp] theorem beginGap_filters (s : State) : (beginGap s).filters = s.filters := rfl
@[simp] theorem beginGap_supply (s : State) : (beginGap s).supply = s.supply := rfl
@[simp] theorem beginGap_exception (s : State) : (beginGap s).exception = s.exception := rfl
@[simp] theorem beginGap_report (s : State) : (beginGap s).report = s.report := rfl

@[simp] theorem watchBus_pending (levels : List BusLevel) (s : State) : (watchBus levels s).pending = s.pending := rfl
@[simp] theorem watchBus_now (levels : List BusLevel) (s : State) : (watchBus levels s).now = s.now := rfl
@[simp] theorem watchBus_draws (levels : List BusLevel) (s : State) : (watchBus levels s).draws = s.draws := rfl
@[simp] theorem watchBus_params (levels : List BusLevel) (s : State) : (watchBus levels s).params = s.params := rfl
@[simp] theorem watchBus_port (levels : List BusLevel) (s : State) : (watchBus levels s).port = s.port := rfl
@[simp] theorem watchBus_recognition (levels : List BusLevel) (s : State) :
    (watchBus levels s).recognition = s.recognition := rfl
@[simp] theorem watchBus_intake (levels : List BusLevel) (s : State) : (watchBus levels s).intake = s.intake := rfl
@[simp] theorem watchBus_streams (levels : List BusLevel) (s : State) : (watchBus levels s).streams = s.streams := rfl
@[simp] theorem watchBus_records (levels : List BusLevel) (s : State) : (watchBus levels s).records = s.records := rfl
@[simp] theorem watchBus_table (levels : List BusLevel) (s : State) : (watchBus levels s).table = s.table := rfl
@[simp] theorem watchBus_engine (levels : List BusLevel) (s : State) : (watchBus levels s).engine = s.engine := rfl
@[simp] theorem watchBus_grip (levels : List BusLevel) (s : State) : (watchBus levels s).grip = s.grip := rfl
@[simp] theorem watchBus_issuer (levels : List BusLevel) (s : State) : (watchBus levels s).issuer = s.issuer := rfl
@[simp] theorem watchBus_axles (levels : List BusLevel) (s : State) : (watchBus levels s).axles = s.axles := rfl
@[simp] theorem watchBus_modes (levels : List BusLevel) (s : State) : (watchBus levels s).modes = s.modes := rfl
@[simp] theorem watchBus_filters (levels : List BusLevel) (s : State) : (watchBus levels s).filters = s.filters := rfl
@[simp] theorem watchBus_supply (levels : List BusLevel) (s : State) : (watchBus levels s).supply = s.supply := rfl
@[simp] theorem watchBus_exception (levels : List BusLevel) (s : State) : (watchBus levels s).exception = s.exception := rfl
@[simp] theorem watchBus_report (levels : List BusLevel) (s : State) : (watchBus levels s).report = s.report := rfl

@[simp] theorem senseSupply_pending (v : SupplyLevel) (s : State) : (senseSupply v s).pending = s.pending := rfl
@[simp] theorem senseSupply_now (v : SupplyLevel) (s : State) : (senseSupply v s).now = s.now := rfl
@[simp] theorem senseSupply_draws (v : SupplyLevel) (s : State) : (senseSupply v s).draws = s.draws := rfl
@[simp] theorem senseSupply_params (v : SupplyLevel) (s : State) : (senseSupply v s).params = s.params := rfl
@[simp] theorem senseSupply_port (v : SupplyLevel) (s : State) : (senseSupply v s).port = s.port := rfl
@[simp] theorem senseSupply_link (v : SupplyLevel) (s : State) : (senseSupply v s).link = s.link := rfl
@[simp] theorem senseSupply_recognition (v : SupplyLevel) (s : State) : (senseSupply v s).recognition = s.recognition := rfl
@[simp] theorem senseSupply_intake (v : SupplyLevel) (s : State) : (senseSupply v s).intake = s.intake := rfl
@[simp] theorem senseSupply_streams (v : SupplyLevel) (s : State) : (senseSupply v s).streams = s.streams := rfl
@[simp] theorem senseSupply_records (v : SupplyLevel) (s : State) : (senseSupply v s).records = s.records := rfl
@[simp] theorem senseSupply_table (v : SupplyLevel) (s : State) : (senseSupply v s).table = s.table := rfl
@[simp] theorem senseSupply_engine (v : SupplyLevel) (s : State) : (senseSupply v s).engine = s.engine := rfl
@[simp] theorem senseSupply_grip (v : SupplyLevel) (s : State) : (senseSupply v s).grip = s.grip := rfl
@[simp] theorem senseSupply_issuer (v : SupplyLevel) (s : State) : (senseSupply v s).issuer = s.issuer := rfl
@[simp] theorem senseSupply_axles (v : SupplyLevel) (s : State) : (senseSupply v s).axles = s.axles := rfl
@[simp] theorem senseSupply_modes (v : SupplyLevel) (s : State) : (senseSupply v s).modes = s.modes := rfl
@[simp] theorem senseSupply_filters (v : SupplyLevel) (s : State) : (senseSupply v s).filters = s.filters := rfl
@[simp] theorem senseSupply_exception (v : SupplyLevel) (s : State) : (senseSupply v s).exception = s.exception := rfl
@[simp] theorem senseSupply_report (v : SupplyLevel) (s : State) : (senseSupply v s).report = s.report := rfl

@[simp] theorem judgeLow_pending (s : State) : (judgeLow s).pending = s.pending := rfl
@[simp] theorem judgeLow_now (s : State) : (judgeLow s).now = s.now := rfl
@[simp] theorem judgeLow_draws (s : State) : (judgeLow s).draws = s.draws := rfl
@[simp] theorem judgeLow_params (s : State) : (judgeLow s).params = s.params := rfl
@[simp] theorem judgeLow_port (s : State) : (judgeLow s).port = s.port := rfl
@[simp] theorem judgeLow_link (s : State) : (judgeLow s).link = s.link := rfl
@[simp] theorem judgeLow_recognition (s : State) : (judgeLow s).recognition = s.recognition := rfl
@[simp] theorem judgeLow_intake (s : State) : (judgeLow s).intake = s.intake := rfl
@[simp] theorem judgeLow_streams (s : State) : (judgeLow s).streams = s.streams := rfl
@[simp] theorem judgeLow_records (s : State) : (judgeLow s).records = s.records := rfl
@[simp] theorem judgeLow_table (s : State) : (judgeLow s).table = s.table := rfl
@[simp] theorem judgeLow_engine (s : State) : (judgeLow s).engine = s.engine := rfl
@[simp] theorem judgeLow_grip (s : State) : (judgeLow s).grip = s.grip := rfl
@[simp] theorem judgeLow_issuer (s : State) : (judgeLow s).issuer = s.issuer := rfl
@[simp] theorem judgeLow_axles (s : State) : (judgeLow s).axles = s.axles := rfl
@[simp] theorem judgeLow_modes (s : State) : (judgeLow s).modes = s.modes := rfl
@[simp] theorem judgeLow_filters (s : State) : (judgeLow s).filters = s.filters := rfl
@[simp] theorem judgeLow_exception (s : State) : (judgeLow s).exception = s.exception := rfl
@[simp] theorem judgeLow_report (s : State) : (judgeLow s).report = s.report := rfl

@[simp] theorem judgeRestored_pending (s : State) : (judgeRestored s).pending = s.pending := rfl
@[simp] theorem judgeRestored_now (s : State) : (judgeRestored s).now = s.now := rfl
@[simp] theorem judgeRestored_draws (s : State) : (judgeRestored s).draws = s.draws := rfl
@[simp] theorem judgeRestored_params (s : State) : (judgeRestored s).params = s.params := rfl
@[simp] theorem judgeRestored_port (s : State) : (judgeRestored s).port = s.port := rfl
@[simp] theorem judgeRestored_link (s : State) : (judgeRestored s).link = s.link := rfl
@[simp] theorem judgeRestored_recognition (s : State) : (judgeRestored s).recognition = s.recognition := rfl
@[simp] theorem judgeRestored_intake (s : State) : (judgeRestored s).intake = s.intake := rfl
@[simp] theorem judgeRestored_streams (s : State) : (judgeRestored s).streams = s.streams := rfl
@[simp] theorem judgeRestored_records (s : State) : (judgeRestored s).records = s.records := rfl
@[simp] theorem judgeRestored_table (s : State) : (judgeRestored s).table = s.table := rfl
@[simp] theorem judgeRestored_engine (s : State) : (judgeRestored s).engine = s.engine := rfl
@[simp] theorem judgeRestored_grip (s : State) : (judgeRestored s).grip = s.grip := rfl
@[simp] theorem judgeRestored_issuer (s : State) : (judgeRestored s).issuer = s.issuer := rfl
@[simp] theorem judgeRestored_axles (s : State) : (judgeRestored s).axles = s.axles := rfl
@[simp] theorem judgeRestored_modes (s : State) : (judgeRestored s).modes = s.modes := rfl
@[simp] theorem judgeRestored_filters (s : State) : (judgeRestored s).filters = s.filters := rfl
@[simp] theorem judgeRestored_exception (s : State) : (judgeRestored s).exception = s.exception := rfl
@[simp] theorem judgeRestored_report (s : State) : (judgeRestored s).report = s.report := rfl

@[simp] theorem countPass_pending (sn : Snapshot) (out : PassOut) (s : State) :
    (countPass sn out s).pending = s.pending := rfl
@[simp] theorem countPass_now (sn : Snapshot) (out : PassOut) (s : State) : (countPass sn out s).now = s.now := rfl
@[simp] theorem countPass_draws (sn : Snapshot) (out : PassOut) (s : State) : (countPass sn out s).draws = s.draws := rfl
@[simp] theorem countPass_params (sn : Snapshot) (out : PassOut) (s : State) : (countPass sn out s).params = s.params := rfl
@[simp] theorem countPass_port (sn : Snapshot) (out : PassOut) (s : State) : (countPass sn out s).port = s.port := rfl
@[simp] theorem countPass_link (sn : Snapshot) (out : PassOut) (s : State) : (countPass sn out s).link = s.link := rfl
@[simp] theorem countPass_recognition (sn : Snapshot) (out : PassOut) (s : State) :
    (countPass sn out s).recognition = s.recognition := rfl
@[simp] theorem countPass_intake (sn : Snapshot) (out : PassOut) (s : State) : (countPass sn out s).intake = s.intake := rfl
@[simp] theorem countPass_streams (sn : Snapshot) (out : PassOut) (s : State) :
    (countPass sn out s).streams = s.streams := rfl
@[simp] theorem countPass_records (sn : Snapshot) (out : PassOut) (s : State) :
    (countPass sn out s).records = s.records := rfl
@[simp] theorem countPass_table (sn : Snapshot) (out : PassOut) (s : State) : (countPass sn out s).table = s.table := rfl
@[simp] theorem countPass_grip (sn : Snapshot) (out : PassOut) (s : State) : (countPass sn out s).grip = s.grip := rfl
@[simp] theorem countPass_issuer (sn : Snapshot) (out : PassOut) (s : State) : (countPass sn out s).issuer = s.issuer := rfl
@[simp] theorem countPass_axles (sn : Snapshot) (out : PassOut) (s : State) : (countPass sn out s).axles = s.axles := rfl
@[simp] theorem countPass_modes (sn : Snapshot) (out : PassOut) (s : State) : (countPass sn out s).modes = s.modes := rfl
@[simp] theorem countPass_filters (sn : Snapshot) (out : PassOut) (s : State) :
    (countPass sn out s).filters = s.filters := rfl
@[simp] theorem countPass_supply (sn : Snapshot) (out : PassOut) (s : State) : (countPass sn out s).supply = s.supply := rfl
@[simp] theorem countPass_exception (sn : Snapshot) (out : PassOut) (s : State) :
    (countPass sn out s).exception = s.exception := rfl

@[simp] theorem beginGap_link (s : State) : (beginGap s).link = { s.link with bus := .gap 0 } := rfl

end Sys2Proof.Machine
end

