-- ==== Sys2Proof/Laws/Frames.lean ====
section
/-! SUPPORT. The frame of every shared operation: the parts of the state that it leaves as they were, one lemma for each
operation. Proofs cite these and do not unfold an operation to learn what it keeps. -/

namespace Sys2Proof.Machine

/-! ## The link controller -/

@[simp] theorem discardOlder_frame (k : OwnKind) (s : State) :
    (discardOlder k s).pending = s.pending ∧ (discardOlder k s).now = s.now ∧ (discardOlder k s).draws = s.draws ∧
    (discardOlder k s).params = s.params ∧ (discardOlder k s).port = s.port ∧ (discardOlder k s).link = s.link ∧
    (discardOlder k s).recognition = s.recognition ∧ (discardOlder k s).intake = s.intake ∧
    (discardOlder k s).streams = s.streams ∧ (discardOlder k s).records = s.records ∧
    (discardOlder k s).table = s.table ∧ (discardOlder k s).engine = s.engine ∧ (discardOlder k s).grip = s.grip ∧
    (discardOlder k s).issuer = s.issuer ∧ (discardOlder k s).axles = s.axles ∧ (discardOlder k s).modes = s.modes ∧
    (discardOlder k s).filters = s.filters ∧ (discardOlder k s).supply = s.supply ∧
    (discardOlder k s).exception = s.exception :=
  by
  unfold discardOlder
  repeat' split
  all_goals simp

@[simp] theorem takePlacement_frame (f : OutFrame) (s : State) :
    (takePlacement f s).pending = s.pending ∧ (takePlacement f s).now = s.now ∧ (takePlacement f s).draws = s.draws ∧
    (takePlacement f s).params = s.params ∧ (takePlacement f s).port = s.port ∧
    (takePlacement f s).recognition = s.recognition ∧ (takePlacement f s).intake = s.intake ∧
    (takePlacement f s).streams = s.streams ∧ (takePlacement f s).records = s.records ∧
    (takePlacement f s).table = s.table ∧ (takePlacement f s).engine = s.engine ∧ (takePlacement f s).grip = s.grip ∧
    (takePlacement f s).issuer = s.issuer ∧ (takePlacement f s).axles = s.axles ∧ (takePlacement f s).modes = s.modes ∧
    (takePlacement f s).filters = s.filters ∧ (takePlacement f s).supply = s.supply ∧
    (takePlacement f s).exception = s.exception :=
  by
  unfold takePlacement
  repeat' split
  all_goals simp

@[simp] theorem placeFrame_frame (entering : Bool) (f : OutFrame) (s : State) :
    (placeFrame entering f s).pending = s.pending ∧ (placeFrame entering f s).now = s.now ∧
    (placeFrame entering f s).draws = s.draws ∧ (placeFrame entering f s).params = s.params ∧
    (placeFrame entering f s).port = s.port ∧ (placeFrame entering f s).recognition = s.recognition ∧
    (placeFrame entering f s).intake = s.intake ∧ (placeFrame entering f s).streams = s.streams ∧
    (placeFrame entering f s).records = s.records ∧ (placeFrame entering f s).table = s.table ∧
    (placeFrame entering f s).engine = s.engine ∧ (placeFrame entering f s).grip = s.grip ∧
    (placeFrame entering f s).issuer = s.issuer ∧ (placeFrame entering f s).axles = s.axles ∧
    (placeFrame entering f s).modes = s.modes ∧ (placeFrame entering f s).filters = s.filters ∧
    (placeFrame entering f s).supply = s.supply ∧ (placeFrame entering f s).exception = s.exception :=
  by
  unfold placeFrame
  repeat' split
  all_goals simp

@[simp] theorem returnFrame_frame (f : OutFrame) (s : State) :
    (returnFrame f s).pending = s.pending ∧ (returnFrame f s).now = s.now ∧ (returnFrame f s).draws = s.draws ∧
    (returnFrame f s).params = s.params ∧ (returnFrame f s).port = s.port ∧
    (returnFrame f s).recognition = s.recognition ∧ (returnFrame f s).intake = s.intake ∧
    (returnFrame f s).streams = s.streams ∧ (returnFrame f s).records = s.records ∧ (returnFrame f s).table = s.table ∧
    (returnFrame f s).engine = s.engine ∧ (returnFrame f s).grip = s.grip ∧ (returnFrame f s).issuer = s.issuer ∧
    (returnFrame f s).axles = s.axles ∧ (returnFrame f s).modes = s.modes ∧ (returnFrame f s).filters = s.filters ∧
    (returnFrame f s).supply = s.supply ∧ (returnFrame f s).exception = s.exception :=
  by
  unfold returnFrame
  repeat' split
  all_goals simp

@[simp] theorem startLowest_frame (s : State) :
    (startLowest s).pending = s.pending ∧ (startLowest s).now = s.now ∧ (startLowest s).draws = s.draws ∧
    (startLowest s).params = s.params ∧ (startLowest s).port = s.port ∧ (startLowest s).recognition = s.recognition ∧
    (startLowest s).intake = s.intake ∧ (startLowest s).streams = s.streams ∧ (startLowest s).records = s.records ∧
    (startLowest s).table = s.table ∧ (startLowest s).engine = s.engine ∧ (startLowest s).grip = s.grip ∧
    (startLowest s).issuer = s.issuer ∧ (startLowest s).axles = s.axles ∧ (startLowest s).modes = s.modes ∧
    (startLowest s).filters = s.filters ∧ (startLowest s).supply = s.supply ∧ (startLowest s).exception = s.exception ∧
    (startLowest s).report = s.report :=
  by
  unfold startLowest
  repeat' split
  all_goals simp

@[simp] theorem endQuietPhase_frame (s : State) :
    (endQuietPhase s).pending = s.pending ∧ (endQuietPhase s).now = s.now ∧ (endQuietPhase s).draws = s.draws ∧
    (endQuietPhase s).params = s.params ∧ (endQuietPhase s).port = s.port ∧
    (endQuietPhase s).recognition = s.recognition ∧ (endQuietPhase s).intake = s.intake ∧
    (endQuietPhase s).streams = s.streams ∧ (endQuietPhase s).records = s.records ∧ (endQuietPhase s).table = s.table ∧
    (endQuietPhase s).engine = s.engine ∧ (endQuietPhase s).grip = s.grip ∧ (endQuietPhase s).issuer = s.issuer ∧
    (endQuietPhase s).axles = s.axles ∧ (endQuietPhase s).modes = s.modes ∧ (endQuietPhase s).filters = s.filters ∧
    (endQuietPhase s).supply = s.supply ∧ (endQuietPhase s).exception = s.exception ∧
    (endQuietPhase s).report = s.report :=
  by
  unfold endQuietPhase
  repeat' split
  all_goals simp

@[simp] theorem enterMuted_frame (s : State) :
    (enterMuted s).pending = s.pending ∧ (enterMuted s).now = s.now ∧ (enterMuted s).draws = s.draws ∧
    (enterMuted s).params = s.params ∧ (enterMuted s).port = s.port ∧ (enterMuted s).recognition = s.recognition ∧
    (enterMuted s).intake = s.intake ∧ (enterMuted s).streams = s.streams ∧ (enterMuted s).records = s.records ∧
    (enterMuted s).table = s.table ∧ (enterMuted s).engine = s.engine ∧ (enterMuted s).grip = s.grip ∧
    (enterMuted s).issuer = s.issuer ∧ (enterMuted s).axles = s.axles ∧ (enterMuted s).modes = s.modes ∧
    (enterMuted s).filters = s.filters ∧ (enterMuted s).supply = s.supply ∧ (enterMuted s).exception = s.exception :=
  by
  unfold enterMuted
  repeat' split
  all_goals simp

@[simp] theorem leaveMuted_frame (s : State) :
    (leaveMuted s).pending = s.pending ∧ (leaveMuted s).now = s.now ∧ (leaveMuted s).draws = s.draws ∧
    (leaveMuted s).params = s.params ∧ (leaveMuted s).port = s.port ∧ (leaveMuted s).recognition = s.recognition ∧
    (leaveMuted s).intake = s.intake ∧ (leaveMuted s).streams = s.streams ∧ (leaveMuted s).records = s.records ∧
    (leaveMuted s).table = s.table ∧ (leaveMuted s).engine = s.engine ∧ (leaveMuted s).grip = s.grip ∧
    (leaveMuted s).issuer = s.issuer ∧ (leaveMuted s).axles = s.axles ∧ (leaveMuted s).modes = s.modes ∧
    (leaveMuted s).filters = s.filters ∧ (leaveMuted s).supply = s.supply ∧ (leaveMuted s).exception = s.exception ∧
    (leaveMuted s).report = s.report :=
  by
  unfold leaveMuted
  repeat' split
  all_goals simp

@[simp] theorem lengthenRun_frame (s : State) :
    (lengthenRun s).pending = s.pending ∧ (lengthenRun s).now = s.now ∧ (lengthenRun s).draws = s.draws ∧
    (lengthenRun s).params = s.params ∧ (lengthenRun s).port = s.port ∧ (lengthenRun s).recognition = s.recognition ∧
    (lengthenRun s).intake = s.intake ∧ (lengthenRun s).streams = s.streams ∧ (lengthenRun s).records = s.records ∧
    (lengthenRun s).table = s.table ∧ (lengthenRun s).engine = s.engine ∧ (lengthenRun s).grip = s.grip ∧
    (lengthenRun s).issuer = s.issuer ∧ (lengthenRun s).axles = s.axles ∧ (lengthenRun s).modes = s.modes ∧
    (lengthenRun s).filters = s.filters ∧ (lengthenRun s).supply = s.supply ∧ (lengthenRun s).exception = s.exception ∧
    (lengthenRun s).report = s.report :=
  by
  unfold lengthenRun
  repeat' split
  all_goals simp

@[simp] theorem moveCleanRun_frame (f : WireFrame) (s : State) :
    (moveCleanRun f s).pending = s.pending ∧ (moveCleanRun f s).now = s.now ∧ (moveCleanRun f s).draws = s.draws ∧
    (moveCleanRun f s).params = s.params ∧ (moveCleanRun f s).port = s.port ∧
    (moveCleanRun f s).recognition = s.recognition ∧ (moveCleanRun f s).intake = s.intake ∧
    (moveCleanRun f s).streams = s.streams ∧ (moveCleanRun f s).records = s.records ∧
    (moveCleanRun f s).table = s.table ∧ (moveCleanRun f s).engine = s.engine ∧ (moveCleanRun f s).grip = s.grip ∧
    (moveCleanRun f s).issuer = s.issuer ∧ (moveCleanRun f s).axles = s.axles ∧ (moveCleanRun f s).modes = s.modes ∧
    (moveCleanRun f s).filters = s.filters ∧ (moveCleanRun f s).supply = s.supply ∧
    (moveCleanRun f s).exception = s.exception ∧ (moveCleanRun f s).report = s.report :=
  by
  unfold moveCleanRun
  repeat' split
  all_goals simp

@[simp] theorem discardInvalid_frame (s : State) :
    (discardInvalid s).pending = s.pending ∧ (discardInvalid s).now = s.now ∧ (discardInvalid s).draws = s.draws ∧
    (discardInvalid s).params = s.params ∧ (discardInvalid s).port = s.port ∧
    (discardInvalid s).recognition = s.recognition ∧ (discardInvalid s).intake = s.intake ∧
    (discardInvalid s).streams = s.streams ∧ (discardInvalid s).records = s.records ∧
    (discardInvalid s).table = s.table ∧ (discardInvalid s).engine = s.engine ∧ (discardInvalid s).grip = s.grip ∧
    (discardInvalid s).issuer = s.issuer ∧ (discardInvalid s).axles = s.axles ∧ (discardInvalid s).modes = s.modes ∧
    (discardInvalid s).filters = s.filters ∧ (discardInvalid s).supply = s.supply ∧
    (discardInvalid s).exception = s.exception :=
  by
  unfold discardInvalid
  repeat' split
  all_goals simp

@[simp] theorem dropInvalid_frame (s : State) :
    (dropInvalid s).pending = s.pending ∧ (dropInvalid s).now = s.now ∧ (dropInvalid s).draws = s.draws ∧
    (dropInvalid s).params = s.params ∧ (dropInvalid s).port = s.port ∧ (dropInvalid s).recognition = s.recognition ∧
    (dropInvalid s).intake = s.intake ∧ (dropInvalid s).streams = s.streams ∧ (dropInvalid s).records = s.records ∧
    (dropInvalid s).table = s.table ∧ (dropInvalid s).engine = s.engine ∧ (dropInvalid s).grip = s.grip ∧
    (dropInvalid s).issuer = s.issuer ∧ (dropInvalid s).axles = s.axles ∧ (dropInvalid s).modes = s.modes ∧
    (dropInvalid s).filters = s.filters ∧ (dropInvalid s).supply = s.supply ∧ (dropInvalid s).exception = s.exception :=
  by
  unfold dropInvalid
  repeat' split
  all_goals simp

@[simp] theorem admitFrame_frame (f : WireFrame) (s : State) :
    (admitFrame f s).pending = s.pending ∧ (admitFrame f s).now = s.now ∧ (admitFrame f s).draws = s.draws ∧
    (admitFrame f s).params = s.params ∧ (admitFrame f s).port = s.port ∧ (admitFrame f s).link = s.link ∧
    (admitFrame f s).recognition = s.recognition ∧ (admitFrame f s).streams = s.streams ∧
    (admitFrame f s).records = s.records ∧ (admitFrame f s).table = s.table ∧ (admitFrame f s).engine = s.engine ∧
    (admitFrame f s).grip = s.grip ∧ (admitFrame f s).issuer = s.issuer ∧ (admitFrame f s).axles = s.axles ∧
    (admitFrame f s).modes = s.modes ∧ (admitFrame f s).filters = s.filters ∧ (admitFrame f s).supply = s.supply ∧
    (admitFrame f s).exception = s.exception :=
  by
  unfold admitFrame
  repeat' split
  all_goals simp

@[simp] theorem abortFrame_frame (f : OutFrame) (s : State) :
    (abortFrame f s).pending = s.pending ∧ (abortFrame f s).now = s.now ∧ (abortFrame f s).draws = s.draws ∧
    (abortFrame f s).params = s.params ∧ (abortFrame f s).port = s.port ∧
    (abortFrame f s).recognition = s.recognition ∧ (abortFrame f s).intake = s.intake ∧
    (abortFrame f s).streams = s.streams ∧ (abortFrame f s).records = s.records ∧ (abortFrame f s).table = s.table ∧
    (abortFrame f s).engine = s.engine ∧ (abortFrame f s).grip = s.grip ∧ (abortFrame f s).issuer = s.issuer ∧
    (abortFrame f s).axles = s.axles ∧ (abortFrame f s).modes = s.modes ∧ (abortFrame f s).filters = s.filters ∧
    (abortFrame f s).supply = s.supply ∧ (abortFrame f s).exception = s.exception :=
  by simp [abortFrame]

@[simp] theorem loseFrame_frame (f : OutFrame) (s : State) :
    (loseFrame f s).pending = s.pending ∧ (loseFrame f s).now = s.now ∧ (loseFrame f s).draws = s.draws ∧
    (loseFrame f s).params = s.params ∧ (loseFrame f s).port = s.port ∧ (loseFrame f s).recognition = s.recognition ∧
    (loseFrame f s).intake = s.intake ∧ (loseFrame f s).streams = s.streams ∧ (loseFrame f s).records = s.records ∧
    (loseFrame f s).table = s.table ∧ (loseFrame f s).engine = s.engine ∧ (loseFrame f s).grip = s.grip ∧
    (loseFrame f s).issuer = s.issuer ∧ (loseFrame f s).axles = s.axles ∧ (loseFrame f s).modes = s.modes ∧
    (loseFrame f s).filters = s.filters ∧ (loseFrame f s).supply = s.supply ∧ (loseFrame f s).exception = s.exception :=
  by simp [loseFrame]

@[simp] theorem loseArbitration_frame (echo : List BusLevel) (s : State) :
    (loseArbitration echo s).pending = s.pending ∧ (loseArbitration echo s).now = s.now ∧
    (loseArbitration echo s).draws = s.draws ∧ (loseArbitration echo s).params = s.params ∧
    (loseArbitration echo s).port = s.port ∧ (loseArbitration echo s).recognition = s.recognition ∧
    (loseArbitration echo s).intake = s.intake ∧ (loseArbitration echo s).streams = s.streams ∧
    (loseArbitration echo s).records = s.records ∧ (loseArbitration echo s).table = s.table ∧
    (loseArbitration echo s).engine = s.engine ∧ (loseArbitration echo s).grip = s.grip ∧
    (loseArbitration echo s).issuer = s.issuer ∧ (loseArbitration echo s).axles = s.axles ∧
    (loseArbitration echo s).modes = s.modes ∧ (loseArbitration echo s).filters = s.filters ∧
    (loseArbitration echo s).supply = s.supply ∧ (loseArbitration echo s).exception = s.exception :=
  by
  unfold loseArbitration whenEchoed
  repeat' split
  all_goals simp

@[simp] theorem offerNow_frame (s : State) :
    (offerNow s).pending = s.pending ∧ (offerNow s).now = s.now ∧ (offerNow s).draws = s.draws ∧
    (offerNow s).params = s.params ∧ (offerNow s).port = s.port ∧ (offerNow s).recognition = s.recognition ∧
    (offerNow s).intake = s.intake ∧ (offerNow s).streams = s.streams ∧ (offerNow s).records = s.records ∧
    (offerNow s).table = s.table ∧ (offerNow s).engine = s.engine ∧ (offerNow s).grip = s.grip ∧
    (offerNow s).issuer = s.issuer ∧ (offerNow s).axles = s.axles ∧ (offerNow s).modes = s.modes ∧
    (offerNow s).filters = s.filters ∧ (offerNow s).supply = s.supply ∧ (offerNow s).exception = s.exception ∧
    (offerNow s).report = s.report :=
  by
  unfold offerNow
  repeat' split
  all_goals simp

@[simp] theorem makeOffer_frame (levels : List BusLevel) (s : State) :
    (makeOffer levels s).pending = s.pending ∧ (makeOffer levels s).now = s.now ∧
    (makeOffer levels s).draws = s.draws ∧ (makeOffer levels s).params = s.params ∧
    (makeOffer levels s).port = s.port ∧ (makeOffer levels s).recognition = s.recognition ∧
    (makeOffer levels s).intake = s.intake ∧ (makeOffer levels s).streams = s.streams ∧
    (makeOffer levels s).records = s.records ∧ (makeOffer levels s).table = s.table ∧
    (makeOffer levels s).engine = s.engine ∧ (makeOffer levels s).grip = s.grip ∧
    (makeOffer levels s).issuer = s.issuer ∧ (makeOffer levels s).axles = s.axles ∧
    (makeOffer levels s).modes = s.modes ∧ (makeOffer levels s).filters = s.filters ∧
    (makeOffer levels s).supply = s.supply ∧ (makeOffer levels s).exception = s.exception ∧
    (makeOffer levels s).report = s.report :=
  by simp [makeOffer]

/-! ## The report unit -/

@[simp] theorem placeStatus_frame (entering : Bool) (s : State) :
    (placeStatus entering s).pending = s.pending ∧ (placeStatus entering s).now = s.now ∧
    (placeStatus entering s).params = s.params ∧ (placeStatus entering s).port = s.port ∧
    (placeStatus entering s).recognition = s.recognition ∧ (placeStatus entering s).intake = s.intake ∧
    (placeStatus entering s).records = s.records ∧ (placeStatus entering s).table = s.table ∧
    (placeStatus entering s).engine = s.engine ∧ (placeStatus entering s).grip = s.grip ∧
    (placeStatus entering s).issuer = s.issuer ∧ (placeStatus entering s).axles = s.axles ∧
    (placeStatus entering s).modes = s.modes ∧ (placeStatus entering s).filters = s.filters ∧
    (placeStatus entering s).exception = s.exception :=
  by simp [placeStatus]

@[simp] theorem statusDelivered_frame (q : BitVec 32) (s : State) :
    (statusDelivered q s).pending = s.pending ∧ (statusDelivered q s).now = s.now ∧
    (statusDelivered q s).draws = s.draws ∧ (statusDelivered q s).params = s.params ∧
    (statusDelivered q s).port = s.port ∧ (statusDelivered q s).link = s.link ∧
    (statusDelivered q s).recognition = s.recognition ∧ (statusDelivered q s).intake = s.intake ∧
    (statusDelivered q s).records = s.records ∧ (statusDelivered q s).table = s.table ∧
    (statusDelivered q s).engine = s.engine ∧ (statusDelivered q s).grip = s.grip ∧
    (statusDelivered q s).issuer = s.issuer ∧ (statusDelivered q s).axles = s.axles ∧
    (statusDelivered q s).modes = s.modes ∧ (statusDelivered q s).filters = s.filters ∧
    (statusDelivered q s).exception = s.exception ∧ (statusDelivered q s).report = s.report :=
  by
  simp only [statusDelivered]
  repeat' split
  all_goals simp

@[simp] theorem findLeading_frame (entering : Bool) (before s : State) :
    (findLeading entering before s).pending = s.pending ∧ (findLeading entering before s).now = s.now ∧
    (findLeading entering before s).params = s.params ∧ (findLeading entering before s).port = s.port ∧
    (findLeading entering before s).recognition = s.recognition ∧ (findLeading entering before s).intake = s.intake ∧
    (findLeading entering before s).streams = s.streams ∧ (findLeading entering before s).records = s.records ∧
    (findLeading entering before s).table = s.table ∧ (findLeading entering before s).engine = s.engine ∧
    (findLeading entering before s).grip = s.grip ∧ (findLeading entering before s).issuer = s.issuer ∧
    (findLeading entering before s).axles = s.axles ∧ (findLeading entering before s).modes = s.modes ∧
    (findLeading entering before s).filters = s.filters ∧ (findLeading entering before s).supply = s.supply ∧
    (findLeading entering before s).exception = s.exception :=
  by
  simp only [findLeading]
  repeat' split
  all_goals simp

@[simp] theorem reportChanges_frame (entering : Bool) (before s : State) :
    (reportChanges entering before s).pending = s.pending ∧ (reportChanges entering before s).now = s.now ∧
    (reportChanges entering before s).params = s.params ∧ (reportChanges entering before s).port = s.port ∧
    (reportChanges entering before s).recognition = s.recognition ∧
    (reportChanges entering before s).intake = s.intake ∧ (reportChanges entering before s).records = s.records ∧
    (reportChanges entering before s).table = s.table ∧ (reportChanges entering before s).engine = s.engine ∧
    (reportChanges entering before s).grip = s.grip ∧ (reportChanges entering before s).issuer = s.issuer ∧
    (reportChanges entering before s).axles = s.axles ∧ (reportChanges entering before s).modes = s.modes ∧
    (reportChanges entering before s).filters = s.filters ∧ (reportChanges entering before s).exception = s.exception :=
  by
  unfold reportChanges
  repeat' split
  all_goals simp

@[simp] theorem settle_frame (before s : State) :
    (settle before s).pending = s.pending ∧ (settle before s).now = s.now ∧ (settle before s).params = s.params ∧
    (settle before s).port = s.port ∧ (settle before s).recognition = s.recognition ∧
    (settle before s).intake = s.intake ∧ (settle before s).records = s.records ∧ (settle before s).table = s.table ∧
    (settle before s).engine = s.engine ∧ (settle before s).grip = s.grip ∧ (settle before s).issuer = s.issuer ∧
    (settle before s).axles = s.axles ∧ (settle before s).modes = s.modes ∧ (settle before s).filters = s.filters ∧
    (settle before s).exception = s.exception :=
  by
  simp only [settle]
  repeat' split
  all_goals simp

@[simp] theorem fillSlot_frame (i : SlotId) (c : Capture) (s : State) :
    (fillSlot i c s).pending = s.pending ∧ (fillSlot i c s).now = s.now ∧ (fillSlot i c s).draws = s.draws ∧
    (fillSlot i c s).params = s.params ∧ (fillSlot i c s).port = s.port ∧ (fillSlot i c s).link = s.link ∧
    (fillSlot i c s).recognition = s.recognition ∧ (fillSlot i c s).intake = s.intake ∧
    (fillSlot i c s).streams = s.streams ∧ (fillSlot i c s).records = s.records ∧ (fillSlot i c s).table = s.table ∧
    (fillSlot i c s).engine = s.engine ∧ (fillSlot i c s).grip = s.grip ∧ (fillSlot i c s).issuer = s.issuer ∧
    (fillSlot i c s).axles = s.axles ∧ (fillSlot i c s).modes = s.modes ∧ (fillSlot i c s).filters = s.filters ∧
    (fillSlot i c s).supply = s.supply ∧ (fillSlot i c s).exception = s.exception :=
  by cases i <;> simp [fillSlot]

@[simp] theorem releaseSlot_frame (i : SlotId) (s : State) :
    (releaseSlot i s).pending = s.pending ∧ (releaseSlot i s).now = s.now ∧ (releaseSlot i s).draws = s.draws ∧
    (releaseSlot i s).params = s.params ∧ (releaseSlot i s).port = s.port ∧ (releaseSlot i s).link = s.link ∧
    (releaseSlot i s).recognition = s.recognition ∧ (releaseSlot i s).intake = s.intake ∧
    (releaseSlot i s).streams = s.streams ∧ (releaseSlot i s).records = s.records ∧ (releaseSlot i s).table = s.table ∧
    (releaseSlot i s).engine = s.engine ∧ (releaseSlot i s).grip = s.grip ∧ (releaseSlot i s).issuer = s.issuer ∧
    (releaseSlot i s).axles = s.axles ∧ (releaseSlot i s).modes = s.modes ∧ (releaseSlot i s).filters = s.filters ∧
    (releaseSlot i s).supply = s.supply ∧ (releaseSlot i s).exception = s.exception :=
  by cases i <;> simp [releaseSlot]

@[simp] theorem fillRequest_frame (s : State) :
    (fillRequest s).pending = s.pending ∧ (fillRequest s).now = s.now ∧ (fillRequest s).draws = s.draws ∧
    (fillRequest s).params = s.params ∧ (fillRequest s).port = s.port ∧ (fillRequest s).link = s.link ∧
    (fillRequest s).recognition = s.recognition ∧ (fillRequest s).intake = s.intake ∧
    (fillRequest s).streams = s.streams ∧ (fillRequest s).records = s.records ∧ (fillRequest s).table = s.table ∧
    (fillRequest s).engine = s.engine ∧ (fillRequest s).grip = s.grip ∧ (fillRequest s).issuer = s.issuer ∧
    (fillRequest s).axles = s.axles ∧ (fillRequest s).modes = s.modes ∧ (fillRequest s).filters = s.filters ∧
    (fillRequest s).supply = s.supply ∧ (fillRequest s).exception = s.exception :=
  by
  unfold fillRequest
  repeat' split
  all_goals simp

@[simp] theorem fillIfStill_frame (s : State) :
    (fillIfStill s).pending = s.pending ∧ (fillIfStill s).now = s.now ∧ (fillIfStill s).draws = s.draws ∧
    (fillIfStill s).params = s.params ∧ (fillIfStill s).port = s.port ∧ (fillIfStill s).link = s.link ∧
    (fillIfStill s).recognition = s.recognition ∧ (fillIfStill s).intake = s.intake ∧
    (fillIfStill s).streams = s.streams ∧ (fillIfStill s).records = s.records ∧ (fillIfStill s).table = s.table ∧
    (fillIfStill s).engine = s.engine ∧ (fillIfStill s).grip = s.grip ∧ (fillIfStill s).issuer = s.issuer ∧
    (fillIfStill s).axles = s.axles ∧ (fillIfStill s).modes = s.modes ∧ (fillIfStill s).filters = s.filters ∧
    (fillIfStill s).supply = s.supply ∧ (fillIfStill s).exception = s.exception :=
  by
  unfold fillIfStill
  repeat' split
  all_goals simp

@[simp] theorem setRequest_frame (src : TriggerSource) (s : State) :
    (setRequest src s).pending = s.pending ∧ (setRequest src s).now = s.now ∧ (setRequest src s).draws = s.draws ∧
    (setRequest src s).params = s.params ∧ (setRequest src s).port = s.port ∧ (setRequest src s).link = s.link ∧
    (setRequest src s).recognition = s.recognition ∧ (setRequest src s).intake = s.intake ∧
    (setRequest src s).streams = s.streams ∧ (setRequest src s).records = s.records ∧
    (setRequest src s).table = s.table ∧ (setRequest src s).engine = s.engine ∧ (setRequest src s).grip = s.grip ∧
    (setRequest src s).issuer = s.issuer ∧ (setRequest src s).axles = s.axles ∧ (setRequest src s).modes = s.modes ∧
    (setRequest src s).filters = s.filters ∧ (setRequest src s).supply = s.supply ∧
    (setRequest src s).exception = s.exception :=
  by
  unfold setRequest
  repeat' split
  all_goals simp

@[simp] theorem takeTrigger_frame (src : TriggerSource) (s : State) :
    (takeTrigger src s).pending = s.pending ∧ (takeTrigger src s).now = s.now ∧ (takeTrigger src s).draws = s.draws ∧
    (takeTrigger src s).params = s.params ∧ (takeTrigger src s).port = s.port ∧ (takeTrigger src s).link = s.link ∧
    (takeTrigger src s).recognition = s.recognition ∧ (takeTrigger src s).intake = s.intake ∧
    (takeTrigger src s).streams = s.streams ∧ (takeTrigger src s).records = s.records ∧
    (takeTrigger src s).table = s.table ∧ (takeTrigger src s).engine = s.engine ∧ (takeTrigger src s).grip = s.grip ∧
    (takeTrigger src s).issuer = s.issuer ∧ (takeTrigger src s).axles = s.axles ∧ (takeTrigger src s).modes = s.modes ∧
    (takeTrigger src s).filters = s.filters ∧ (takeTrigger src s).supply = s.supply ∧
    (takeTrigger src s).exception = s.exception :=
  by
  unfold takeTrigger
  repeat' split
  all_goals simp

@[simp] theorem sendReply_frame (r : Reply) (s : State) :
    (sendReply r s).pending = s.pending ∧ (sendReply r s).now = s.now ∧ (sendReply r s).params = s.params ∧
    (sendReply r s).port = s.port ∧ (sendReply r s).recognition = s.recognition ∧ (sendReply r s).intake = s.intake ∧
    (sendReply r s).streams = s.streams ∧ (sendReply r s).records = s.records ∧ (sendReply r s).table = s.table ∧
    (sendReply r s).engine = s.engine ∧ (sendReply r s).grip = s.grip ∧ (sendReply r s).issuer = s.issuer ∧
    (sendReply r s).axles = s.axles ∧ (sendReply r s).modes = s.modes ∧ (sendReply r s).filters = s.filters ∧
    (sendReply r s).supply = s.supply ∧ (sendReply r s).exception = s.exception :=
  by
  unfold sendReply
  repeat' split
  all_goals simp

@[simp] theorem replyDelivered_frame (s : State) :
    (replyDelivered s).pending = s.pending ∧ (replyDelivered s).now = s.now ∧ (replyDelivered s).params = s.params ∧
    (replyDelivered s).port = s.port ∧ (replyDelivered s).recognition = s.recognition ∧
    (replyDelivered s).intake = s.intake ∧ (replyDelivered s).streams = s.streams ∧
    (replyDelivered s).records = s.records ∧ (replyDelivered s).table = s.table ∧
    (replyDelivered s).engine = s.engine ∧ (replyDelivered s).grip = s.grip ∧ (replyDelivered s).issuer = s.issuer ∧
    (replyDelivered s).axles = s.axles ∧ (replyDelivered s).modes = s.modes ∧ (replyDelivered s).filters = s.filters ∧
    (replyDelivered s).supply = s.supply ∧ (replyDelivered s).exception = s.exception :=
  by
  unfold replyDelivered
  repeat' split
  all_goals simp

@[simp] theorem noteAlert_frame (number : Word16) (s : State) :
    (noteAlert number s).pending = s.pending ∧ (noteAlert number s).now = s.now ∧
    (noteAlert number s).draws = s.draws ∧ (noteAlert number s).params = s.params ∧
    (noteAlert number s).port = s.port ∧ (noteAlert number s).link = s.link ∧
    (noteAlert number s).recognition = s.recognition ∧ (noteAlert number s).intake = s.intake ∧
    (noteAlert number s).streams = s.streams ∧ (noteAlert number s).records = s.records ∧
    (noteAlert number s).table = s.table ∧ (noteAlert number s).engine = s.engine ∧
    (noteAlert number s).grip = s.grip ∧ (noteAlert number s).issuer = s.issuer ∧
    (noteAlert number s).axles = s.axles ∧ (noteAlert number s).modes = s.modes ∧
    (noteAlert number s).filters = s.filters ∧ (noteAlert number s).supply = s.supply ∧
    (noteAlert number s).exception = s.exception :=
  by
  unfold noteAlert
  repeat' split
  all_goals simp

@[simp] theorem serveQuery_frame (answer : Reply) (s : State) :
    (serveQuery answer s s).pending = s.pending ∧ (serveQuery answer s s).now = s.now ∧
    (serveQuery answer s s).params = s.params ∧ (serveQuery answer s s).port = s.port ∧
    (serveQuery answer s s).recognition = s.recognition ∧ (serveQuery answer s s).intake = s.intake ∧
    (serveQuery answer s s).streams = s.streams ∧ (serveQuery answer s s).records = s.records ∧
    (serveQuery answer s s).table = s.table ∧ (serveQuery answer s s).engine = s.engine ∧
    (serveQuery answer s s).grip = s.grip ∧ (serveQuery answer s s).issuer = s.issuer ∧
    (serveQuery answer s s).axles = s.axles ∧ (serveQuery answer s s).modes = s.modes ∧
    (serveQuery answer s s).filters = s.filters ∧ (serveQuery answer s s).supply = s.supply ∧
    (serveQuery answer s s).exception = s.exception :=
  by
  unfold serveQuery
  repeat' split
  all_goals simp

@[simp] theorem queryReadCapture_frame (v : Word16) (s : State) :
    (queryReadCapture v s).pending = s.pending ∧ (queryReadCapture v s).now = s.now ∧
    (queryReadCapture v s).params = s.params ∧ (queryReadCapture v s).port = s.port ∧
    (queryReadCapture v s).recognition = s.recognition ∧ (queryReadCapture v s).intake = s.intake ∧
    (queryReadCapture v s).streams = s.streams ∧ (queryReadCapture v s).records = s.records ∧
    (queryReadCapture v s).table = s.table ∧ (queryReadCapture v s).engine = s.engine ∧
    (queryReadCapture v s).grip = s.grip ∧ (queryReadCapture v s).issuer = s.issuer ∧
    (queryReadCapture v s).axles = s.axles ∧ (queryReadCapture v s).modes = s.modes ∧
    (queryReadCapture v s).filters = s.filters ∧ (queryReadCapture v s).supply = s.supply ∧
    (queryReadCapture v s).exception = s.exception :=
  by
  unfold queryReadCapture serveQuery
  repeat' split
  all_goals simp

@[simp] theorem queryReleaseCapture_frame (v : Word16) (s : State) :
    (queryReleaseCapture v s).pending = s.pending ∧ (queryReleaseCapture v s).now = s.now ∧
    (queryReleaseCapture v s).params = s.params ∧ (queryReleaseCapture v s).port = s.port ∧
    (queryReleaseCapture v s).recognition = s.recognition ∧ (queryReleaseCapture v s).intake = s.intake ∧
    (queryReleaseCapture v s).streams = s.streams ∧ (queryReleaseCapture v s).records = s.records ∧
    (queryReleaseCapture v s).table = s.table ∧ (queryReleaseCapture v s).engine = s.engine ∧
    (queryReleaseCapture v s).grip = s.grip ∧ (queryReleaseCapture v s).issuer = s.issuer ∧
    (queryReleaseCapture v s).axles = s.axles ∧ (queryReleaseCapture v s).modes = s.modes ∧
    (queryReleaseCapture v s).filters = s.filters ∧ (queryReleaseCapture v s).supply = s.supply ∧
    (queryReleaseCapture v s).exception = s.exception :=
  by
  unfold queryReleaseCapture serveQuery
  repeat' split
  all_goals simp

@[simp] theorem queryReadException_frame (s : State) :
    (queryReadException s).pending = s.pending ∧ (queryReadException s).now = s.now ∧
    (queryReadException s).params = s.params ∧ (queryReadException s).port = s.port ∧
    (queryReadException s).recognition = s.recognition ∧ (queryReadException s).intake = s.intake ∧
    (queryReadException s).streams = s.streams ∧ (queryReadException s).records = s.records ∧
    (queryReadException s).table = s.table ∧ (queryReadException s).engine = s.engine ∧
    (queryReadException s).grip = s.grip ∧ (queryReadException s).issuer = s.issuer ∧
    (queryReadException s).axles = s.axles ∧ (queryReadException s).modes = s.modes ∧
    (queryReadException s).filters = s.filters ∧ (queryReadException s).supply = s.supply ∧
    (queryReadException s).exception = s.exception :=
  by
  unfold queryReadException serveQuery
  repeat' split
  all_goals simp

@[simp] theorem queryReleaseException_frame (s : State) :
    (queryReleaseException s).pending = s.pending ∧ (queryReleaseException s).now = s.now ∧
    (queryReleaseException s).params = s.params ∧ (queryReleaseException s).port = s.port ∧
    (queryReleaseException s).recognition = s.recognition ∧ (queryReleaseException s).intake = s.intake ∧
    (queryReleaseException s).streams = s.streams ∧ (queryReleaseException s).records = s.records ∧
    (queryReleaseException s).table = s.table ∧ (queryReleaseException s).engine = s.engine ∧
    (queryReleaseException s).grip = s.grip ∧ (queryReleaseException s).issuer = s.issuer ∧
    (queryReleaseException s).axles = s.axles ∧ (queryReleaseException s).modes = s.modes ∧
    (queryReleaseException s).filters = s.filters ∧ (queryReleaseException s).supply = s.supply :=
  by
  unfold queryReleaseException serveQuery
  repeat' split
  all_goals simp

@[simp] theorem queryReadCounters_frame (s : State) :
    (queryReadCounters s).pending = s.pending ∧ (queryReadCounters s).now = s.now ∧
    (queryReadCounters s).params = s.params ∧ (queryReadCounters s).port = s.port ∧
    (queryReadCounters s).recognition = s.recognition ∧ (queryReadCounters s).intake = s.intake ∧
    (queryReadCounters s).streams = s.streams ∧ (queryReadCounters s).records = s.records ∧
    (queryReadCounters s).table = s.table ∧ (queryReadCounters s).engine = s.engine ∧
    (queryReadCounters s).grip = s.grip ∧ (queryReadCounters s).issuer = s.issuer ∧
    (queryReadCounters s).axles = s.axles ∧ (queryReadCounters s).modes = s.modes ∧
    (queryReadCounters s).filters = s.filters ∧ (queryReadCounters s).supply = s.supply ∧
    (queryReadCounters s).exception = s.exception :=
  by
  unfold queryReadCounters serveQuery
  repeat' split
  all_goals simp

@[simp] theorem queryReadStreamCounts_frame (v : Word16) (s : State) :
    (queryReadStreamCounts v s).pending = s.pending ∧ (queryReadStreamCounts v s).now = s.now ∧
    (queryReadStreamCounts v s).params = s.params ∧ (queryReadStreamCounts v s).port = s.port ∧
    (queryReadStreamCounts v s).recognition = s.recognition ∧ (queryReadStreamCounts v s).intake = s.intake ∧
    (queryReadStreamCounts v s).streams = s.streams ∧ (queryReadStreamCounts v s).records = s.records ∧
    (queryReadStreamCounts v s).table = s.table ∧ (queryReadStreamCounts v s).engine = s.engine ∧
    (queryReadStreamCounts v s).grip = s.grip ∧ (queryReadStreamCounts v s).issuer = s.issuer ∧
    (queryReadStreamCounts v s).axles = s.axles ∧ (queryReadStreamCounts v s).modes = s.modes ∧
    (queryReadStreamCounts v s).filters = s.filters ∧ (queryReadStreamCounts v s).supply = s.supply ∧
    (queryReadStreamCounts v s).exception = s.exception :=
  by
  unfold queryReadStreamCounts serveQuery
  repeat' split
  all_goals simp

@[simp] theorem handQuery_frame (kind v : Word16) (s : State) :
    (handQuery kind v s).pending = s.pending ∧ (handQuery kind v s).now = s.now ∧
    (handQuery kind v s).params = s.params ∧ (handQuery kind v s).port = s.port ∧
    (handQuery kind v s).recognition = s.recognition ∧ (handQuery kind v s).intake = s.intake ∧
    (handQuery kind v s).streams = s.streams ∧ (handQuery kind v s).records = s.records ∧
    (handQuery kind v s).table = s.table ∧ (handQuery kind v s).engine = s.engine ∧
    (handQuery kind v s).grip = s.grip ∧ (handQuery kind v s).issuer = s.issuer ∧
    (handQuery kind v s).axles = s.axles ∧ (handQuery kind v s).modes = s.modes ∧
    (handQuery kind v s).filters = s.filters ∧ (handQuery kind v s).supply = s.supply :=
  by
  unfold handQuery
  repeat' split
  all_goals simp

@[simp] theorem takeException_frame (e : ExceptionEvent) (s : State) :
    (takeException e s).pending = s.pending ∧ (takeException e s).now = s.now ∧ (takeException e s).draws = s.draws ∧
    (takeException e s).params = s.params ∧ (takeException e s).port = s.port ∧ (takeException e s).link = s.link ∧
    (takeException e s).recognition = s.recognition ∧ (takeException e s).intake = s.intake ∧
    (takeException e s).streams = s.streams ∧ (takeException e s).records = s.records ∧
    (takeException e s).table = s.table ∧ (takeException e s).engine = s.engine ∧ (takeException e s).grip = s.grip ∧
    (takeException e s).issuer = s.issuer ∧ (takeException e s).axles = s.axles ∧ (takeException e s).modes = s.modes ∧
    (takeException e s).filters = s.filters ∧ (takeException e s).supply = s.supply ∧
    (takeException e s).report = s.report :=
  by
  unfold takeException
  repeat' split
  all_goals simp

@[simp] theorem expireStatusTimer_frame (s : State) :
    (expireStatusTimer s).pending = s.pending ∧ (expireStatusTimer s).now = s.now ∧
    (expireStatusTimer s).params = s.params ∧ (expireStatusTimer s).port = s.port ∧
    (expireStatusTimer s).recognition = s.recognition ∧ (expireStatusTimer s).intake = s.intake ∧
    (expireStatusTimer s).records = s.records ∧ (expireStatusTimer s).table = s.table ∧
    (expireStatusTimer s).engine = s.engine ∧ (expireStatusTimer s).grip = s.grip ∧
    (expireStatusTimer s).issuer = s.issuer ∧ (expireStatusTimer s).axles = s.axles ∧
    (expireStatusTimer s).modes = s.modes ∧ (expireStatusTimer s).filters = s.filters ∧
    (expireStatusTimer s).exception = s.exception :=
  by
  unfold expireStatusTimer
  repeat' split
  all_goals simp

/-! ## Passes and axles -/

@[simp] theorem resetRegulator_frame (a : Axle) (s : State) :
    (resetRegulator a s).pending = s.pending ∧ (resetRegulator a s).now = s.now ∧
    (resetRegulator a s).draws = s.draws ∧ (resetRegulator a s).params = s.params ∧
    (resetRegulator a s).port = s.port ∧ (resetRegulator a s).link = s.link ∧
    (resetRegulator a s).recognition = s.recognition ∧ (resetRegulator a s).intake = s.intake ∧
    (resetRegulator a s).streams = s.streams ∧ (resetRegulator a s).records = s.records ∧
    (resetRegulator a s).engine = s.engine ∧ (resetRegulator a s).issuer = s.issuer ∧
    (resetRegulator a s).axles = s.axles ∧ (resetRegulator a s).modes = s.modes ∧
    (resetRegulator a s).filters = s.filters ∧ (resetRegulator a s).supply = s.supply ∧
    (resetRegulator a s).exception = s.exception :=
  by
  simp only [resetRegulator]
  repeat' split
  all_goals simp

@[simp] theorem applyReset_frame (r : DeferredReset) (s : State) :
    (applyReset s r).pending = s.pending ∧ (applyReset s r).now = s.now ∧ (applyReset s r).draws = s.draws ∧
    (applyReset s r).params = s.params ∧ (applyReset s r).port = s.port ∧ (applyReset s r).link = s.link ∧
    (applyReset s r).recognition = s.recognition ∧ (applyReset s r).intake = s.intake ∧
    (applyReset s r).streams = s.streams ∧ (applyReset s r).records = s.records ∧ (applyReset s r).issuer = s.issuer ∧
    (applyReset s r).axles = s.axles ∧ (applyReset s r).modes = s.modes ∧ (applyReset s r).filters = s.filters ∧
    (applyReset s r).supply = s.supply ∧ (applyReset s r).exception = s.exception :=
  by cases r <;> simp [applyReset]

@[simp] theorem foldl_applyReset_frame (rs : List DeferredReset) (s : State) :
    (rs.foldl applyReset s).pending = s.pending ∧ (rs.foldl applyReset s).now = s.now ∧
    (rs.foldl applyReset s).draws = s.draws ∧ (rs.foldl applyReset s).params = s.params ∧
    (rs.foldl applyReset s).port = s.port ∧ (rs.foldl applyReset s).link = s.link ∧
    (rs.foldl applyReset s).recognition = s.recognition ∧ (rs.foldl applyReset s).intake = s.intake ∧
    (rs.foldl applyReset s).streams = s.streams ∧ (rs.foldl applyReset s).records = s.records ∧
    (rs.foldl applyReset s).issuer = s.issuer ∧ (rs.foldl applyReset s).axles = s.axles ∧
    (rs.foldl applyReset s).modes = s.modes ∧ (rs.foldl applyReset s).filters = s.filters ∧
    (rs.foldl applyReset s).supply = s.supply ∧ (rs.foldl applyReset s).exception = s.exception := by
  induction rs generalizing s with
  | nil => simp
  | cons r rs ih => simpa using ih (applyReset s r)

@[simp] theorem resetOrDefer_frame (rs : List DeferredReset) (s : State) :
    (resetOrDefer rs s).pending = s.pending ∧ (resetOrDefer rs s).now = s.now ∧ (resetOrDefer rs s).draws = s.draws ∧
    (resetOrDefer rs s).params = s.params ∧ (resetOrDefer rs s).port = s.port ∧ (resetOrDefer rs s).link = s.link ∧
    (resetOrDefer rs s).recognition = s.recognition ∧ (resetOrDefer rs s).intake = s.intake ∧
    (resetOrDefer rs s).streams = s.streams ∧ (resetOrDefer rs s).records = s.records ∧
    (resetOrDefer rs s).issuer = s.issuer ∧ (resetOrDefer rs s).axles = s.axles ∧ (resetOrDefer rs s).modes = s.modes ∧
    (resetOrDefer rs s).filters = s.filters ∧ (resetOrDefer rs s).supply = s.supply ∧
    (resetOrDefer rs s).exception = s.exception :=
  by
  unfold resetOrDefer
  repeat' split
  all_goals simp

@[simp] theorem requestPass_frame (s : State) :
    (requestPass s).pending = s.pending ∧ (requestPass s).now = s.now ∧ (requestPass s).draws = s.draws ∧
    (requestPass s).params = s.params ∧ (requestPass s).port = s.port ∧ (requestPass s).link = s.link ∧
    (requestPass s).recognition = s.recognition ∧ (requestPass s).intake = s.intake ∧
    (requestPass s).streams = s.streams ∧ (requestPass s).records = s.records ∧ (requestPass s).table = s.table ∧
    (requestPass s).grip = s.grip ∧ (requestPass s).issuer = s.issuer ∧ (requestPass s).axles = s.axles ∧
    (requestPass s).modes = s.modes ∧ (requestPass s).filters = s.filters ∧ (requestPass s).supply = s.supply ∧
    (requestPass s).exception = s.exception ∧ (requestPass s).report = s.report :=
  by
  unfold requestPass
  repeat' split
  all_goals simp

@[simp] theorem requestPassIf_frame (c : Bool) (s : State) :
    (requestPassIf c s).pending = s.pending ∧ (requestPassIf c s).now = s.now ∧ (requestPassIf c s).draws = s.draws ∧
    (requestPassIf c s).params = s.params ∧ (requestPassIf c s).port = s.port ∧ (requestPassIf c s).link = s.link ∧
    (requestPassIf c s).recognition = s.recognition ∧ (requestPassIf c s).intake = s.intake ∧
    (requestPassIf c s).streams = s.streams ∧ (requestPassIf c s).records = s.records ∧
    (requestPassIf c s).table = s.table ∧ (requestPassIf c s).grip = s.grip ∧ (requestPassIf c s).issuer = s.issuer ∧
    (requestPassIf c s).axles = s.axles ∧ (requestPassIf c s).modes = s.modes ∧
    (requestPassIf c s).filters = s.filters ∧ (requestPassIf c s).supply = s.supply ∧
    (requestPassIf c s).exception = s.exception ∧ (requestPassIf c s).report = s.report :=
  by
  unfold requestPassIf
  repeat' split
  all_goals simp

@[simp] theorem expirePassTimer_frame (s : State) :
    (expirePassTimer s).pending = s.pending ∧ (expirePassTimer s).now = s.now ∧ (expirePassTimer s).draws = s.draws ∧
    (expirePassTimer s).params = s.params ∧ (expirePassTimer s).port = s.port ∧ (expirePassTimer s).link = s.link ∧
    (expirePassTimer s).recognition = s.recognition ∧ (expirePassTimer s).intake = s.intake ∧
    (expirePassTimer s).streams = s.streams ∧ (expirePassTimer s).records = s.records ∧
    (expirePassTimer s).table = s.table ∧ (expirePassTimer s).grip = s.grip ∧ (expirePassTimer s).issuer = s.issuer ∧
    (expirePassTimer s).axles = s.axles ∧ (expirePassTimer s).modes = s.modes ∧
    (expirePassTimer s).filters = s.filters ∧ (expirePassTimer s).supply = s.supply ∧
    (expirePassTimer s).exception = s.exception ∧ (expirePassTimer s).report = s.report :=
  by
  unfold expirePassTimer
  repeat' split
  all_goals simp

@[simp] theorem changeAxle_frame (a : Axle) (v : Supervisor) (s : State) :
    (changeAxle a v s).pending = s.pending ∧ (changeAxle a v s).now = s.now ∧ (changeAxle a v s).draws = s.draws ∧
    (changeAxle a v s).params = s.params ∧ (changeAxle a v s).port = s.port ∧ (changeAxle a v s).link = s.link ∧
    (changeAxle a v s).recognition = s.recognition ∧ (changeAxle a v s).intake = s.intake ∧
    (changeAxle a v s).streams = s.streams ∧ (changeAxle a v s).records = s.records ∧
    (changeAxle a v s).issuer = s.issuer ∧ (changeAxle a v s).modes = s.modes ∧
    (changeAxle a v s).filters = s.filters ∧ (changeAxle a v s).supply = s.supply ∧
    (changeAxle a v s).exception = s.exception :=
  by
  simp only [changeAxle]
  repeat' split
  all_goals simp

@[simp] theorem superviseAxle_frame (a : Axle) (f : AxleStatus) (s : State) :
    (superviseAxle a f s).pending = s.pending ∧ (superviseAxle a f s).now = s.now ∧
    (superviseAxle a f s).draws = s.draws ∧ (superviseAxle a f s).params = s.params ∧
    (superviseAxle a f s).port = s.port ∧ (superviseAxle a f s).link = s.link ∧
    (superviseAxle a f s).recognition = s.recognition ∧ (superviseAxle a f s).intake = s.intake ∧
    (superviseAxle a f s).streams = s.streams ∧ (superviseAxle a f s).records = s.records ∧
    (superviseAxle a f s).issuer = s.issuer ∧ (superviseAxle a f s).modes = s.modes ∧
    (superviseAxle a f s).filters = s.filters ∧ (superviseAxle a f s).supply = s.supply ∧
    (superviseAxle a f s).exception = s.exception :=
  by simp [superviseAxle]

@[simp] theorem loseAxle_frame (a : Axle) (s : State) :
    (loseAxle a s).pending = s.pending ∧ (loseAxle a s).now = s.now ∧ (loseAxle a s).draws = s.draws ∧
    (loseAxle a s).params = s.params ∧ (loseAxle a s).port = s.port ∧ (loseAxle a s).link = s.link ∧
    (loseAxle a s).recognition = s.recognition ∧ (loseAxle a s).intake = s.intake ∧
    (loseAxle a s).streams = s.streams ∧ (loseAxle a s).records = s.records ∧ (loseAxle a s).issuer = s.issuer ∧
    (loseAxle a s).modes = s.modes ∧ (loseAxle a s).filters = s.filters ∧ (loseAxle a s).supply = s.supply ∧
    (loseAxle a s).exception = s.exception :=
  by simp [loseAxle]

@[simp] theorem activateAxle_frame (a : Axle) (s : State) :
    (activateAxle a s).pending = s.pending ∧ (activateAxle a s).now = s.now ∧ (activateAxle a s).draws = s.draws ∧
    (activateAxle a s).params = s.params ∧ (activateAxle a s).port = s.port ∧ (activateAxle a s).link = s.link ∧
    (activateAxle a s).recognition = s.recognition ∧ (activateAxle a s).intake = s.intake ∧
    (activateAxle a s).streams = s.streams ∧ (activateAxle a s).records = s.records ∧
    (activateAxle a s).issuer = s.issuer ∧ (activateAxle a s).modes = s.modes ∧
    (activateAxle a s).filters = s.filters ∧ (activateAxle a s).supply = s.supply ∧
    (activateAxle a s).exception = s.exception :=
  by
  unfold activateAxle
  repeat' split
  all_goals simp

@[simp] theorem standDown_frame (a : Axle) (s : State) :
    (standDown a s).pending = s.pending ∧ (standDown a s).now = s.now ∧ (standDown a s).draws = s.draws ∧
    (standDown a s).params = s.params ∧ (standDown a s).port = s.port ∧ (standDown a s).link = s.link ∧
    (standDown a s).recognition = s.recognition ∧ (standDown a s).intake = s.intake ∧
    (standDown a s).streams = s.streams ∧ (standDown a s).records = s.records ∧ (standDown a s).issuer = s.issuer ∧
    (standDown a s).modes = s.modes ∧ (standDown a s).filters = s.filters ∧ (standDown a s).supply = s.supply ∧
    (standDown a s).exception = s.exception :=
  by
  simp only [standDown]
  repeat' split
  all_goals simp

@[simp] theorem commandDelivered_frame (a : Axle) (e : DelayEntry) (s : State) :
    (commandDelivered a e s).pending = s.pending ∧ (commandDelivered a e s).now = s.now ∧
    (commandDelivered a e s).draws = s.draws ∧ (commandDelivered a e s).params = s.params ∧
    (commandDelivered a e s).port = s.port ∧ (commandDelivered a e s).link = s.link ∧
    (commandDelivered a e s).recognition = s.recognition ∧ (commandDelivered a e s).intake = s.intake ∧
    (commandDelivered a e s).streams = s.streams ∧ (commandDelivered a e s).records = s.records ∧
    (commandDelivered a e s).table = s.table ∧ (commandDelivered a e s).engine = s.engine ∧
    (commandDelivered a e s).grip = s.grip ∧ (commandDelivered a e s).issuer = s.issuer ∧
    (commandDelivered a e s).modes = s.modes ∧ (commandDelivered a e s).filters = s.filters ∧
    (commandDelivered a e s).supply = s.supply ∧ (commandDelivered a e s).exception = s.exception ∧
    (commandDelivered a e s).report = s.report :=
  by simp [commandDelivered]

/-! ## Modes -/

@[simp] theorem tellEngine_frame (old new : Mode) (s : State) :
    (tellEngine old new s).pending = s.pending ∧ (tellEngine old new s).now = s.now ∧
    (tellEngine old new s).draws = s.draws ∧ (tellEngine old new s).params = s.params ∧
    (tellEngine old new s).port = s.port ∧ (tellEngine old new s).link = s.link ∧
    (tellEngine old new s).recognition = s.recognition ∧ (tellEngine old new s).intake = s.intake ∧
    (tellEngine old new s).streams = s.streams ∧ (tellEngine old new s).records = s.records ∧
    (tellEngine old new s).issuer = s.issuer ∧ (tellEngine old new s).axles = s.axles ∧
    (tellEngine old new s).modes = s.modes ∧ (tellEngine old new s).filters = s.filters ∧
    (tellEngine old new s).supply = s.supply ∧ (tellEngine old new s).exception = s.exception :=
  by
  unfold tellEngine
  repeat' split
  all_goals simp

@[simp] theorem tellAxles_frame (new : Mode) (s : State) :
    (tellAxles new s).pending = s.pending ∧ (tellAxles new s).now = s.now ∧ (tellAxles new s).draws = s.draws ∧
    (tellAxles new s).params = s.params ∧ (tellAxles new s).port = s.port ∧ (tellAxles new s).link = s.link ∧
    (tellAxles new s).recognition = s.recognition ∧ (tellAxles new s).intake = s.intake ∧
    (tellAxles new s).streams = s.streams ∧ (tellAxles new s).records = s.records ∧
    (tellAxles new s).issuer = s.issuer ∧ (tellAxles new s).modes = s.modes ∧ (tellAxles new s).filters = s.filters ∧
    (tellAxles new s).supply = s.supply ∧ (tellAxles new s).exception = s.exception :=
  by
  unfold tellAxles
  repeat' split
  all_goals simp

@[simp] theorem tellLink_frame (old new : Mode) (s : State) :
    (tellLink old new s).pending = s.pending ∧ (tellLink old new s).now = s.now ∧
    (tellLink old new s).draws = s.draws ∧ (tellLink old new s).params = s.params ∧
    (tellLink old new s).port = s.port ∧ (tellLink old new s).recognition = s.recognition ∧
    (tellLink old new s).intake = s.intake ∧ (tellLink old new s).streams = s.streams ∧
    (tellLink old new s).records = s.records ∧ (tellLink old new s).table = s.table ∧
    (tellLink old new s).engine = s.engine ∧ (tellLink old new s).grip = s.grip ∧
    (tellLink old new s).issuer = s.issuer ∧ (tellLink old new s).axles = s.axles ∧
    (tellLink old new s).modes = s.modes ∧ (tellLink old new s).filters = s.filters ∧
    (tellLink old new s).supply = s.supply ∧ (tellLink old new s).exception = s.exception ∧
    (tellLink old new s).report = s.report :=
  by
  unfold tellLink
  repeat' split
  all_goals simp

@[simp] theorem tellCaptures_frame (new : Mode) (s : State) :
    (tellCaptures new s).pending = s.pending ∧ (tellCaptures new s).now = s.now ∧
    (tellCaptures new s).draws = s.draws ∧ (tellCaptures new s).params = s.params ∧
    (tellCaptures new s).port = s.port ∧ (tellCaptures new s).link = s.link ∧
    (tellCaptures new s).recognition = s.recognition ∧ (tellCaptures new s).intake = s.intake ∧
    (tellCaptures new s).streams = s.streams ∧ (tellCaptures new s).records = s.records ∧
    (tellCaptures new s).table = s.table ∧ (tellCaptures new s).engine = s.engine ∧
    (tellCaptures new s).grip = s.grip ∧ (tellCaptures new s).issuer = s.issuer ∧
    (tellCaptures new s).axles = s.axles ∧ (tellCaptures new s).modes = s.modes ∧
    (tellCaptures new s).filters = s.filters ∧ (tellCaptures new s).supply = s.supply ∧
    (tellCaptures new s).exception = s.exception :=
  by
  unfold tellCaptures
  repeat' split
  all_goals simp

@[simp] theorem enterMode_frame (new : Mode) (c : SafeCause) (s : State) :
    (enterMode new c s).pending = s.pending ∧ (enterMode new c s).now = s.now ∧ (enterMode new c s).draws = s.draws ∧
    (enterMode new c s).params = s.params ∧ (enterMode new c s).port = s.port ∧
    (enterMode new c s).recognition = s.recognition ∧ (enterMode new c s).intake = s.intake ∧
    (enterMode new c s).streams = s.streams ∧ (enterMode new c s).records = s.records ∧
    (enterMode new c s).issuer = s.issuer ∧ (enterMode new c s).filters = s.filters ∧
    (enterMode new c s).supply = s.supply ∧ (enterMode new c s).exception = s.exception :=
  by simp [enterMode]

@[simp] theorem fadeCause_frame (s : State) :
    (fadeCause s).pending = s.pending ∧ (fadeCause s).now = s.now ∧ (fadeCause s).draws = s.draws ∧
    (fadeCause s).params = s.params ∧ (fadeCause s).port = s.port ∧ (fadeCause s).recognition = s.recognition ∧
    (fadeCause s).intake = s.intake ∧ (fadeCause s).streams = s.streams ∧ (fadeCause s).records = s.records ∧
    (fadeCause s).issuer = s.issuer ∧ (fadeCause s).filters = s.filters ∧ (fadeCause s).supply = s.supply ∧
    (fadeCause s).exception = s.exception :=
  by
  unfold fadeCause
  repeat' split
  all_goals simp

@[simp] theorem tellDemand_frame (s : State) :
    (tellDemand s).pending = s.pending ∧ (tellDemand s).now = s.now ∧ (tellDemand s).draws = s.draws ∧
    (tellDemand s).params = s.params ∧ (tellDemand s).port = s.port ∧ (tellDemand s).recognition = s.recognition ∧
    (tellDemand s).intake = s.intake ∧ (tellDemand s).streams = s.streams ∧ (tellDemand s).records = s.records ∧
    (tellDemand s).issuer = s.issuer ∧ (tellDemand s).filters = s.filters ∧ (tellDemand s).supply = s.supply ∧
    (tellDemand s).exception = s.exception :=
  by
  unfold tellDemand
  repeat' split
  all_goals simp

@[simp] theorem tellAxleChange_frame (s : State) :
    (tellAxleChange s).pending = s.pending ∧ (tellAxleChange s).now = s.now ∧ (tellAxleChange s).draws = s.draws ∧
    (tellAxleChange s).params = s.params ∧ (tellAxleChange s).port = s.port ∧
    (tellAxleChange s).recognition = s.recognition ∧ (tellAxleChange s).intake = s.intake ∧
    (tellAxleChange s).streams = s.streams ∧ (tellAxleChange s).records = s.records ∧
    (tellAxleChange s).issuer = s.issuer ∧ (tellAxleChange s).filters = s.filters ∧
    (tellAxleChange s).supply = s.supply ∧ (tellAxleChange s).exception = s.exception :=
  by
  unfold tellAxleChange
  repeat' split
  all_goals simp

@[simp] theorem handAxleChange_frame (a : Axle) (old : AxleState) (s : State) :
    (handAxleChange a old s).pending = s.pending ∧ (handAxleChange a old s).now = s.now ∧
    (handAxleChange a old s).draws = s.draws ∧ (handAxleChange a old s).params = s.params ∧
    (handAxleChange a old s).port = s.port ∧ (handAxleChange a old s).recognition = s.recognition ∧
    (handAxleChange a old s).intake = s.intake ∧ (handAxleChange a old s).streams = s.streams ∧
    (handAxleChange a old s).records = s.records ∧ (handAxleChange a old s).issuer = s.issuer ∧
    (handAxleChange a old s).filters = s.filters ∧ (handAxleChange a old s).supply = s.supply ∧
    (handAxleChange a old s).exception = s.exception :=
  by
  simp only [handAxleChange]
  repeat' split
  all_goals simp

@[simp] theorem takeLinkLoss_frame (s : State) :
    (takeLinkLoss s).pending = s.pending ∧ (takeLinkLoss s).now = s.now ∧ (takeLinkLoss s).draws = s.draws ∧
    (takeLinkLoss s).params = s.params ∧ (takeLinkLoss s).port = s.port ∧
    (takeLinkLoss s).recognition = s.recognition ∧ (takeLinkLoss s).intake = s.intake ∧
    (takeLinkLoss s).streams = s.streams ∧ (takeLinkLoss s).records = s.records ∧
    (takeLinkLoss s).filters = s.filters ∧ (takeLinkLoss s).supply = s.supply ∧
    (takeLinkLoss s).exception = s.exception :=
  by simp [takeLinkLoss]

@[simp] theorem linkLoss_frame (s : State) :
    (linkLoss s).pending = s.pending ∧ (linkLoss s).now = s.now ∧ (linkLoss s).draws = s.draws ∧
    (linkLoss s).params = s.params ∧ (linkLoss s).port = s.port ∧ (linkLoss s).recognition = s.recognition ∧
    (linkLoss s).intake = s.intake ∧ (linkLoss s).streams = s.streams ∧ (linkLoss s).records = s.records ∧
    (linkLoss s).filters = s.filters ∧ (linkLoss s).supply = s.supply ∧ (linkLoss s).exception = s.exception :=
  by
  unfold linkLoss
  repeat' split
  all_goals simp

@[simp] theorem tellConflict_frame (s : State) :
    (tellConflict s).pending = s.pending ∧ (tellConflict s).now = s.now ∧ (tellConflict s).draws = s.draws ∧
    (tellConflict s).params = s.params ∧ (tellConflict s).port = s.port ∧
    (tellConflict s).recognition = s.recognition ∧ (tellConflict s).intake = s.intake ∧
    (tellConflict s).streams = s.streams ∧ (tellConflict s).records = s.records ∧ (tellConflict s).issuer = s.issuer ∧
    (tellConflict s).filters = s.filters ∧ (tellConflict s).supply = s.supply ∧
    (tellConflict s).exception = s.exception :=
  by
  unfold tellConflict
  repeat' split
  all_goals simp

@[simp] theorem takeConflict_frame (s : State) :
    (takeConflict s).pending = s.pending ∧ (takeConflict s).now = s.now ∧ (takeConflict s).draws = s.draws ∧
    (takeConflict s).params = s.params ∧ (takeConflict s).port = s.port ∧
    (takeConflict s).recognition = s.recognition ∧ (takeConflict s).intake = s.intake ∧
    (takeConflict s).streams = s.streams ∧ (takeConflict s).records = s.records ∧ (takeConflict s).issuer = s.issuer ∧
    (takeConflict s).filters = s.filters ∧ (takeConflict s).supply = s.supply ∧
    (takeConflict s).exception = s.exception :=
  by simp [takeConflict]

@[simp] theorem warmRestart_frame (s : State) :
    (warmRestart s).pending = s.pending ∧ (warmRestart s).now = s.now ∧ (warmRestart s).draws = s.draws ∧
    (warmRestart s).params = s.params ∧ (warmRestart s).port = s.port ∧ (warmRestart s).recognition = s.recognition ∧
    (warmRestart s).filters = s.filters ∧ (warmRestart s).supply = s.supply ∧ (warmRestart s).exception = s.exception :=
  by simp [warmRestart]

@[simp] theorem fadeComplete_frame (s : State) :
    (fadeComplete s).pending = s.pending ∧ (fadeComplete s).now = s.now ∧ (fadeComplete s).draws = s.draws ∧
    (fadeComplete s).params = s.params ∧ (fadeComplete s).port = s.port ∧
    (fadeComplete s).recognition = s.recognition ∧ (fadeComplete s).intake = s.intake ∧
    (fadeComplete s).streams = s.streams ∧ (fadeComplete s).records = s.records ∧ (fadeComplete s).issuer = s.issuer ∧
    (fadeComplete s).filters = s.filters ∧ (fadeComplete s).supply = s.supply ∧
    (fadeComplete s).exception = s.exception :=
  by
  unfold fadeComplete
  repeat' split
  all_goals simp

@[simp] theorem rampComplete_frame (s : State) :
    (rampComplete s).pending = s.pending ∧ (rampComplete s).now = s.now ∧ (rampComplete s).draws = s.draws ∧
    (rampComplete s).params = s.params ∧ (rampComplete s).port = s.port ∧
    (rampComplete s).recognition = s.recognition ∧ (rampComplete s).filters = s.filters ∧
    (rampComplete s).supply = s.supply ∧ (rampComplete s).exception = s.exception :=
  by
  unfold rampComplete
  repeat' split
  all_goals simp

@[simp] theorem tellLow_frame (s : State) :
    (tellLow s).pending = s.pending ∧ (tellLow s).now = s.now ∧ (tellLow s).draws = s.draws ∧
    (tellLow s).params = s.params ∧ (tellLow s).port = s.port ∧ (tellLow s).recognition = s.recognition ∧
    (tellLow s).intake = s.intake ∧ (tellLow s).streams = s.streams ∧ (tellLow s).records = s.records ∧
    (tellLow s).issuer = s.issuer ∧ (tellLow s).filters = s.filters ∧ (tellLow s).supply = s.supply ∧
    (tellLow s).exception = s.exception :=
  by
  unfold tellLow
  repeat' split
  all_goals simp

@[simp] theorem tellRestored_frame (s : State) :
    (tellRestored s).pending = s.pending ∧ (tellRestored s).now = s.now ∧ (tellRestored s).draws = s.draws ∧
    (tellRestored s).params = s.params ∧ (tellRestored s).port = s.port ∧
    (tellRestored s).recognition = s.recognition ∧ (tellRestored s).filters = s.filters ∧
    (tellRestored s).supply = s.supply ∧ (tellRestored s).exception = s.exception :=
  by
  unfold tellRestored
  repeat' split
  all_goals simp

@[simp] theorem takeValid_frame (f : WireFrame) (s : State) :
    (takeValid f s).pending = s.pending ∧ (takeValid f s).now = s.now ∧ (takeValid f s).draws = s.draws ∧
    (takeValid f s).params = s.params ∧ (takeValid f s).port = s.port ∧ (takeValid f s).recognition = s.recognition ∧
    (takeValid f s).streams = s.streams ∧ (takeValid f s).records = s.records ∧ (takeValid f s).issuer = s.issuer ∧
    (takeValid f s).filters = s.filters ∧ (takeValid f s).supply = s.supply ∧ (takeValid f s).exception = s.exception :=
  by
  simp only [takeValid]
  repeat' split
  all_goals simp

@[simp] theorem readBus_frame (levels : List BusLevel) (s : State) :
    (readBus levels s).pending = s.pending ∧ (readBus levels s).now = s.now ∧ (readBus levels s).draws = s.draws ∧
    (readBus levels s).params = s.params ∧ (readBus levels s).port = s.port ∧
    (readBus levels s).recognition = s.recognition ∧ (readBus levels s).streams = s.streams ∧
    (readBus levels s).records = s.records ∧ (readBus levels s).issuer = s.issuer ∧
    (readBus levels s).filters = s.filters ∧ (readBus levels s).supply = s.supply ∧
    (readBus levels s).exception = s.exception :=
  by
  unfold readBus
  repeat' split
  all_goals simp

@[simp] theorem receiveFrame_frame (levels : List BusLevel) (s : State) :
    (receiveFrame levels s).pending = s.pending ∧ (receiveFrame levels s).now = s.now ∧
    (receiveFrame levels s).draws = s.draws ∧ (receiveFrame levels s).params = s.params ∧
    (receiveFrame levels s).port = s.port ∧ (receiveFrame levels s).recognition = s.recognition ∧
    (receiveFrame levels s).streams = s.streams ∧ (receiveFrame levels s).records = s.records ∧
    (receiveFrame levels s).issuer = s.issuer ∧ (receiveFrame levels s).filters = s.filters ∧
    (receiveFrame levels s).supply = s.supply ∧ (receiveFrame levels s).exception = s.exception :=
  by
  unfold receiveFrame
  repeat' split
  all_goals simp

@[simp] theorem reportCompletion_frame (f : OutFrame) (s : State) :
    (reportCompletion f s).pending = s.pending ∧ (reportCompletion f s).now = s.now ∧
    (reportCompletion f s).params = s.params ∧ (reportCompletion f s).port = s.port ∧
    (reportCompletion f s).recognition = s.recognition ∧ (reportCompletion f s).intake = s.intake ∧
    (reportCompletion f s).records = s.records ∧ (reportCompletion f s).table = s.table ∧
    (reportCompletion f s).engine = s.engine ∧ (reportCompletion f s).grip = s.grip ∧
    (reportCompletion f s).issuer = s.issuer ∧ (reportCompletion f s).modes = s.modes ∧
    (reportCompletion f s).filters = s.filters ∧ (reportCompletion f s).exception = s.exception :=
  by
  unfold reportCompletion
  repeat' split
  all_goals simp

@[simp] theorem completeFrame_frame (f : OutFrame) (s : State) :
    (completeFrame f s).pending = s.pending ∧ (completeFrame f s).now = s.now ∧ (completeFrame f s).params = s.params ∧
    (completeFrame f s).port = s.port ∧ (completeFrame f s).recognition = s.recognition ∧
    (completeFrame f s).intake = s.intake ∧ (completeFrame f s).records = s.records ∧
    (completeFrame f s).table = s.table ∧ (completeFrame f s).engine = s.engine ∧ (completeFrame f s).grip = s.grip ∧
    (completeFrame f s).issuer = s.issuer ∧ (completeFrame f s).modes = s.modes ∧
    (completeFrame f s).filters = s.filters ∧ (completeFrame f s).exception = s.exception :=
  by simp [completeFrame]

@[simp] theorem completeTransmission_frame (echo : List BusLevel) (s : State) :
    (completeTransmission echo s).pending = s.pending ∧ (completeTransmission echo s).now = s.now ∧
    (completeTransmission echo s).params = s.params ∧ (completeTransmission echo s).port = s.port ∧
    (completeTransmission echo s).recognition = s.recognition ∧ (completeTransmission echo s).intake = s.intake ∧
    (completeTransmission echo s).records = s.records ∧ (completeTransmission echo s).table = s.table ∧
    (completeTransmission echo s).engine = s.engine ∧ (completeTransmission echo s).grip = s.grip ∧
    (completeTransmission echo s).issuer = s.issuer ∧ (completeTransmission echo s).modes = s.modes ∧
    (completeTransmission echo s).filters = s.filters ∧ (completeTransmission echo s).exception = s.exception :=
  by
  unfold completeTransmission whenEchoed
  repeat' split
  all_goals simp

@[simp] theorem mismatchFrame_frame (f : OutFrame) (s : State) :
    (mismatchFrame f s).pending = s.pending ∧ (mismatchFrame f s).now = s.now ∧ (mismatchFrame f s).draws = s.draws ∧
    (mismatchFrame f s).params = s.params ∧ (mismatchFrame f s).port = s.port ∧
    (mismatchFrame f s).recognition = s.recognition ∧ (mismatchFrame f s).intake = s.intake ∧
    (mismatchFrame f s).streams = s.streams ∧ (mismatchFrame f s).records = s.records ∧
    (mismatchFrame f s).filters = s.filters ∧ (mismatchFrame f s).supply = s.supply ∧
    (mismatchFrame f s).exception = s.exception :=
  by
  simp only [mismatchFrame]
  repeat' split
  all_goals simp

@[simp] theorem mismatchEcho_frame (echo : List BusLevel) (s : State) :
    (mismatchEcho echo s).pending = s.pending ∧ (mismatchEcho echo s).now = s.now ∧
    (mismatchEcho echo s).draws = s.draws ∧ (mismatchEcho echo s).params = s.params ∧
    (mismatchEcho echo s).port = s.port ∧ (mismatchEcho echo s).recognition = s.recognition ∧
    (mismatchEcho echo s).intake = s.intake ∧ (mismatchEcho echo s).streams = s.streams ∧
    (mismatchEcho echo s).records = s.records ∧ (mismatchEcho echo s).filters = s.filters ∧
    (mismatchEcho echo s).supply = s.supply ∧ (mismatchEcho echo s).exception = s.exception :=
  by
  unfold mismatchEcho whenEchoed
  repeat' split
  all_goals simp

@[simp] theorem changeLine_frame (l : LineId) (v : Level) (s : State) :
    (changeLine l v s).pending = s.pending ∧ (changeLine l v s).now = s.now ∧ (changeLine l v s).draws = s.draws ∧
    (changeLine l v s).params = s.params ∧ (changeLine l v s).port = s.port ∧ (changeLine l v s).link = s.link ∧
    (changeLine l v s).recognition = s.recognition ∧ (changeLine l v s).intake = s.intake ∧
    (changeLine l v s).streams = s.streams ∧ (changeLine l v s).records = s.records ∧
    (changeLine l v s).table = s.table ∧ (changeLine l v s).engine = s.engine ∧ (changeLine l v s).grip = s.grip ∧
    (changeLine l v s).issuer = s.issuer ∧ (changeLine l v s).axles = s.axles ∧ (changeLine l v s).modes = s.modes ∧
    (changeLine l v s).supply = s.supply ∧ (changeLine l v s).exception = s.exception ∧
    (changeLine l v s).report = s.report :=
  by
  simp only [changeLine]
  repeat' split
  all_goals simp

@[simp] theorem handAccepted_frame (l : LineId) (v : Level) (s : State) :
    (handAccepted l v s).pending = s.pending ∧ (handAccepted l v s).now = s.now ∧
    (handAccepted l v s).draws = s.draws ∧ (handAccepted l v s).params = s.params ∧
    (handAccepted l v s).port = s.port ∧ (handAccepted l v s).recognition = s.recognition ∧
    (handAccepted l v s).intake = s.intake ∧ (handAccepted l v s).streams = s.streams ∧
    (handAccepted l v s).records = s.records ∧ (handAccepted l v s).issuer = s.issuer ∧
    (handAccepted l v s).filters = s.filters ∧ (handAccepted l v s).supply = s.supply ∧
    (handAccepted l v s).exception = s.exception :=
  by
  unfold handAccepted
  repeat' split
  all_goals simp

@[simp] theorem expireFilter_frame (l : LineId) (s : State) :
    (expireFilter l s).pending = s.pending ∧ (expireFilter l s).now = s.now ∧ (expireFilter l s).draws = s.draws ∧
    (expireFilter l s).params = s.params ∧ (expireFilter l s).port = s.port ∧
    (expireFilter l s).recognition = s.recognition ∧ (expireFilter l s).intake = s.intake ∧
    (expireFilter l s).streams = s.streams ∧ (expireFilter l s).records = s.records ∧
    (expireFilter l s).issuer = s.issuer ∧ (expireFilter l s).supply = s.supply ∧
    (expireFilter l s).exception = s.exception :=
  by
  unfold expireFilter
  repeat' split
  all_goals simp

@[simp] theorem takeLowEvent_frame (s : State) :
    (takeLowEvent s).pending = s.pending ∧ (takeLowEvent s).now = s.now ∧ (takeLowEvent s).draws = s.draws ∧
    (takeLowEvent s).params = s.params ∧ (takeLowEvent s).port = s.port ∧
    (takeLowEvent s).recognition = s.recognition ∧ (takeLowEvent s).intake = s.intake ∧
    (takeLowEvent s).streams = s.streams ∧ (takeLowEvent s).records = s.records ∧ (takeLowEvent s).issuer = s.issuer ∧
    (takeLowEvent s).filters = s.filters ∧ (takeLowEvent s).exception = s.exception :=
  by
  unfold takeLowEvent
  repeat' split
  all_goals simp

@[simp] theorem takeRestoreEvent_frame (s : State) :
    (takeRestoreEvent s).pending = s.pending ∧ (takeRestoreEvent s).now = s.now ∧
    (takeRestoreEvent s).draws = s.draws ∧ (takeRestoreEvent s).params = s.params ∧
    (takeRestoreEvent s).port = s.port ∧ (takeRestoreEvent s).recognition = s.recognition ∧
    (takeRestoreEvent s).filters = s.filters ∧ (takeRestoreEvent s).exception = s.exception :=
  by
  unfold takeRestoreEvent
  repeat' split
  all_goals simp

@[simp] theorem acceptBlock_frame (p : Params) (s : State) :
    (acceptBlock p s).pending = s.pending ∧ (acceptBlock p s).now = s.now ∧ (acceptBlock p s).draws = s.draws ∧
    (acceptBlock p s).intake = s.intake ∧ (acceptBlock p s).issuer = s.issuer ∧ (acceptBlock p s).supply = s.supply ∧
    (acceptBlock p s).exception = s.exception :=
  by simp [acceptBlock]

@[simp] theorem failStart_frame (s : State) :
    (failStart s).pending = s.pending ∧ (failStart s).now = s.now ∧ (failStart s).draws = s.draws ∧
    (failStart s).params = s.params ∧ (failStart s).recognition = s.recognition ∧ (failStart s).intake = s.intake ∧
    (failStart s).streams = s.streams ∧ (failStart s).records = s.records ∧ (failStart s).issuer = s.issuer ∧
    (failStart s).filters = s.filters ∧ (failStart s).supply = s.supply ∧ (failStart s).exception = s.exception :=
  by simp [failStart]

@[simp] theorem judgeBlock_frame (ws : List Word16) (s : State) :
    (judgeBlock ws s).pending = s.pending ∧ (judgeBlock ws s).now = s.now ∧ (judgeBlock ws s).draws = s.draws ∧
    (judgeBlock ws s).intake = s.intake ∧ (judgeBlock ws s).issuer = s.issuer ∧ (judgeBlock ws s).supply = s.supply ∧
    (judgeBlock ws s).exception = s.exception :=
  by
  unfold judgeBlock
  repeat' split
  all_goals simp

@[simp] theorem endAttempt_frame (bytes : List (BitVec 8)) (s : State) :
    (endAttempt bytes s).pending = s.pending ∧ (endAttempt bytes s).now = s.now ∧
    (endAttempt bytes s).draws = s.draws ∧ (endAttempt bytes s).intake = s.intake ∧
    (endAttempt bytes s).issuer = s.issuer ∧ (endAttempt bytes s).supply = s.supply ∧
    (endAttempt bytes s).exception = s.exception :=
  by
  unfold endAttempt
  repeat' split
  all_goals simp

/-! ## Streams -/

@[simp] theorem rewriteDriveline_frame (b : Bool) (s : State) :
    (rewriteDriveline b s).pending = s.pending ∧ (rewriteDriveline b s).now = s.now ∧
    (rewriteDriveline b s).draws = s.draws ∧ (rewriteDriveline b s).params = s.params ∧
    (rewriteDriveline b s).port = s.port ∧ (rewriteDriveline b s).link = s.link ∧
    (rewriteDriveline b s).recognition = s.recognition ∧ (rewriteDriveline b s).intake = s.intake ∧
    (rewriteDriveline b s).streams = s.streams ∧ (rewriteDriveline b s).records = s.records ∧
    (rewriteDriveline b s).engine = s.engine ∧ (rewriteDriveline b s).grip = s.grip ∧
    (rewriteDriveline b s).issuer = s.issuer ∧ (rewriteDriveline b s).axles = s.axles ∧
    (rewriteDriveline b s).modes = s.modes ∧ (rewriteDriveline b s).filters = s.filters ∧
    (rewriteDriveline b s).supply = s.supply ∧ (rewriteDriveline b s).exception = s.exception ∧
    (rewriteDriveline b s).report = s.report :=
  by
  unfold rewriteDriveline
  repeat' split
  all_goals simp

@[simp] theorem useStatus_frame (a : Axle) (e : IntakeEntry) (s : State) :
    (useStatus a e s).pending = s.pending ∧ (useStatus a e s).now = s.now ∧ (useStatus a e s).draws = s.draws ∧
    (useStatus a e s).params = s.params ∧ (useStatus a e s).port = s.port ∧
    (useStatus a e s).recognition = s.recognition ∧ (useStatus a e s).intake = s.intake ∧
    (useStatus a e s).streams = s.streams ∧ (useStatus a e s).issuer = s.issuer ∧
    (useStatus a e s).filters = s.filters ∧ (useStatus a e s).supply = s.supply ∧
    (useStatus a e s).exception = s.exception :=
  by simp [useStatus]

@[simp] theorem useDemand_frame (e : IntakeEntry) (s : State) :
    (useDemand e s).pending = s.pending ∧ (useDemand e s).now = s.now ∧ (useDemand e s).draws = s.draws ∧
    (useDemand e s).params = s.params ∧ (useDemand e s).port = s.port ∧ (useDemand e s).recognition = s.recognition ∧
    (useDemand e s).intake = s.intake ∧ (useDemand e s).streams = s.streams ∧ (useDemand e s).issuer = s.issuer ∧
    (useDemand e s).filters = s.filters ∧ (useDemand e s).supply = s.supply ∧ (useDemand e s).exception = s.exception :=
  by simp [useDemand]

@[simp] theorem useStability_frame (e : IntakeEntry) (s : State) :
    (useStability e s).pending = s.pending ∧ (useStability e s).now = s.now ∧ (useStability e s).draws = s.draws ∧
    (useStability e s).params = s.params ∧ (useStability e s).port = s.port ∧ (useStability e s).link = s.link ∧
    (useStability e s).recognition = s.recognition ∧ (useStability e s).intake = s.intake ∧
    (useStability e s).streams = s.streams ∧ (useStability e s).records = s.records ∧
    (useStability e s).grip = s.grip ∧ (useStability e s).issuer = s.issuer ∧ (useStability e s).axles = s.axles ∧
    (useStability e s).modes = s.modes ∧ (useStability e s).filters = s.filters ∧
    (useStability e s).supply = s.supply ∧ (useStability e s).exception = s.exception ∧
    (useStability e s).report = s.report :=
  by simp [useStability]

@[simp] theorem useTow_frame (b : Bool) (e : IntakeEntry) (s : State) :
    (useTow b e s).pending = s.pending ∧ (useTow b e s).now = s.now ∧ (useTow b e s).draws = s.draws ∧
    (useTow b e s).params = s.params ∧ (useTow b e s).port = s.port ∧ (useTow b e s).link = s.link ∧
    (useTow b e s).recognition = s.recognition ∧ (useTow b e s).intake = s.intake ∧
    (useTow b e s).streams = s.streams ∧ (useTow b e s).engine = s.engine ∧ (useTow b e s).grip = s.grip ∧
    (useTow b e s).issuer = s.issuer ∧ (useTow b e s).axles = s.axles ∧ (useTow b e s).modes = s.modes ∧
    (useTow b e s).filters = s.filters ∧ (useTow b e s).supply = s.supply ∧ (useTow b e s).exception = s.exception ∧
    (useTow b e s).report = s.report :=
  by simp [useTow]

@[simp] theorem useContent_frame (i : StreamId) (b : Bool) (e : IntakeEntry) (s : State) :
    (useContent i b e s).pending = s.pending ∧ (useContent i b e s).now = s.now ∧
    (useContent i b e s).draws = s.draws ∧ (useContent i b e s).params = s.params ∧
    (useContent i b e s).port = s.port ∧ (useContent i b e s).recognition = s.recognition ∧
    (useContent i b e s).intake = s.intake ∧ (useContent i b e s).streams = s.streams ∧
    (useContent i b e s).issuer = s.issuer ∧ (useContent i b e s).filters = s.filters ∧
    (useContent i b e s).supply = s.supply ∧ (useContent i b e s).exception = s.exception :=
  by cases i <;> simp [useContent]

@[simp] theorem takeSupervised_frame (i : StreamId) (e : IntakeEntry) (s : State) :
    (takeSupervised i e s).pending = s.pending ∧ (takeSupervised i e s).now = s.now ∧
    (takeSupervised i e s).draws = s.draws ∧ (takeSupervised i e s).params = s.params ∧
    (takeSupervised i e s).port = s.port ∧ (takeSupervised i e s).recognition = s.recognition ∧
    (takeSupervised i e s).intake = s.intake ∧ (takeSupervised i e s).issuer = s.issuer ∧
    (takeSupervised i e s).filters = s.filters ∧ (takeSupervised i e s).supply = s.supply ∧
    (takeSupervised i e s).exception = s.exception :=
  by
  simp only [takeSupervised]
  repeat' split
  all_goals simp

@[simp] theorem rejectFrame_frame (e : IntakeEntry) (i : Nat) (raw : Word16) (s : State) :
    (rejectFrame e i raw s).pending = s.pending ∧ (rejectFrame e i raw s).now = s.now ∧
    (rejectFrame e i raw s).draws = s.draws ∧ (rejectFrame e i raw s).params = s.params ∧
    (rejectFrame e i raw s).port = s.port ∧ (rejectFrame e i raw s).link = s.link ∧
    (rejectFrame e i raw s).recognition = s.recognition ∧ (rejectFrame e i raw s).intake = s.intake ∧
    (rejectFrame e i raw s).streams = s.streams ∧ (rejectFrame e i raw s).records = s.records ∧
    (rejectFrame e i raw s).table = s.table ∧ (rejectFrame e i raw s).engine = s.engine ∧
    (rejectFrame e i raw s).grip = s.grip ∧ (rejectFrame e i raw s).issuer = s.issuer ∧
    (rejectFrame e i raw s).axles = s.axles ∧ (rejectFrame e i raw s).modes = s.modes ∧
    (rejectFrame e i raw s).filters = s.filters ∧ (rejectFrame e i raw s).supply = s.supply :=
  by simp [rejectFrame]

@[simp] theorem countMalformed_frame (r : Role) (s : State) :
    (countMalformed r s).pending = s.pending ∧ (countMalformed r s).now = s.now ∧
    (countMalformed r s).draws = s.draws ∧ (countMalformed r s).params = s.params ∧
    (countMalformed r s).port = s.port ∧ (countMalformed r s).link = s.link ∧
    (countMalformed r s).recognition = s.recognition ∧ (countMalformed r s).intake = s.intake ∧
    (countMalformed r s).records = s.records ∧ (countMalformed r s).table = s.table ∧
    (countMalformed r s).engine = s.engine ∧ (countMalformed r s).grip = s.grip ∧
    (countMalformed r s).issuer = s.issuer ∧ (countMalformed r s).axles = s.axles ∧
    (countMalformed r s).modes = s.modes ∧ (countMalformed r s).filters = s.filters ∧
    (countMalformed r s).supply = s.supply ∧ (countMalformed r s).exception = s.exception ∧
    (countMalformed r s).report = s.report :=
  by cases r <;> simp [countMalformed]

@[simp] theorem countClamp_frame (e : IntakeEntry) (s : State) :
    (countClamp e s).pending = s.pending ∧ (countClamp e s).now = s.now ∧ (countClamp e s).draws = s.draws ∧
    (countClamp e s).params = s.params ∧ (countClamp e s).port = s.port ∧ (countClamp e s).link = s.link ∧
    (countClamp e s).recognition = s.recognition ∧ (countClamp e s).intake = s.intake ∧
    (countClamp e s).streams = s.streams ∧ (countClamp e s).records = s.records ∧ (countClamp e s).table = s.table ∧
    (countClamp e s).engine = s.engine ∧ (countClamp e s).grip = s.grip ∧ (countClamp e s).issuer = s.issuer ∧
    (countClamp e s).axles = s.axles ∧ (countClamp e s).modes = s.modes ∧ (countClamp e s).filters = s.filters ∧
    (countClamp e s).supply = s.supply ∧ (countClamp e s).exception = s.exception :=
  by
  unfold countClamp
  repeat' split
  all_goals simp

@[simp] theorem handEntry_frame (e : IntakeEntry) (s : State) :
    (handEntry e s).pending = s.pending ∧ (handEntry e s).now = s.now ∧ (handEntry e s).params = s.params ∧
    (handEntry e s).port = s.port ∧ (handEntry e s).recognition = s.recognition ∧ (handEntry e s).intake = s.intake ∧
    (handEntry e s).issuer = s.issuer ∧ (handEntry e s).filters = s.filters ∧ (handEntry e s).supply = s.supply :=
  by
  unfold handEntry
  repeat' split
  all_goals simp

@[simp] theorem treatEntry_frame (e : IntakeEntry) (s : State) :
    (treatEntry e s).pending = s.pending ∧ (treatEntry e s).now = s.now ∧ (treatEntry e s).params = s.params ∧
    (treatEntry e s).port = s.port ∧ (treatEntry e s).recognition = s.recognition ∧
    (treatEntry e s).intake = s.intake ∧ (treatEntry e s).issuer = s.issuer ∧ (treatEntry e s).filters = s.filters ∧
    (treatEntry e s).supply = s.supply :=
  by
  unfold treatEntry
  repeat' split
  all_goals simp

@[simp] theorem loseStatus_frame (a : Axle) (s : State) :
    (loseStatus a s).pending = s.pending ∧ (loseStatus a s).now = s.now ∧ (loseStatus a s).draws = s.draws ∧
    (loseStatus a s).params = s.params ∧ (loseStatus a s).port = s.port ∧
    (loseStatus a s).recognition = s.recognition ∧ (loseStatus a s).intake = s.intake ∧
    (loseStatus a s).streams = s.streams ∧ (loseStatus a s).issuer = s.issuer ∧ (loseStatus a s).filters = s.filters ∧
    (loseStatus a s).supply = s.supply ∧ (loseStatus a s).exception = s.exception :=
  by simp [loseStatus]

@[simp] theorem loseStability_frame (s : State) :
    (loseStability s).pending = s.pending ∧ (loseStability s).now = s.now ∧ (loseStability s).draws = s.draws ∧
    (loseStability s).params = s.params ∧ (loseStability s).port = s.port ∧ (loseStability s).link = s.link ∧
    (loseStability s).recognition = s.recognition ∧ (loseStability s).intake = s.intake ∧
    (loseStability s).streams = s.streams ∧ (loseStability s).records = s.records ∧ (loseStability s).grip = s.grip ∧
    (loseStability s).issuer = s.issuer ∧ (loseStability s).axles = s.axles ∧ (loseStability s).modes = s.modes ∧
    (loseStability s).filters = s.filters ∧ (loseStability s).supply = s.supply ∧
    (loseStability s).exception = s.exception ∧ (loseStability s).report = s.report :=
  by simp [loseStability]

@[simp] theorem enterLost_frame (i : StreamId) (b : Bool) (s : State) :
    (enterLost i b s).pending = s.pending ∧ (enterLost i b s).now = s.now ∧ (enterLost i b s).draws = s.draws ∧
    (enterLost i b s).params = s.params ∧ (enterLost i b s).port = s.port ∧
    (enterLost i b s).recognition = s.recognition ∧ (enterLost i b s).intake = s.intake ∧
    (enterLost i b s).streams = s.streams ∧ (enterLost i b s).issuer = s.issuer ∧
    (enterLost i b s).filters = s.filters ∧ (enterLost i b s).supply = s.supply ∧
    (enterLost i b s).exception = s.exception :=
  by cases i <;> simp [enterLost]

@[simp] theorem expireWindow_frame (i : StreamId) (d : Time) (s : State) :
    (expireWindow i d s).pending = s.pending ∧ (expireWindow i d s).now = s.now ∧
    (expireWindow i d s).draws = s.draws ∧ (expireWindow i d s).params = s.params ∧
    (expireWindow i d s).port = s.port ∧ (expireWindow i d s).recognition = s.recognition ∧
    (expireWindow i d s).intake = s.intake ∧ (expireWindow i d s).issuer = s.issuer ∧
    (expireWindow i d s).filters = s.filters ∧ (expireWindow i d s).supply = s.supply ∧
    (expireWindow i d s).exception = s.exception :=
  by
  simp only [expireWindow]
  repeat' split
  all_goals simp

@[simp] theorem expireIfDue_frame (i : StreamId) (s : State) :
    (expireIfDue i s).pending = s.pending ∧ (expireIfDue i s).now = s.now ∧ (expireIfDue i s).draws = s.draws ∧
    (expireIfDue i s).params = s.params ∧ (expireIfDue i s).port = s.port ∧
    (expireIfDue i s).recognition = s.recognition ∧ (expireIfDue i s).intake = s.intake ∧
    (expireIfDue i s).issuer = s.issuer ∧ (expireIfDue i s).filters = s.filters ∧ (expireIfDue i s).supply = s.supply ∧
    (expireIfDue i s).exception = s.exception :=
  by
  unfold expireIfDue
  repeat' split
  all_goals simp

@[simp] theorem expireHolds_frame (due : Time → Bool) (s : State) :
    (expireHolds due s).pending = s.pending ∧ (expireHolds due s).now = s.now ∧ (expireHolds due s).draws = s.draws ∧
    (expireHolds due s).params = s.params ∧ (expireHolds due s).port = s.port ∧ (expireHolds due s).link = s.link ∧
    (expireHolds due s).recognition = s.recognition ∧ (expireHolds due s).intake = s.intake ∧
    (expireHolds due s).streams = s.streams ∧ (expireHolds due s).records = s.records ∧
    (expireHolds due s).grip = s.grip ∧ (expireHolds due s).issuer = s.issuer ∧ (expireHolds due s).axles = s.axles ∧
    (expireHolds due s).modes = s.modes ∧ (expireHolds due s).filters = s.filters ∧
    (expireHolds due s).supply = s.supply ∧ (expireHolds due s).exception = s.exception ∧
    (expireHolds due s).report = s.report :=
  by simp [expireHolds]

@[simp] theorem expireDueHolds_frame (s : State) :
    (expireDueHolds s).pending = s.pending ∧ (expireDueHolds s).now = s.now ∧ (expireDueHolds s).draws = s.draws ∧
    (expireDueHolds s).params = s.params ∧ (expireDueHolds s).port = s.port ∧ (expireDueHolds s).link = s.link ∧
    (expireDueHolds s).recognition = s.recognition ∧ (expireDueHolds s).intake = s.intake ∧
    (expireDueHolds s).streams = s.streams ∧ (expireDueHolds s).records = s.records ∧
    (expireDueHolds s).grip = s.grip ∧ (expireDueHolds s).issuer = s.issuer ∧ (expireDueHolds s).axles = s.axles ∧
    (expireDueHolds s).modes = s.modes ∧ (expireDueHolds s).filters = s.filters ∧
    (expireDueHolds s).supply = s.supply ∧ (expireDueHolds s).exception = s.exception ∧
    (expireDueHolds s).report = s.report :=
  by simp [expireDueHolds]

@[simp] theorem closeHolds_frame (e : IntakeEntry) (s : State) :
    (closeHolds e s).pending = s.pending ∧ (closeHolds e s).now = s.now ∧ (closeHolds e s).draws = s.draws ∧
    (closeHolds e s).params = s.params ∧ (closeHolds e s).port = s.port ∧ (closeHolds e s).link = s.link ∧
    (closeHolds e s).recognition = s.recognition ∧ (closeHolds e s).intake = s.intake ∧
    (closeHolds e s).streams = s.streams ∧ (closeHolds e s).records = s.records ∧ (closeHolds e s).grip = s.grip ∧
    (closeHolds e s).issuer = s.issuer ∧ (closeHolds e s).axles = s.axles ∧ (closeHolds e s).modes = s.modes ∧
    (closeHolds e s).filters = s.filters ∧ (closeHolds e s).supply = s.supply ∧
    (closeHolds e s).exception = s.exception ∧ (closeHolds e s).report = s.report :=
  by
  unfold closeHolds
  repeat' split
  all_goals simp

@[simp] theorem closeWindow_frame (e : IntakeEntry) (b s : State) :
    (closeWindow e b s).pending = s.pending ∧ (closeWindow e b s).now = s.now ∧ (closeWindow e b s).draws = s.draws ∧
    (closeWindow e b s).params = s.params ∧ (closeWindow e b s).port = s.port ∧
    (closeWindow e b s).recognition = s.recognition ∧ (closeWindow e b s).intake = s.intake ∧
    (closeWindow e b s).issuer = s.issuer ∧ (closeWindow e b s).filters = s.filters ∧
    (closeWindow e b s).supply = s.supply ∧ (closeWindow e b s).exception = s.exception :=
  by
  unfold closeWindow
  repeat' split
  all_goals simp

@[simp] theorem decodeHead_frame (s : State) :
    (decodeHead s).pending = s.pending ∧ (decodeHead s).now = s.now ∧ (decodeHead s).params = s.params ∧
    (decodeHead s).port = s.port ∧ (decodeHead s).recognition = s.recognition ∧ (decodeHead s).issuer = s.issuer ∧
    (decodeHead s).filters = s.filters ∧ (decodeHead s).supply = s.supply :=
  by
  unfold decodeHead
  repeat' split
  all_goals simp

/-! ## The pass end -/

@[simp] theorem storeSupply_frame (sn : Snapshot) (out : PassOut) (s : State) :
    (storeSupply sn out s).pending = s.pending ∧ (storeSupply sn out s).now = s.now ∧
    (storeSupply sn out s).draws = s.draws ∧ (storeSupply sn out s).params = s.params ∧
    (storeSupply sn out s).port = s.port ∧ (storeSupply sn out s).link = s.link ∧
    (storeSupply sn out s).recognition = s.recognition ∧ (storeSupply sn out s).intake = s.intake ∧
    (storeSupply sn out s).streams = s.streams ∧ (storeSupply sn out s).records = s.records ∧
    (storeSupply sn out s).engine = s.engine ∧ (storeSupply sn out s).grip = s.grip ∧
    (storeSupply sn out s).issuer = s.issuer ∧ (storeSupply sn out s).axles = s.axles ∧
    (storeSupply sn out s).modes = s.modes ∧ (storeSupply sn out s).filters = s.filters ∧
    (storeSupply sn out s).supply = s.supply ∧ (storeSupply sn out s).exception = s.exception ∧
    (storeSupply sn out s).report = s.report :=
  by
  unfold storeSupply
  repeat' split
  all_goals simp

@[simp] theorem storeResults_frame (sn : Snapshot) (out : PassOut) (s : State) :
    (storeResults sn out s).pending = s.pending ∧ (storeResults sn out s).now = s.now ∧
    (storeResults sn out s).draws = s.draws ∧ (storeResults sn out s).params = s.params ∧
    (storeResults sn out s).port = s.port ∧ (storeResults sn out s).link = s.link ∧
    (storeResults sn out s).recognition = s.recognition ∧ (storeResults sn out s).intake = s.intake ∧
    (storeResults sn out s).streams = s.streams ∧ (storeResults sn out s).records = s.records ∧
    (storeResults sn out s).issuer = s.issuer ∧ (storeResults sn out s).axles = s.axles ∧
    (storeResults sn out s).modes = s.modes ∧ (storeResults sn out s).filters = s.filters ∧
    (storeResults sn out s).supply = s.supply ∧ (storeResults sn out s).exception = s.exception ∧
    (storeResults sn out s).report = s.report :=
  by simp [storeResults]

@[simp] theorem placeCommand_frame (a : Axle) (v : Int) (c : StateCode) (b e : Bool) (s : State) :
    (placeCommand a v c b e s).pending = s.pending ∧ (placeCommand a v c b e s).now = s.now ∧
    (placeCommand a v c b e s).draws = s.draws ∧ (placeCommand a v c b e s).params = s.params ∧
    (placeCommand a v c b e s).port = s.port ∧ (placeCommand a v c b e s).recognition = s.recognition ∧
    (placeCommand a v c b e s).intake = s.intake ∧ (placeCommand a v c b e s).streams = s.streams ∧
    (placeCommand a v c b e s).records = s.records ∧ (placeCommand a v c b e s).table = s.table ∧
    (placeCommand a v c b e s).engine = s.engine ∧ (placeCommand a v c b e s).grip = s.grip ∧
    (placeCommand a v c b e s).axles = s.axles ∧ (placeCommand a v c b e s).modes = s.modes ∧
    (placeCommand a v c b e s).filters = s.filters ∧ (placeCommand a v c b e s).supply = s.supply ∧
    (placeCommand a v c b e s).exception = s.exception :=
  by simp [placeCommand]

@[simp] theorem issueAxle_frame (sn : Snapshot) (out : PassOut) (c : Bool) (a : Axle) (s : State) :
    (issueAxle sn out c a s).pending = s.pending ∧ (issueAxle sn out c a s).now = s.now ∧
    (issueAxle sn out c a s).draws = s.draws ∧ (issueAxle sn out c a s).params = s.params ∧
    (issueAxle sn out c a s).port = s.port ∧ (issueAxle sn out c a s).recognition = s.recognition ∧
    (issueAxle sn out c a s).intake = s.intake ∧ (issueAxle sn out c a s).streams = s.streams ∧
    (issueAxle sn out c a s).records = s.records ∧ (issueAxle sn out c a s).table = s.table ∧
    (issueAxle sn out c a s).engine = s.engine ∧ (issueAxle sn out c a s).grip = s.grip ∧
    (issueAxle sn out c a s).axles = s.axles ∧ (issueAxle sn out c a s).modes = s.modes ∧
    (issueAxle sn out c a s).filters = s.filters ∧ (issueAxle sn out c a s).supply = s.supply ∧
    (issueAxle sn out c a s).exception = s.exception :=
  by
  simp only [issueAxle, serviceFrame, releaseFrame]
  repeat' split
  all_goals simp

@[simp] theorem issueFrames_frame (sn : Snapshot) (out : PassOut) (s : State) :
    (issueFrames sn out s).pending = s.pending ∧ (issueFrames sn out s).now = s.now ∧
    (issueFrames sn out s).draws = s.draws ∧ (issueFrames sn out s).params = s.params ∧
    (issueFrames sn out s).port = s.port ∧ (issueFrames sn out s).recognition = s.recognition ∧
    (issueFrames sn out s).intake = s.intake ∧ (issueFrames sn out s).streams = s.streams ∧
    (issueFrames sn out s).records = s.records ∧ (issueFrames sn out s).table = s.table ∧
    (issueFrames sn out s).engine = s.engine ∧ (issueFrames sn out s).grip = s.grip ∧
    (issueFrames sn out s).axles = s.axles ∧ (issueFrames sn out s).modes = s.modes ∧
    (issueFrames sn out s).filters = s.filters ∧ (issueFrames sn out s).supply = s.supply ∧
    (issueFrames sn out s).exception = s.exception :=
  by
  simp only [issueFrames, placeReport]
  repeat' split
  all_goals simp

@[simp] theorem reportCut_frame (sn : Snapshot) (out : PassOut) (s : State) (c : Cut) :
    (reportCut sn out s c).pending = s.pending ∧ (reportCut sn out s c).now = s.now ∧
    (reportCut sn out s c).draws = s.draws ∧ (reportCut sn out s c).params = s.params ∧
    (reportCut sn out s c).port = s.port ∧ (reportCut sn out s c).link = s.link ∧
    (reportCut sn out s c).recognition = s.recognition ∧ (reportCut sn out s c).intake = s.intake ∧
    (reportCut sn out s c).streams = s.streams ∧ (reportCut sn out s c).records = s.records ∧
    (reportCut sn out s c).table = s.table ∧ (reportCut sn out s c).engine = s.engine ∧
    (reportCut sn out s c).grip = s.grip ∧ (reportCut sn out s c).issuer = s.issuer ∧
    (reportCut sn out s c).axles = s.axles ∧ (reportCut sn out s c).modes = s.modes ∧
    (reportCut sn out s c).filters = s.filters ∧ (reportCut sn out s c).supply = s.supply :=
  by
  unfold reportCut
  repeat' split
  all_goals simp

@[simp] theorem foldl_reportCut_frame (sn : Snapshot) (out : PassOut) (cs : List Cut) (s : State) :
    (cs.foldl (reportCut sn out) s).pending = s.pending ∧ (cs.foldl (reportCut sn out) s).now = s.now ∧
    (cs.foldl (reportCut sn out) s).draws = s.draws ∧ (cs.foldl (reportCut sn out) s).params = s.params ∧
    (cs.foldl (reportCut sn out) s).port = s.port ∧ (cs.foldl (reportCut sn out) s).link = s.link ∧
    (cs.foldl (reportCut sn out) s).recognition = s.recognition ∧ (cs.foldl (reportCut sn out) s).intake = s.intake ∧
    (cs.foldl (reportCut sn out) s).streams = s.streams ∧ (cs.foldl (reportCut sn out) s).records = s.records ∧
    (cs.foldl (reportCut sn out) s).table = s.table ∧ (cs.foldl (reportCut sn out) s).engine = s.engine ∧
    (cs.foldl (reportCut sn out) s).grip = s.grip ∧ (cs.foldl (reportCut sn out) s).issuer = s.issuer ∧
    (cs.foldl (reportCut sn out) s).axles = s.axles ∧ (cs.foldl (reportCut sn out) s).modes = s.modes ∧
    (cs.foldl (reportCut sn out) s).filters = s.filters ∧ (cs.foldl (reportCut sn out) s).supply = s.supply := by
  induction cs generalizing s with
  | nil => simp
  | cons c cs ih => simpa using ih (reportCut sn out s c)

@[simp] theorem reportCuts_frame (sn : Snapshot) (out : PassOut) (s : State) :
    (reportCuts sn out s).pending = s.pending ∧ (reportCuts sn out s).now = s.now ∧
    (reportCuts sn out s).draws = s.draws ∧ (reportCuts sn out s).params = s.params ∧
    (reportCuts sn out s).port = s.port ∧ (reportCuts sn out s).link = s.link ∧
    (reportCuts sn out s).recognition = s.recognition ∧ (reportCuts sn out s).intake = s.intake ∧
    (reportCuts sn out s).streams = s.streams ∧ (reportCuts sn out s).records = s.records ∧
    (reportCuts sn out s).table = s.table ∧ (reportCuts sn out s).engine = s.engine ∧
    (reportCuts sn out s).grip = s.grip ∧ (reportCuts sn out s).issuer = s.issuer ∧
    (reportCuts sn out s).axles = s.axles ∧ (reportCuts sn out s).modes = s.modes ∧
    (reportCuts sn out s).filters = s.filters ∧ (reportCuts sn out s).supply = s.supply :=
  by simp [reportCuts]

@[simp] theorem activateAxles_frame (s : State) :
    (activateAxles s).pending = s.pending ∧ (activateAxles s).now = s.now ∧ (activateAxles s).draws = s.draws ∧
    (activateAxles s).params = s.params ∧ (activateAxles s).port = s.port ∧ (activateAxles s).link = s.link ∧
    (activateAxles s).recognition = s.recognition ∧ (activateAxles s).intake = s.intake ∧
    (activateAxles s).streams = s.streams ∧ (activateAxles s).records = s.records ∧
    (activateAxles s).issuer = s.issuer ∧ (activateAxles s).modes = s.modes ∧ (activateAxles s).filters = s.filters ∧
    (activateAxles s).supply = s.supply ∧ (activateAxles s).exception = s.exception :=
  by simp [activateAxles]

@[simp] theorem passEndResults_frame (sn : Snapshot) (out : PassOut) (s : State) :
    (passEndResults sn out s).pending = s.pending ∧ (passEndResults sn out s).now = s.now ∧
    (passEndResults sn out s).draws = s.draws ∧ (passEndResults sn out s).params = s.params ∧
    (passEndResults sn out s).port = s.port ∧ (passEndResults sn out s).recognition = s.recognition ∧
    (passEndResults sn out s).intake = s.intake ∧ (passEndResults sn out s).streams = s.streams ∧
    (passEndResults sn out s).records = s.records ∧ (passEndResults sn out s).modes = s.modes ∧
    (passEndResults sn out s).filters = s.filters ∧ (passEndResults sn out s).supply = s.supply :=
  by simp [passEndResults]

@[simp] theorem applyDeferred_frame (s : State) :
    (applyDeferred s).pending = s.pending ∧ (applyDeferred s).now = s.now ∧ (applyDeferred s).draws = s.draws ∧
    (applyDeferred s).params = s.params ∧ (applyDeferred s).port = s.port ∧ (applyDeferred s).link = s.link ∧
    (applyDeferred s).recognition = s.recognition ∧ (applyDeferred s).intake = s.intake ∧
    (applyDeferred s).streams = s.streams ∧ (applyDeferred s).records = s.records ∧
    (applyDeferred s).issuer = s.issuer ∧ (applyDeferred s).axles = s.axles ∧ (applyDeferred s).modes = s.modes ∧
    (applyDeferred s).filters = s.filters ∧ (applyDeferred s).supply = s.supply ∧
    (applyDeferred s).exception = s.exception :=
  by simp [applyDeferred]

@[simp] theorem finishFlight_frame (sn : Snapshot) (out : PassOut) (s : State) :
    (finishFlight sn out s).pending = s.pending ∧ (finishFlight sn out s).now = s.now ∧
    (finishFlight sn out s).draws = s.draws ∧ (finishFlight sn out s).params = s.params ∧
    (finishFlight sn out s).port = s.port ∧ (finishFlight sn out s).recognition = s.recognition ∧
    (finishFlight sn out s).filters = s.filters ∧ (finishFlight sn out s).supply = s.supply ∧
    (finishFlight sn out s).exception = s.exception :=
  by
  simp only [finishFlight]
  repeat' split
  all_goals simp

@[simp] theorem startPending_frame (s : State) :
    (startPending s).pending = s.pending ∧ (startPending s).now = s.now ∧ (startPending s).draws = s.draws ∧
    (startPending s).params = s.params ∧ (startPending s).port = s.port ∧ (startPending s).link = s.link ∧
    (startPending s).recognition = s.recognition ∧ (startPending s).intake = s.intake ∧
    (startPending s).streams = s.streams ∧ (startPending s).records = s.records ∧ (startPending s).table = s.table ∧
    (startPending s).grip = s.grip ∧ (startPending s).issuer = s.issuer ∧ (startPending s).axles = s.axles ∧
    (startPending s).modes = s.modes ∧ (startPending s).filters = s.filters ∧ (startPending s).supply = s.supply ∧
    (startPending s).exception = s.exception ∧ (startPending s).report = s.report :=
  by
  unfold startPending
  repeat' split
  all_goals simp

@[simp] theorem endPass_frame (s : State) :
    (endPass s).pending = s.pending ∧ (endPass s).now = s.now ∧ (endPass s).draws = s.draws ∧
    (endPass s).params = s.params ∧ (endPass s).port = s.port ∧ (endPass s).recognition = s.recognition ∧
    (endPass s).filters = s.filters ∧ (endPass s).supply = s.supply :=
  by
  unfold endPass
  repeat' split
  all_goals simp

end Sys2Proof.Machine
end

