-- ==== Sys2Proof/Laws/Event.lean ====
section
/-! SUPPORT. The end of an event: what the report unit leaves as it was, and when it does nothing at all. -/

namespace Sys2Proof.Machine

theorem weighAlerts_same (before s : State) (hc : ∀ i, alertCondition before i = alertCondition s i) :
    weighAlerts before s = s := by
  have : (PerAlert.of fun i => moveAlert (alertCondition before i) (alertCondition s i) (s.par.ranks.get i)
      (s.report.alerts.get i)) = s.report.alerts := by
    simp [hc, moveAlert]
  unfold weighAlerts
  rw [this]

theorem driveLines_same (before s : State) (hp : s.params = before.params)
    (hs : ∀ c, sourceHolds before c = sourceHolds s c) : driveLines before s = s := by
  have h : ∀ routing old, lineAfter routing before s old = old := by
    intro routing old
    unfold lineAfter
    split
    · rfl
    · rename_i p h
      simp [hs, ← hp, h]
  unfold driveLines
  rw [h, h]

/-- A change flag was raised where one is SET now that was not before. -/
theorem flagRaised_iff (before s : State) :
    flagRaised before s = true ↔ ∃ i, (s.streams.get i).flag = .set ∧ (before.streams.get i).flag ≠ .set := by
  constructor
  · intro h
    obtain ⟨i, -, h⟩ := List.any_eq_true.1 h
    exact ⟨i, by simpa using h⟩
  · rintro ⟨i, h⟩
    exact List.any_eq_true.2 ⟨i, by cases i <;> decide, by simpa using h⟩

/-- A STATUS placement carries every flag that is raised, whether or not the link controller takes the frame. -/
theorem placeStatus_flag (entering : Bool) (s : State) (i : StreamId) :
    ((placeStatus entering s).streams.get i).flag = (s.streams.get i).flag.carry (s.report.placement + 1) := by
  have h : ∀ (f : OutFrame) (s : State), (placeFrame entering f s).streams = s.streams := by
    intro f s
    simp
  rw [placeStatus, h]
  cases i <;> rfl

/-- An event that leaves every change flag as it was has raised none. -/
theorem flagRaised_same {before s : State} (h : ∀ i, (s.streams.get i).flag = (before.streams.get i).flag) :
    flagRaised before s = false := by
  simp [flagRaised, streamIds, h]

theorem settle_same (before s : State) (hq : marksQuiet before s = false) (hr : reported before = reported s)
    (hf : ∀ i, (s.streams.get i).flag = (before.streams.get i).flag)
    (ha : s.report.alerts = before.report.alerts) (hc : ∀ i, alertCondition before i = alertCondition s i)
    (hp : s.params = before.params) (hs : ∀ c, sourceHolds before c = sourceHolds s c) : settle before s = s := by
  simp only [settle, hq, weighAlerts_same before s hc, driveLines_same before s hp hs, reportChanges, hr, findLeading, ha,
    flagRaised_same hf, and_self, if_true, reduceIte, Bool.false_eq_true]

theorem settle_now (s : State) (t : Time) : settle s { s with now := t } = { s with now := t } := by
  apply settle_same <;> first | rfl | (intro i; cases i <;> rfl) | simp [marksQuiet]

theorem placeFrame_unreported (entering : Bool) (f : OutFrame) (s : State) (h : f.kind = .status ∨ f.kind = .alert) :
    (placeFrame entering f s).unreported = s.unreported := by
  unfold placeFrame takePlacement discardOlder
  rcases h with h | h <;> rw [h] <;> repeat' split
  all_goals first | rfl | (simp [OwnKind.isCommand] at *)

theorem settle_unreported (before s : State) (hq : marksQuiet before s = false) :
    (settle before s).unreported = s.unreported := by
  have h1 : ∀ e before s, (reportChanges e before s).unreported = s.unreported := by
    intro e b s
    unfold reportChanges
    split
    · rfl
    · rw [placeStatus, placeFrame_unreported _ _ _ (.inl rfl)]
      simp only [numberStatus, markAfterPlacement]
      split <;> rfl
  have h2 : ∀ e before s, (findLeading e before s).unreported = s.unreported := by
    intro e b s
    simp only [findLeading]
    repeat' split
    · rfl
    · rfl
    · rw [placeFrame_unreported _ _ _ (.inr rfl)]
      rfl
  simp only [settle, hq, Bool.false_eq_true, if_false, h1]
  exact h2 _ _ _

/-- An event whose own effects give `r` and change nothing that the report unit weighs ends at `r`. -/
theorem event_is {t : Time} {op : State → State} {s r : State} (h : op { s with now := t } = r)
    (hq : marksQuiet s r = false) (hr : reported s = reported r)
    (hf : ∀ i, (r.streams.get i).flag = (s.streams.get i).flag) (ha : r.report.alerts = s.report.alerts)
    (hc : ∀ i, alertCondition s i = alertCondition r i) (hp : r.params = s.params)
    (hs : ∀ c, sourceHolds s c = sourceHolds r c) : event t op s = r := by
  unfold event
  rw [h]
  exact settle_same s r hq hr hf ha hc hp hs

theorem marksQuiet_same {s r : State} (h : r.link.quiet = s.link.quiet) : marksQuiet s r = false := by
  simp [marksQuiet, h]

theorem endQuietPhase_unquiet (s : State) (h : s.link.quiet = false) : endQuietPhase s = s := by
  simp [endQuietPhase, quietPhaseOver, h]

end Sys2Proof.Machine
end

