-- ==== Sys2Proof/Laws/Numbers.lean ====
section
/-! SUPPORT. The arithmetic of the manual's conventions: what clamping, truncation, saturation and times can give. -/

namespace Sys2Proof.Machine

theorem clampTo_bounds {lo hi : Int} (v : Int) (h : lo ≤ hi) : lo ≤ clampTo lo hi v ∧ clampTo lo hi v ≤ hi := by
  unfold clampTo
  split <;> [skip; split] <;> omega

theorem clampTo_of_within {lo hi v : Int} (h₁ : lo ≤ v) (h₂ : v ≤ hi) : clampTo lo hi v = v := by
  unfold clampTo
  split <;> [skip; split] <;> omega

theorem saturatingUp_le (n bound : Nat) : saturatingUp n bound ≤ bound := Nat.min_le_right _ _

theorem saturatingUp_of_lt {n bound : Nat} (h : n < bound) : saturatingUp n bound = n + 1 := Nat.min_eq_left h

/-- Truncation by a positive number is toward zero (00_scope.md, Rounding). -/
theorem truncDiv_natAbs (a b : Int) : (truncDiv a b).natAbs = a.natAbs / b.natAbs := Int.natAbs_tdiv a b

theorem truncDiv_nonneg {a b : Int} (ha : 0 ≤ a) (hb : 0 ≤ b) : 0 ≤ truncDiv a b := Int.tdiv_nonneg ha hb

theorem truncDiv_nonpos {a b : Int} (ha : a ≤ 0) (hb : 0 ≤ b) : truncDiv a b ≤ 0 := by
  have := Int.tdiv_nonneg (Int.neg_nonneg_of_nonpos ha) hb
  rw [Int.neg_tdiv] at this
  unfold truncDiv
  omega

theorem reached_self (t : Time) : reached t t = true := by simp [reached, earlier]

theorem timerDue_none (t : Time) : timerDue t none = false := rfl

end Sys2Proof.Machine
end

