-- ==== Sys2Proof/Laws/Wire.lean ====
section
/-! SUPPORT. The drive link bit by bit: what writing and reading a field, reading the bus and judging an echo can give. -/

namespace Sys2Proof.Machine

/-! ## Fields -/

@[simp] theorem levelBit_levelOf (b : Bool) : levelBit (levelOf b) = b := by cases b <;> rfl

@[simp] theorem levelOf_levelBit (l : BusLevel) : levelOf (levelBit l) = l := by cases l <;> rfl

@[simp] theorem fieldLevels_length {n : Nat} (b : BitVec n) : (fieldLevels b).length = n := by simp [fieldLevels]

/-- A number is its half and its last bit. -/
theorem shiftRight_eq_double (x m : Nat) : x >>> m = 2 * (x >>> (m + 1)) + (x.testBit m).toNat := by
  rw [Nat.shiftRight_succ, Nat.testBit_eq_decide_div_mod_eq, Nat.shiftRight_eq_div_pow]
  generalize x / 2 ^ m = y
  rcases Nat.mod_two_eq_zero_or_one y with h | h <;> simp [h] <;> omega

/-- The first `k` levels of a field spell its `k` most significant bits. -/
theorem levelsValue_take_fieldLevels {n : Nat} (b : BitVec n) (k : Nat) (hk : k ≤ n) :
    levelsValue ((List.range k).map fun i => levelOf (b.getMsbD i)) = b.toNat >>> (n - k) := by
  induction k with
  | zero => simp [levelsValue, Nat.shiftRight_eq_div_pow, Nat.div_eq_of_lt b.isLt]
  | succ k ih =>
    have step := shiftRight_eq_double b.toNat (n - (k + 1))
    rw [show n - (k + 1) + 1 = n - k by omega] at step
    simp only [levelsValue, List.range_succ, List.map_append, List.foldl_append, List.map_cons, List.map_nil,
      List.foldl_cons, List.foldl_nil, levelBit_levelOf] at ih ⊢
    rw [ih (by omega), step, BitVec.getMsbD, BitVec.getLsbD, show n - 1 - k = n - (k + 1) by omega]
    simp [show k < n by omega]

@[simp] theorem levelsValue_fieldLevels {n : Nat} (b : BitVec n) : levelsValue (fieldLevels b) = b.toNat := by
  simpa [fieldLevels] using levelsValue_take_fieldLevels b n (Nat.le_refl n)

/-- Reading a field that was written gives it back, and the levels that follow. -/
@[simp] theorem takeField_fieldLevels {n : Nat} (b : BitVec n) (rest : List BusLevel) :
    takeField n (fieldLevels b ++ rest) = some (b, rest) := by
  simp [takeField, List.take_left' (fieldLevels_length b), List.drop_left' (fieldLevels_length b)]

/-- Reading words that were written gives them back. -/
@[simp] theorem takeWords_flatMap (ws : List Word16) (rest : List BusLevel) :
    takeWords ws.length (ws.flatMap (fun w => fieldLevels w) ++ rest) = some (ws, rest) := by
  induction ws with
  | nil => rfl
  | cons w ws ih => simp [takeWords, List.append_assoc, ih]

/-! ## The bus and the echo -/

@[simp] theorem BusPhase.reads_nil (b : BusPhase) : b.reads [] = b := rfl

@[simp] theorem BusPhase.reads_cons (b : BusPhase) (l : BusLevel) (ls : List BusLevel) :
    b.reads (l :: ls) = (b.after l).reads ls := rfl

@[simp] theorem BusPhase.reads_busy (ls : List BusLevel) : BusPhase.busy.reads ls = .busy := by
  induction ls with
  | nil => rfl
  | cons l ls ih => simpa [BusPhase.after] using ih

@[simp] theorem BusPhase.reads_aborted (ls : List BusLevel) : BusPhase.aborted.reads ls = .aborted := by
  induction ls with
  | nil => rfl
  | cons l ls ih => simpa [BusPhase.after] using ih

/-- A frame that is not valid leaves only what `dropInvalid` leaves, and a valid one is taken. -/
theorem readBus_cases (levels : List BusLevel) (s : State) :
    (∃ f, readFrame levels = some f ∧ validFrame f = true ∧ readBus levels s = takeValid f s) ∨
      ((∀ f, readFrame levels = some f → validFrame f = false) ∧ readBus levels s = dropInvalid s) := by
  unfold readBus
  split
  · exact .inr ⟨by simp_all, rfl⟩
  · split
    · exact .inl ⟨_, ‹_›, ‹_›, rfl⟩
    · exact .inr ⟨by simp_all, rfl⟩

/-- An echo that agrees so far leaves the judgement to what follows. -/
theorem judgeFrom_append (k : Nat) (same sent echo : List BusLevel) :
    judgeFrom k (same ++ sent) (same ++ echo) = judgeFrom (k + same.length) sent echo := by
  induction same generalizing k with
  | nil => rfl
  | cons l same ih =>
    rw [List.cons_append, List.cons_append, judgeFrom, if_pos rfl, ih, List.length_cons]
    congr 1
    omega

@[simp] theorem judgeEcho_self (sent : List BusLevel) : judgeEcho sent sent = .clean := by
  simpa [judgeEcho, judgeFrom] using judgeFrom_append 0 sent [] []

/-- The first bit that differs settles the judgement: arbitration where a tag bit was sent recessive, a mismatch elsewhere. -/
theorem judgeEcho_differs (same sent echo : List BusLevel) (x y : BusLevel) (h : x ≠ y) :
    judgeEcho (same ++ x :: sent) (same ++ y :: echo) =
      if isTagBit same.length ∧ x = .recessive then .lost else .mismatch := by
  rw [judgeEcho, judgeFrom_append, judgeFrom, if_neg h, Nat.zero_add]

/-- An outcome of a transmission falls with the frame in transmission whose echo shows it, and nothing falls otherwise. -/
theorem whenEchoed_cases (result : EchoResult) (echo : List BusLevel) (outcome : OutFrame → State → State) (s : State) :
    (∃ f, s.link.transmitting = some f ∧ echoOf s echo = some result ∧ whenEchoed result echo outcome s = outcome f s) ∨
      (echoOf s echo ≠ some result ∧ whenEchoed result echo outcome s = s) := by
  unfold whenEchoed
  split
  · rename_i h
    exact .inr ⟨by simp [echoOf, h], rfl⟩
  · split
    · exact .inl ⟨_, ‹_›, ‹_›, rfl⟩
    · exact .inr ⟨‹_›, rfl⟩

end Sys2Proof.Machine
end

