-- ==== Sys2Proof/WellFormed.lean ====
section
/-! DEFINITION. Well-formed commands: what the spec fixes of an operand's size beyond its type. -/

namespace Sys2Proof

/-- A read attempt reads exactly 192 bytes (R161). -/
def wellFormedBlock (bytes : List (BitVec 8)) : Bool := bytes.length == 192

/-- A frame on the wire has 40 + 16 n bits for its length code n, a 3-bit field; one that is cut short has fewer (R146). -/
def wellFormedFrame (levels : List BusLevel) : Bool := decide (levels.length ≤ 152)

/-- An echo has no more bits than the longest frame of the part, of six payload words (R146, R153). -/
def wellFormedEcho (echo : BusReading) : Bool := decide (echo.levels.length ≤ 136)

/-- The well-formed commands. Every operand but the bytes of a read attempt and the bits read from the bus is fixed in size by
its type; an OFFER may come after any time on the bus. -/
def Instr.wellFormed : Instr → Bool
  | .powerOnReset => true
  | .readAttemptEnd _ bytes => wellFormedBlock bytes
  | .frameReception _ levels => wellFormedFrame levels
  | .decode _ => true
  | .alertSeen _ _ => true
  | .readCapture _ _ => true
  | .releaseCapture _ _ => true
  | .readException _ => true
  | .releaseException _ => true
  | .readCounters _ => true
  | .readStreamCounts _ _ => true
  | .windowExpiry _ _ => true
  | .holdExpiry _ => true
  | .passTimerExpiry _ => true
  | .passEnd _ => true
  | .lineChange _ _ _ => true
  | .filterTimerExpiry _ _ => true
  | .supplySenseChange _ _ => true
  | .lowEvent _ => true
  | .restoreEvent _ => true
  | .statusTimerExpiry _ => true
  | .offer _ => true
  | .cleanTransmission echo => wellFormedEcho echo
  | .lostArbitration echo => wellFormedEcho echo
  | .echoMismatch echo => wellFormedEcho echo

end Sys2Proof
end

