-- ==== Sys2Proof/Tests/Slice0.lean ====
section
/-! SUPPORT. The tests: the well-formedness smoke, worked examples of the manual (each names its place; the expected values are
the manual's), and a witness for each statement with hypotheses. -/

namespace Sys2Proof.Machine.Tests

-- One theorem at a time: the kernel's evaluations otherwise run on many threads at once.
set_option Elab.async false

/-! ## States and operands -/

/-- A block that meets every check of R162: the parameters of the worked pass of section 1.14 and others in their ranges. -/
def block : List Word16 :=
  [352, 2, 17, 56, 89, 71, 98, 99, 116, 149, 134, 257, 772, 1029, 100, 50, 10, 100, 50, 100, 1000, 2496, 2688, 1, 35827, 1,
   28586, 4000, 5000, 4800, 6500, 16000, 500, 1500, 3000, 5000, 8000, 12000, 16000, 400, 400, 400, 400, 400, 400, 400] ++
  [400, 350, 350, 350, 350, 350, 350, 350, 350, 96, 200, 600, 80, 40, 100, 60, 20, 300, 20, 40, 60, 20, 50, 80, 100, 50, 1000,
   2000, 50, 100, 1200, 1500, 20, 9, 5, 5, 8, 8, 2, 4, 3, 6, 10, 3, 31, 257, 5, 10, 10, 25896]

/-- The bytes of words, the high byte of each first (R161). -/
def bytesOf (words : List Word16) : List (BitVec 8) := words.flatMap fun w => [w.extractLsb' 8 8, w.extractLsb' 0 8]

def params : Params := blockParams block

/-- A dozing part with this block, its link ACTIVE on a free bus, all streams UNHEARD. -/
def dozing : State :=
  { State.reset with
    params := some params, port := { attempts := 1, reading := false, sent := [] }, recognition := recognitionTable params,
    modes := { mode := .dozing, cause := .none, restorePending := false },
    link := { State.reset.link with bus := .free, state := .active,
                                    identity := some { station := 2, classes := params.classes } } }

/-- The dozing part in another mode. -/
def inMode (m : Mode) : State := { dozing with modes.mode := m }

/-- The state after a command. -/
def after (c : Instr) (s : State) : State :=
  match exec c s with
  | .next u => u
  | .fault _ => s
  | .refused _ => s

/-- A frame of another station with a right check. -/
def frame (station kind sequence : BitVec 4) (payload : List Word16) : WireFrame :=
  { start := .dominant, cls := 0, station := station, kind := kind, sequence := sequence,
    length := BitVec.ofNat 3 payload.length, payload := payload,
    check := checkOf 0 station kind sequence (BitVec.ofNat 3 payload.length) payload, endField := List.replicate 5 .recessive }

/-- An intake entry of a role. -/
def entry (r : Role) (sequence : BitVec 4) (payload : List Word16) (arrival : Time) : IntakeEntry :=
  { cls := 0, station := 1, kind := 1, sequence := sequence, length := BitVec.ofNat 3 payload.length, payload := payload,
    role := r, expectedLength := r.expectedLength, arrival := arrival }

/-- A state whose intake queue holds one entry. -/
def holding (e : IntakeEntry) (s : State) : State := { s with intake := [e] }

def statusBody : List Word16 := [1390, 0, 3500, 2000, 0, 3]

/-- A frame of the part's own. -/
def own (k : OwnKind) (c : Content) : OutFrame := { kind := k, sequence := 3, content := c }

def command : OutFrame := own .frontCommand (.command 100 .drive false true)

/-- A stream record in a state with a deadline at 50. -/
def record (st : StreamState) (q : Nat) : StreamRecord :=
  { StreamRecord.reset with window := some 100, lastSequence := some 1, state := st, deadline := some 50, qualifying := q }

/-- A snapshot of a part at rest. -/
def quietSnapshot (m : Mode) : Snapshot := { takeSnapshot dozing with mode := m, table := acceptedTable params, time := 9 }

/-- A pass of a mode in flight. -/
def flying (m : Mode) (s : State) : State := { s with engine.flight := some (quietSnapshot m) }

/-- A part whose capture request waits. -/
def requested (r : CaptureRequest) (s : State) : State := { s with report.request := some r }

/-! ## Well-formedness -/

theorem test_block_of_192_bytes_is_wellformed : Instr.wellFormed (.readAttemptEnd 0 (bytesOf block)) = true := by
  decide +kernel
theorem test_block_of_191_bytes_is_refused : Instr.wellFormed (.readAttemptEnd 0 ((bytesOf block).drop 1)) = false := by
  decide +kernel
theorem test_frame_of_153_bits_is_refused :
    Instr.wellFormed (.frameReception 0 (List.replicate 153 .recessive)) = false := by decide +kernel
theorem test_echo_of_137_bits_is_refused :
    [Instr.wellFormed (.cleanTransmission ⟨0, List.replicate 137 .dominant⟩),
      Instr.wellFormed (.lostArbitration ⟨0, List.replicate 137 .dominant⟩),
      Instr.wellFormed (.echoMismatch ⟨0, List.replicate 137 .dominant⟩)] = [false, false, false] := by decide +kernel

/-! ## Worked examples -/

/-- The block is accepted, and refused with one word changed (R162). -/
theorem test_block_is_accepted : blockAccepted block = true := by decide +kernel
theorem test_block_with_a_bad_sum_fails : blockAccepted (block.set 95 25897) = false := by decide +kernel

/-- Fields of the block at the places that section 9.7 gives them: FRONT STATUS in word 3, the class of ALERT in word 12, the REAR
speed factor in words 25 and 26, rank 10 in word 88, the capture mode and the enables in word 90, STA in word 91. -/
theorem test_fields_of_the_block :
    (params.roles.map fun e => (e.station.toNat, e.kind.toNat)).take 2 = [(1, 1), (3, 8)] ∧ params.classes.alert = 4 ∧
      params.speedFactor.rear = 65536 + 28586 ∧ params.windows.tow = 1000 ∧ params.ranks.supplyLow = 10 ∧
      params.captureMode = .keepFirst ∧ params.enables = ⟨true, true, true, true, true⟩ ∧ params.sta = ⟨.driving, true⟩ := by
  decide +kernel

/-- The bytes of word k are 2 k and 2 k + 1, the high byte first (R161). -/
theorem test_words_of_bytes :
    ((blockWords (bytesOf block)).take 3, (bytesOf block).take 4) = ([352, 2, 17], [0x01, 0x60, 0x00, 0x02]) := by decide +kernel

/-- A frame of tag 1 × 256 + 2 × 16 + 1, sequence 5 and the one word 8001H: 56 bits in the order of section 9.1, dominant for 0,
with the check that R146 gives, 65 535 − (289 + 41 + 32 769) modulo 65 536 = 7EB4H. -/
def smallFrame : WireFrame :=
  { start := .dominant, cls := 1, station := 2, kind := 1, sequence := 5, length := 1, payload := [0x8001], check := 0x7EB4,
    endField := List.replicate 5 .recessive }

def smallBits : List Bool :=
  [false] ++ [false, false, true] ++ [false, false, true, false] ++ [false, false, false, true] ++
    [false, true, false, true] ++ [false, false, true] ++ [true] ++ List.replicate 14 false ++ [true] ++
    [false, true, true, true, true, true, true, false] ++ [true, false, true, true, false, true, false, false] ++
    [true, true, true, true, true]

theorem test_frame_bit_by_bit :
    smallFrame.levels = smallBits.map levelOf ∧ readFrame (smallBits.map levelOf) = some smallFrame ∧
      validFrame smallFrame = true := by decide +kernel

/-- Each test of R146 fails alone: the start bit, the length codes 0 and 7, the check, an end bit. -/
theorem test_invalid_frames :
    [{ smallFrame with start := .recessive }, { smallFrame with length := 0, payload := [], check := 0xFEB6 },
      { smallFrame with length := 7, payload := List.replicate 7 0, check := 0xFEAF }, { smallFrame with check := 0x7EB5 },
      { smallFrame with endField := [.recessive, .recessive, .dominant, .recessive, .recessive] }].map
      (fun f => (readFrame f.levels == some f, validFrame f)) = List.replicate 5 (true, false) := by decide +kernel

/-- A frame cut short is no frame, and counts as a bad check (R146). -/
theorem test_frame_cut_short : readFrame (smallFrame.levels.take 55) = none := by decide +kernel

/-- Against tag 288 the frame of tag 289 loses at its last tag bit; against tag 290 it keeps the bus (R147). -/
theorem test_arbitration :
    judgeEcho smallFrame.levels (arbitrate (smallFrame.levels.take 12) (.dominant :: tagLevels 1 2 0)) = .lost ∧
      (arbitrate (smallFrame.levels.take 12) (.dominant :: tagLevels 1 2 0)).length = 12 ∧
      arbitrate (smallFrame.levels.take 12) (.dominant :: tagLevels 1 2 2) = smallFrame.levels.take 12 := by decide +kernel

/-- Words written out from the layouts of section 9.7: an AXLE COMMAND of −979 tenths, FADE, bound and enabled; the SPLIT REPORT of
the worked pass of section 1.14; ALERT 9 of rank 6 with two alerts RAISED and one NOTED; frame 2 of 6 of a DATA reply after one
refusal (section 11.4). -/
theorem test_words_of_sent_frames :
    (Content.command (-979) .fade true true).words = [0xFC2D, 0x0203] ∧
      (Content.splitReport 6000 ⟨1666, 3205⟩ 0 342 3326 ⟨.power, .power⟩ ⟨.slipping, .gripping⟩).words =
        [0x2EE0, 0x1A08, 0x6428, 0x0002, 0xACCF, 0xE774] ∧
      (Content.alert 9 6 2 1).words = [0x0906, 0x0201] ∧ (Content.reply .data 2 6 1 [7, 8]).words = [0x1260, 1, 7, 8] := by
  decide +kernel

/-- A STATUS of DRIVING in ACTIVE, FRONT ACTIVE and REAR DERATED, an exception HELD, two attempts, slot 1 HELD, the streams FRESH,
LATE, LOST, UNHEARD, FRESH, UNHEARD and LOST in order, the flags of DEMAND and TOW set (section 9.7). -/
theorem test_words_of_status :
    (Content.status 1
      { mode := .driving, cause := .none, link := .active, axles := ⟨.active, .derated⟩, supplyLow := false,
        exceptionHeld := true, slotOne := true, slotTwo := false,
        streams := ⟨.fresh, .late, .lost, .unheard, .fresh, .unheard, .lost⟩ }
      2 ⟨true, false, false, false, false, false, true⟩).words = [0x214D, 0x0202, 0x1B13, 0x0041] := by decide +kernel

/-- The table of R17. -/
theorem test_initial_torques :
    [initialTorque 1235 500, initialTorque (-1235) 500, initialTorque 6000 342, initialTorque 1000 333, initialTorque 7 1000] =
      [⟨618, 617⟩, ⟨-618, -617⟩, ⟨2052, 3948⟩, ⟨333, 667⟩, ⟨7, 0⟩] := by decide

/-- The table of R52. -/
theorem test_capability_conversion :
    [axleTorque 2496 3500, axleTorque 2496 2000, axleTorque 2688 4000, axleTorque 5120 6000, axleTorque 256 6000,
      axleTorque 2559 1] = [3412, 1950, 4200, 12000, 600, 0] := by decide

/-- The table of R68. -/
theorem test_motor_torque :
    [motorTenths 2496 1666, motorTenths 2688 3205, motorTenths 2496 (-955), motorTenths 256 600, motorTenths 256 700,
      motorTenths 5120 16000, motorTenths 5120 1] = [1708, 3052, -979, 6000, 6000, 6000, 0] := by decide

/-- The table of R87. -/
theorem test_slip :
    [slip 2149 2000, slip 2002 2000, slip 1800 2000, slip (-2149) (-2000), slip 400 100, slip 0 100, slip 25000 0,
      slip 2149 2002] = [74, 1, -100, -74, 1000, -333, 1000, 73] := by decide

/-- The example of R71 and the rising and releasing cases of R98 (rates 40 and 60, e = 10). -/
theorem test_power_and_ramp :
    [mechanicalPower 2052 1390 2496, mechanicalPower 3948 1394 2688, rampAllowance params 10 0 (-1000),
      rampAllowance params 10 500 1000, rampAllowance params 10 1000 500, rampAllowance params 10 500 (-1000),
      rampAllowance params 10 (-500) 500] = [30634, 54887, 400, 400, 600, 600, 600] := by decide +kernel

/-- The tables of R74 and R124: limits, and checks against 1 708 and −979 with tolerances 50 and 100 ‰. -/
theorem test_limits_and_checks :
    (dischargeLimit params { quietSnapshot .driving with power := ⟨800, 300⟩ },
      chargeLimit { quietSnapshot .driving with power := ⟨800, 300⟩ },
      dischargeLimit params { quietSnapshot .driving with power := ⟨40, 0⟩ }) = (75000, 30000, 0) ∧
      torqueAgrees params 1708 1550 = true ∧ torqueAgrees params 1708 1480 = false ∧
      torqueAgrees params (-979) (-1100) = true ∧ torqueAgrees params 0 60 = false := by decide +kernel

/-- The snapshot of the worked pass of section 1.14. -/
def workedSnapshot : Snapshot :=
  { demand := { torque := 6000, ready := true, direction := .forward, profile := .lowGrip }, demandState := .fresh,
    status := ⟨{ AxleStatus.fallback with speed := 1390 }, { AxleStatus.fallback with speed := 1394 }⟩,
    statusState := ⟨.fresh, .fresh⟩, power := ⟨800, 800⟩, powerState := .fresh, reference := { speed := 2000, valid := true },
    referenceState := .fresh, towPresent := true, towState := .fresh,
    table := { ConstraintTable.reset with
      driveline := ⟨some (symmetric 4800), some (symmetric 6500)⟩, inverter := ⟨some ⟨3412, -1950⟩, some ⟨4200, -2625⟩⟩,
      grip := ⟨some (symmetric 4800), some (symmetric 6500)⟩ },
    hold := .inactive, mode := .driving, time := 20, lastStartBefore := 10, firstPass := false }

def workedRecord : PassRecord := (computePass params workedSnapshot ⟨2400, 3300⟩ ⟨.reset, .reset⟩ 1).record

/-- The worked pass of section 1.14. -/
theorem test_worked_pass :
    workedRecord.demand = 6000 ∧ workedRecord.share = 342 ∧ workedRecord.gripCeiling = ⟨2120, 6500⟩ ∧
      workedRecord.gripState = ⟨.slipping, .gripping⟩ ∧ workedRecord.factor = 3326 ∧ workedRecord.scaled = ⟨1666, 3205⟩ ∧
      workedRecord.final = ⟨1666, 3205⟩ ∧ workedRecord.residual = 1129 ∧ workedRecord.governor = ⟨.power, .power⟩ := by
  decide +kernel

/-! ## Witnesses: reset and START -/

theorem witness_StepRunsFrontCommand :
    { dozing with pending := [.decode 1, .decode 2] }.pending = [.decode 1, .decode 2] ∧ dozing.pending = [] := ⟨rfl, rfl⟩

theorem witness_EveryCommandAnswersNext :
    Instr.decode 1 ≠ .powerOnReset ∧ dozing.port.reading = false := by decide +kernel

theorem reset_startSound : State.reset.StartSound :=
  fun _ => ⟨rfl, rfl, rfl, rfl, rfl, rfl, rfl, fun i => by cases i <;> rfl⟩

theorem reset_alertsFollow : State.reset.AlertsFollow := ⟨fun _ => ⟨rfl, rfl⟩, (fun _ h => nomatch h)⟩

/-- The words that the bytes spell. -/
theorem block_bytes :
    block.length = 96 ∧ (bytesOf block).length = 192 ∧
      ∀ k, k < 96 → block.getD k 0 = (bytesOf block).getD (2 * k) 0 ++ (bytesOf block).getD (2 * k + 1) 0 := by
  decide +kernel

/-- A block that fails its format. -/
def zeroBlock : List Word16 := List.replicate 96 0

theorem witness_AcceptedBlockEndsStart :
    State.reset.StartSound ∧ State.reset.AlertsFollow ∧ State.reset.port.reading = true ∧ block.length = 96 ∧
      (bytesOf block).length = 192 ∧
      (∀ k, k < 96 → block.getD k 0 = (bytesOf block).getD (2 * k) 0 ++ (bytesOf block).getD (2 * k + 1) 0) ∧
      blockAccepted block = true ∧ zeroBlock.length = 96 ∧ blockAccepted zeroBlock = false ∧ blockParams block = params ∧
      (State.reset.filters.get .hold).line = .inactive ∧
      ({ State.reset with filters.mark.line := .active }.filters.get .mark).line = .active :=
  ⟨reset_startSound, reset_alertsFollow, rfl, block_bytes.1, block_bytes.2.1, block_bytes.2.2, by decide +kernel, rfl,
    by decide +kernel, rfl, rfl, rfl⟩

def thirdAttempt : State := { State.reset with port := { State.reset.port with attempts := 3 } }
theorem witness_FailedAttemptIsRepeatedOrEndsInSafe :
    State.reset.StartSound ∧ thirdAttempt.StartSound ∧ State.reset.port.reading = true ∧ thirdAttempt.port.reading = true ∧
      zeroBlock.length = 96 ∧ (bytesOf zeroBlock).length = 192 ∧
      (∀ k, k < 96 → zeroBlock.getD k 0 = (bytesOf zeroBlock).getD (2 * k) 0 ++ (bytesOf zeroBlock).getD (2 * k + 1) 0) ∧
      blockAccepted zeroBlock = false ∧ State.reset.port.attempts < 3 ∧ thirdAttempt.port.attempts = 3 :=
  ⟨reset_startSound, reset_startSound, rfl, rfl, by decide +kernel, by decide +kernel, by decide +kernel, by decide +kernel,
    by decide, rfl⟩

/-! ## Witnesses: the drive link -/

/-- A POWER frame of the peer that the block names. -/
def powerFrame : WireFrame := frame 4 7 3 [800, 300]

/-- A frame that no role of the block names. -/
def strangeFrame : WireFrame := frame 9 9 3 [0]

/-- The block's fourth role, POWER, is the one that carries the frame. -/
theorem power_entry_stands_fourth :
    ∃ before e rest, dozing.recognition = before ++ e :: rest ∧ e.station = powerFrame.station ∧ e.kind = powerFrame.kind ∧
      ∀ x ∈ before, ¬ (x.station = powerFrame.station ∧ x.kind = powerFrame.kind) :=
  ⟨dozing.recognition.take 3, (dozing.recognition.drop 3).headD ⟨.query, 0, 0, 0⟩, dozing.recognition.drop 4, by decide +kernel⟩

/-- A dozing part that has aborted a frame of its own, what remains of it still on the bus. -/
def aborted : State := { dozing with link.bus := .aborted }

theorem witness_ReceivedFrameIsCheckedMatchedAndQueued :
    (isOwnEcho powerFrame.levels dozing = false ∧ readFrame powerFrame.levels = some powerFrame ∧ validFrame powerFrame = true ∧
      dozing.link.state ≠ .muted ∧ ownStation dozing ≠ some powerFrame.station ∧ dozing.link.bus ≠ .aborted ∧
      isOwnEcho (powerFrame.levels.take 20) aborted = false ∧ aborted.link.bus = .aborted ∧
      isOwnEcho strangeFrame.levels dozing = false ∧ readFrame strangeFrame.levels = some strangeFrame ∧
      validFrame strangeFrame = true ∧ ownStation dozing ≠ some strangeFrame.station ∧
      ∀ e ∈ dozing.recognition, ¬ (e.station = strangeFrame.station ∧ e.kind = strangeFrame.kind)) ∧
    (∀ f, readFrame (powerFrame.levels.take 20) = some f → validFrame f = false) := by
  have short : readFrame (powerFrame.levels.take 20) = none := by decide +kernel
  exact ⟨by decide +kernel, fun f h => by rw [short] at h; cases h⟩

/-- A MUTED part at a clean-run count. -/
def muted (run : Nat) (quiet : Bool) : State :=
  { dozing with link.state := .muted, link.cleanRun := run, link.echoCount := 16, link.quiet := quiet }

/-- The MUTED part with a full intake queue. -/
def mutedFull : State := { muted 5 false with intake := List.replicate 8 (entry .query 1 [1, 1] 4) }

theorem witness_CleanRunOf128EndsMuted :
    (isOwnEcho powerFrame.levels (muted 126 false) = false ∧ readFrame powerFrame.levels = some powerFrame ∧
      validFrame powerFrame = true ∧ (muted 126 false).link.state = .muted ∧
      ownStation (muted 126 false) ≠ some powerFrame.station ∧ (muted 126 false).link.cleanRun + 1 < 128 ∧
      128 ≤ (muted 127 false).link.cleanRun + 1 ∧ (muted 127 false).link.quiet = false ∧
      (muted 127 true).link.quiet = true ∧ (muted 126 false).intake.length < 8 ∧ 8 ≤ mutedFull.intake.length) ∧
    (validFrame strangeFrame = true ∧ ownStation (muted 126 false) ≠ some strangeFrame.station ∧
      ∀ e ∈ (muted 126 false).recognition, ¬ (e.station = strangeFrame.station ∧ e.kind = strangeFrame.kind)) ∧
    ∃ before e rest, (muted 126 false).recognition = before ++ e :: rest ∧ e.station = powerFrame.station ∧
      e.kind = powerFrame.kind ∧ ∀ x ∈ before, ¬ (x.station = powerFrame.station ∧ x.kind = powerFrame.kind) :=
  ⟨by decide +kernel, by decide +kernel, power_entry_stands_fourth⟩

/-- A frame that carries the own station 2, and a part that has seen two conflicts at 10 and 500. -/
def conflict : WireFrame := frame 2 9 0 [0]
def conflicted : State := { dozing with link.conflicts := [500, 10] }

theorem witness_ThirdConflictWithinASecondEntersSafe :
    isOwnEcho conflict.levels conflicted = false ∧ readFrame conflict.levels = some conflict ∧ validFrame conflict = true ∧
      conflicted.params.isSome = true ∧ ownStation conflicted = some conflict.station ∧
      (∀ e ∈ conflicted.recognition, ¬ (e.station = conflict.station ∧ e.kind = conflict.kind)) ∧
      dozing.link.conflicts.length < 2 ∧ conflicted.link.conflicts = 500 :: 10 :: [] ∧ 1000 ≤ ((1010 : Time) - 10).toNat ∧
      ((1009 : Time) - 10).toNat < 1000 ∧ conflicted.modes.mode ≠ .start ∧ conflicted.modes.mode ≠ .safe ∧
      conflicted.report.request = none ∧ (requested ⟨.mark, 7, 0⟩ conflicted).report.request = some ⟨.mark, 7, 0⟩ ∧
      conflicted.engine.flight = none ∧ (flying .driving conflicted).engine.flight ≠ none := by
  decide +kernel

/-- A part with this frame waiting, and a part with it in transmission. -/
def waiting (f : OutFrame) : State := { dozing with link.mailboxes := noMail.set f.kind (some f) }
def sending (f : OutFrame) : State := { dozing with link.transmitting := some f, link.bus := .busy }

/-- The identity of the part, and the bits of a frame of its own. -/
def identity : Identity := { station := 2, classes := params.classes }
def bitsOf (f : OutFrame) : List BusLevel := (f.onWire identity).levels

def statusOf (q : BitVec 32) : OutFrame := own .status (.status q (reported dozing) 1 (flagBits dozing))

theorem witness_OfferTakesTheLowestOpenTag :
    State.reset.link.state ≠ .active ∧ (sending command).link.transmitting ≠ none ∧
      (BusPhase.gap 0).reads (List.replicate 7 .recessive) ≠ .free ∧ dozing.link.bus.reads [] = .free ∧
      dozing.link.quiet = false ∧ (∀ k, (waiting command).link.mailboxes.get k ≠ none → gateOpen (waiting command) k = false) ∧
      ∃ id, (waiting (statusOf 1)).link.identity = some id ∧ (waiting (statusOf 1)).link.state = .active ∧
        (waiting (statusOf 1)).link.transmitting = none ∧
        (waiting (statusOf 1)).link.mailboxes.get .status = some (statusOf 1) ∧ gateOpen (waiting (statusOf 1)) .status = true ∧
        ∀ j, j ≠ .status → (waiting (statusOf 1)).link.mailboxes.get j ≠ none → gateOpen (waiting (statusOf 1)) j = true →
          ownTag id .status < ownTag id j := by
  refine ⟨by decide, by decide, by decide, rfl, rfl, ?_, _, rfl, rfl, rfl, rfl, rfl, ?_⟩
  · intro k; cases k <;> decide
  · intro j; cases j <;> decide +kernel

def marked : State := { sending (statusOf 5) with supply.flag := true, supply.reportedMark := some 5 }

def replyOut : OutFrame := own .reply (.reply .data 1 2 0 [1])

/-- A reply under way with these bodies. -/
def replying (bodies : List (List Word16)) : State :=
  { sending replyOut with report.query := { busy := some { code := .data, total := 2, bodies := bodies }, refused := 3 } }

def splitOut : OutFrame := own .splitReport (.splitReport 0 ⟨0, 0⟩ 0 500 4096 ⟨.none, .none⟩ ⟨.gripping, .gripping⟩)

/-- The frame in transmission and its echo for each of the kinds. -/
theorem witness_CleanTransmissionsReachTheirBlocks :
    (sending command).link.transmitting = some command ∧ (sending command).link.identity = some identity ∧
      (⟨9, bitsOf command⟩ : BusReading) = ⟨9, (command.onWire identity).levels⟩ ∧ (sending command).link.quiet = false ∧
      command.kind = commandKind .front ∧ command.content = .command 100 .drive false true ∧
      (sending (statusOf 5)).link.transmitting = some (statusOf 5) ∧ (statusOf 5).kind = .status ∧
      (sending (statusOf 5)).supply.flag = false ∧ marked.link.transmitting = some (statusOf 5) ∧ marked.supply.flag = true ∧
      marked.supply.reportedMark = some 5 ∧ (5 : BitVec 32).toNat ≤ (5 : BitVec 32).toNat ∧
      (replying [[1]]).link.transmitting = some replyOut ∧ replyOut.kind = .reply ∧
      replyOut.content = .reply .data 1 2 0 [1] ∧
      (replying [[1]]).report.query.busy = some { code := .data, total := 2, bodies := [1] :: [] } ∧
      (replying [[1], [2]]).report.query.busy = some { code := .data, total := 2, bodies := [1] :: [2] :: [] } ∧
      (replying [[1], [2]]).link.state ≠ .listen ∧ { replying [[1], [2]] with link.state := .listen }.link.state = .listen ∧
      (sending splitOut).link.transmitting = some splitOut ∧
      splitOut.kind = .splitReport :=
  by and_intros <;> first | rfl | decide

/-- A frame in transmission while a newer one waits in its mailbox. -/
def superseded : State := { sending command with link.mailboxes := noMail.set .frontCommand (some command) }

/-- The number of the first recessive tag bit of the command, and the bits up to it, that one read dominant. -/
def lostAt : Nat := ((bitsOf command).drop 1).findIdx (fun l => l == .recessive) + 1
def lostEcho : List BusLevel := (bitsOf command).take lostAt ++ [.dominant]

/-- The bits up to the first payload bit, that one read the other way. -/
def badEcho : List BusLevel :=
  (bitsOf command).take 19 ++ [if (bitsOf command).getD 19 .dominant = .dominant then .recessive else .dominant]

/-- A frame in transmission at an echo count. -/
def echoing (n : Nat) (m : Mode) : State := { sending command with link.echoCount := n, modes.mode := m }

theorem witness_LostAndMismatchedFramesReturn :
    (echoing 14 .dozing).link.quiet = false ∧ (echoing 14 .dozing).link.transmitting = some command ∧
      (echoing 14 .dozing).link.identity = some identity ∧
      (command.onWire identity).levels = (bitsOf command).take lostAt ++ .recessive :: (bitsOf command).drop (lostAt + 1) ∧
      1 ≤ ((bitsOf command).take lostAt).length ∧ ((bitsOf command).take lostAt).length ≤ 11 ∧
      (∃ x, (command.onWire identity).levels = (bitsOf command).take 19 ++ x :: (bitsOf command).drop 20 ∧
        ∃ y, badEcho = (bitsOf command).take 19 ++ [y] ∧ x ≠ y) ∧ ¬ ((bitsOf command).take 19).length ≤ 11 ∧
      (echoing 14 .dozing).link.mailboxes.get command.kind = none ∧ (echoing 14 .dozing).link.echoCount < 15 ∧
      superseded.link.transmitting = some command ∧ superseded.link.mailboxes.get command.kind = some command ∧
      superseded.link.quiet = false ∧ dozing.link.transmitting = none ∧
      echoOf (sending command) lostEcho = some .lost ∧ echoOf (sending command) lostEcho ≠ some .clean ∧
      echoOf (sending command) lostEcho ≠ some .mismatch ∧ echoOf (sending command) badEcho ≠ some .lost := by
  refine ⟨rfl, rfl, rfl, by decide +kernel, by decide +kernel, by decide +kernel,
    ⟨(bitsOf command).getD 19 .dominant, by decide +kernel,
      (if (bitsOf command).getD 19 .dominant = .dominant then .recessive else .dominant), rfl, by decide +kernel⟩,
    by decide +kernel, by decide, by decide, rfl, rfl, rfl, rfl, by decide +kernel, by decide +kernel, by decide +kernel,
    by decide +kernel⟩

/-- A halted part in its quiet phase. -/
def quieting (s : State) : State := { s with link.quiet := true, modes.mode := .supplyHalted }

theorem witness_QuietPhaseEndsInListen :
    (quieting (waiting command)).link.quiet = true ∧ (quieting (waiting command)).link.state = .active ∧
      (quieting (waiting command)).link.identity = some identity ∧ (quieting (waiting command)).link.transmitting = none ∧
      (quieting (waiting command)).link.bus.reads [] = .free ∧
      (∀ k, (quieting (waiting command)).link.mailboxes.get k ≠ none → gateOpen (quieting (waiting command)) k = false) ∧
      (quieting (sending command)).link.transmitting = some command ∧
      (∀ k, (quieting (sending command)).link.mailboxes.get k ≠ none → gateOpen (quieting (sending command)) k = false) ∧
      echoOf (quieting (sending command)) lostEcho = some .lost ∧ echoOf (quieting (sending command)) badEcho = some .mismatch ∧
      (quieting (sending command)).link.mailboxes.get command.kind = none ∧
      (quieting (sending command)).link.echoCount < 15 ∧ gateOpen (quieting (sending command)) .frontCommand = false ∧
      gateOpen (quieting (sending splitOut)) splitOut.kind = true := by
  refine ⟨rfl, rfl, rfl, rfl, rfl, ?_, rfl, ?_, by decide +kernel, by decide +kernel, rfl, by decide, by decide +kernel,
    by decide +kernel⟩
  · intro k; cases k <;> decide
  · intro k; cases k <;> decide

/-- After an echo fault no level read frees the bus, an invalid end of the frame is not counted, and a second station's frame of the
part's own station that completes there is a conflict (R146, R147, R150, R155). -/
theorem test_aborted_frame_holds_the_bus :
    let mismatched := after (.echoMismatch ⟨1, badEcho⟩) (echoing 3 .dozing)
    let free := List.replicate 12 BusLevel.recessive
    (after (.offer ⟨2, free⟩) mismatched).link.transmitting = none ∧
      (after (.offer ⟨2, free⟩) mismatched).link.bus = .aborted ∧
      (after (.frameReception 2 (badEcho ++ free)) mismatched).report.counters.badChecks = 0 ∧
      (after (.frameReception 2 (badEcho ++ free)) mismatched).link.bus = .gap 0 ∧
      (after (.frameReception 2 conflict.levels) mismatched).report.counters.stationConflicts = 1 := by decide +kernel

/-- A part in SAFE at an echo count of 15 that sends a REPLY, two queries having been refused, and its echo cut off by a wrong
start bit. -/
def lastReply : State :=
  { replying [[1], [2]] with link.echoCount := 15, modes.mode := .safe, report.query.refused := 2 }
def lastEcho : List BusLevel := [.recessive]

theorem witness_SixteenthMismatchMutesTheLink :
    echoOf (echoing 15 .driving) badEcho = some .mismatch ∧ 15 ≤ (echoing 15 .driving).link.echoCount ∧
      (echoing 15 .driving).modes.mode = .driving ∧ (echoing 15 .dozing).modes.mode ≠ .driving ∧
      (echoing 15 .dozing).modes.mode ≠ .fading ∧ (echoing 15 .driving).engine.flight = none ∧
      (flying .driving (echoing 15 .driving)).engine.flight ≠ none ∧
      echoOf (flying .driving (echoing 15 .driving)) badEcho = some .mismatch ∧
      (requested ⟨.mark, 7, 0⟩ (echoing 15 .driving)).report.request = some ⟨.mark, 7, 0⟩ ∧
      lastReply.link.transmitting.map (·.kind) = some .reply ∧ lastReply.report.query.busy.isSome = true ∧
      echoOf lastReply lastEcho = some .mismatch ∧ (echoing 15 .driving).link.mailboxes.reply = none ∧
      (echoing 15 .driving).link.transmitting.map (·.kind) = some .frontCommand := by decide +kernel

/-- A REPLY that the sixteenth mismatch returns is lost: the service is IDLE and keeps its refused count (R174). -/
theorem test_reply_is_lost_at_muted :
    (after (.echoMismatch ⟨1, lastEcho⟩) lastReply).report.query = { busy := none, refused := 2 } := by decide +kernel

theorem witness_ArbitrationIsDecidedByTheTags :
    (tagWord 0 0 0).toNat < ownTag identity command.kind ∧ ownTag identity command.kind ≤ (tagWord 7 15 15).toNat ∧
      BusLevel.dominant ∈ [BusLevel.recessive, .dominant] := by decide +kernel

/-! ## Witnesses: decodes -/

/-- The rear status stream of section 2.9: FRESH, last sequence 4, deadline 5 010, window 10, its frame arrived at 5 008. -/
def rearWaiting (sequence : BitVec 4) : State :=
  { dozing with
    streams.rearStatus := { StreamRecord.reset with
      window := some 10, lastSequence := some 4, lastArrival := 5000, state := .fresh, deadline := some 5010 }
    intake := [entry (.stream .rearStatus) sequence statusBody 5008] }

/-- Section 2.9: the waiting expiry is not taken when sequence 5 is decoded at 5 011; with sequence 4 again it is taken at the end
of the decode. -/
theorem test_arrival_waiting_behind_others :
    ((after (.decode 5011) (rearWaiting 5)).streams.rearStatus.state = .fresh ∧
      (after (.decode 5011) (rearWaiting 5)).streams.rearStatus.deadline = some 5018) ∧
    (after (.decode 5011) (rearWaiting 4)).streams.rearStatus.state = .late ∧
      (after (.decode 5011) (rearWaiting 4)).streams.rearStatus.deadline = some 5020 ∧
      (after (.decode 5011) (rearWaiting 4)).streams.rearStatus.repeats = 1 := by decide +kernel

/-- A part one of whose streams is FRESH since 1, its deadline at 50, and whose FRONT cap is held until 50: both are due at 60. -/
def overdue (i : StreamId) : State :=
  setStream i (record .fresh 0) { dozing with table.stability := ⟨some { cap := 1000, expiry := some 50 }, none⟩ }

def malformedPower : IntakeEntry := entry (.stream .power) 2 [1] 4
def badDirection : IntakeEntry := entry (.stream .demand) 2 [100, 0x8003, 0] 4
def badProfile : IntakeEntry := entry (.stream .demand) 2 [100, 0x8001, 2] 4
def badFrontCap : IntakeEntry := entry (.stream .stability) 2 [16001, 0, 10] 4
def badRearCap : IntakeEntry := entry (.stream .stability) 2 [16000, 65534, 10] 4

theorem witness_RejectedFrameChangesNoStream :
    malformedPower.length.toNat ≠ malformedPower.expectedLength ∧ badDirection.length.toNat = badDirection.expectedLength ∧
      (payloadWord badDirection.payload 2).toNat % 4 = 3 ∧
      (payloadWord badProfile.payload 2).toNat % 4 ≠ 3 ∧ 1 < (payloadWord badProfile.payload 3).toNat ∧
      16001 ≤ (payloadWord badFrontCap.payload 1).toNat ∧ (payloadWord badFrontCap.payload 1).toNat ≤ 65534 ∧
      ¬ (16001 ≤ (payloadWord badRearCap.payload 1).toNat) ∧ (payloadWord badRearCap.payload 2).toNat ≤ 65534 ∧
      malformedPower.role = .stream .power ∧ ((overdue .power).streams.get .power).deadline = some 50 ∧
      earlier malformedPower.arrival 50 = true ∧ reached 60 50 = true ∧ reached 49 50 = false ∧
      ((after (.decode 60) (holding malformedPower (overdue .power))).streams.get .power).state = .late ∧
      (after (.decode 60) (holding badFrontCap (overdue .stability))).table.stability = ⟨none, none⟩ := by decide +kernel

def caps : IntakeEntry := entry (.stream .stability) 2 [1000, 65535, 10] 4

def goodPower (sequence : BitVec 4) : IntakeEntry := entry (.stream .power) sequence [800, 300] 4

/-- A part whose POWER stream is LOST at a qualifying count. -/
def lostPower (q : Nat) : State := { dozing with streams.power := record .lost q }

/-- A DEMAND entry beyond the demand limit, and a part whose DEMAND stream is LOST. -/
def bigDemand (sequence : BitVec 4) : IntakeEntry := entry (.stream .demand) sequence [20000, 0x8001, 0] 4
def lostDemand : State := { dozing with streams.demand := record .lost 1 }

theorem witness_RepeatAndQualifyingFramesAreNotUsed :
    ((holding (goodPower 1) (lostPower 1)).headIs (goodPower 1) [] (.stream .power) ∧
      (holding (bigDemand 1) lostDemand).headIs (bigDemand 1) [] (.stream .demand) ∧
      fieldsPass (goodPower 1).role (goodPower 1).payload ∧ fieldsPass (bigDemand 1).role (bigDemand 1).payload) ∧
      (lostPower 1).streams.power.lastSequence = some (goodPower 1).sequence ∧
      (lostPower 1).streams.power.lastSequence ≠ some (goodPower 2).sequence ∧ (lostPower 1).streams.power.state = .lost ∧
      (lostPower 1).streams.power.deadline = some 50 ∧ earlier (goodPower 2).arrival 50 = true ∧
      earlier { goodPower 2 with arrival := 50 }.arrival 50 = false ∧ (lostPower 1).streams.power.qualifying < 2 ∧
      clampTo (-dozing.par.demandMax) dozing.par.demandMax (payloadWord (bigDemand 1).payload 1).toInt ≠
        (payloadWord (bigDemand 1).payload 1).toInt ∧
      lostDemand.streams.demand.lastSequence = some (bigDemand 1).sequence ∧ lostDemand.streams.demand.state = .lost ∧
      (holding caps (overdue .stability)).table.stability.get .front = some { cap := 1000, expiry := some 50 } ∧
      earlier caps.arrival 50 = true ∧ reached 60 50 = true := by
  refine ⟨⟨⟨rfl, rfl, rfl⟩, ⟨rfl, rfl, rfl⟩, ⟨(fun h => nomatch h), (fun h => nomatch h)⟩,
    ⟨fun _ => by decide, (fun h => nomatch h)⟩⟩, ?_⟩
  decide +kernel

/-- A POWER stream that went LATE at 4, its deadline at 104, with a frame that arrived at 4 still in the queue. -/
def lateAgain : State :=
  holding (goodPower 2) { dozing with streams.power := { record .late 0 with deadline := some 104 } }

/-- Decoded at 110, the frame makes the stream FRESH until 104, so LATE again at once (R35, R38); the decode sets the change flag and
places the one STATUS of its event, which carries it (R39, R167, R168). -/
theorem test_stream_that_is_late_again_is_reported :
    (after (.decode 110) lateAgain).streams.power.state = .late ∧
      (after (.decode 110) lateAgain).streams.power.deadline = some 204 ∧
      (after (.decode 110) lateAgain).records.power = ⟨800, 300⟩ ∧
      (after (.decode 110) lateAgain).report.placement = 1 ∧
      (after (.decode 110) lateAgain).streams.power.flag = .carried 1 := by decide +kernel

def reference : IntakeEntry := entry (.stream .reference) 2 [2000, 1] 4
def towing : IntakeEntry := entry (.stream .tow) 2 [1] 4

theorem witness_PowerReferenceAndTowFramesSetTheirRecords :
    (holding (goodPower 2) (lostPower 2)).headIs (goodPower 2) [] (.stream .power) ∧
      ((lostPower 2).streams.get .power).uses (goodPower 2) ∧
      (lostPower 2).params = some params ∧ (holding reference dozing).headIs reference [] (.stream .reference) ∧
      (dozing.streams.get .reference).uses reference ∧ (holding towing dozing).headIs towing [] (.stream .tow) ∧
      (dozing.streams.get .tow).uses towing ∧
      ((overdue .power).streamAfterUse 60 { goodPower 2 with arrival := 49 } [] .power).state = .fresh ∧
      ({ overdue .power with streams.power.deadline := some 104 }.streamAfterUse 110 (goodPower 2) [] .power).state = .late ∧
      (lateAgain.streamAfterUse 110 (goodPower 2) [] .power).state = .late ∧ lateAgain.streams.power.state = .late ∧
      lateAgain.streams.power.flag ≠ .set ∧ (lostPower 2).streams.power.state ≠ .fresh ∧
      (overdue .power).streams.power.state = .fresh ∧ dozing.streams.tow.state = .unheard ∧
      { dozing with streams.tow.state := .lost }.streams.tow.state = .lost :=
  ⟨⟨rfl, rfl, rfl⟩, ⟨by decide, .inr ⟨rfl, 50, rfl, by decide⟩⟩, rfl, ⟨rfl, rfl, rfl⟩,
    ⟨by decide, .inl (by decide)⟩, ⟨rfl, rfl, rfl⟩, ⟨by decide, .inl (by decide)⟩, by decide +kernel, by decide +kernel,
    by decide +kernel, rfl, by decide, by decide, rfl, rfl, rfl⟩

/-- A FRONT STATUS entry with these flags (fault, accepting, ready). -/
def statusEntry (flags echoed : Word16) : IntakeEntry :=
  entry (.stream .frontStatus) 2 [1390, 100, 3500, 2000, echoed, flags] 4

/-- A part whose FRONT axle is in a state. -/
def frontAxle (m : Mode) (st : AxleState) (tracking : Nat) : State :=
  { inMode m with axles.front := { state := st, tracking := tracking, sinceActivation := 4, line := [⟨7, 100⟩] } }

/-- The record that such an entry carries. -/
def carried (flags echoed : Word16) : AxleStatus := statusContent (statusEntry flags echoed).payload

theorem carried_by_entry :
    (carried 0 0).carriedBy (statusEntry 0 0).payload ∧ (carried 1 0).carriedBy (statusEntry 1 0).payload ∧
      (carried 7 0).carriedBy (statusEntry 7 0).payload ∧ (carried 3 7).carriedBy (statusEntry 3 7).payload ∧
      (carried 3 9).carriedBy (statusEntry 3 9).payload := by
  unfold AxleStatus.carriedBy
  decide +kernel

theorem witness_StatusFrameWritesItsCellsAndMovesItsAxle :
    (holding (statusEntry 7 0) dozing).headIs (statusEntry 7 0) [] (.stream (statusStream .front)) ∧
      (dozing.streams.get (statusStream .front)).uses (statusEntry 7 0) ∧ dozing.params = some params ∧
      (carried 7 0).carriedBy (statusEntry 7 0).payload ∧ (carried 7 0).fault = true ∧ (carried 0 0).ready = false ∧
      dozing.axles.front.state = .offline ∧ (carried 1 0).ready = true ∧ (carried 1 0).fault = false ∧
      (frontAxle .dozing .faulted 3).axles.front.state = .faulted ∧ (frontAxle .driving .faulted 3).modes.mode ≠ .dozing ∧
      (carried 1 0).accepting = false ∧
      (frontAxle .driving .active 3).axles.front.state.inService = true ∧ (frontAxle .driving .active 3).modes.mode = .driving ∧
      (frontAxle .driving .active 3).axles.rear.state.unable = true ∧ (frontAxle .driving .active 3).engine.flight = none :=
  ⟨⟨rfl, rfl, rfl⟩, ⟨by decide, .inl (by decide)⟩, rfl, carried_by_entry.2.2.1, rfl, rfl, rfl, rfl, rfl, rfl,
    by decide, rfl, rfl, rfl, rfl, rfl⟩

/-- An entry into FAULTED with its trigger on: set and waiting in DRIVING, which it fades, merged into a waiting request, and
filled at once in DOZING. -/
theorem witness_faulted_axle_is_a_capture_trigger :
    params.enables.axleFaulted = true ∧
      (after (.decode 60) (holding (statusEntry 7 0) (frontAxle .driving .active 3))).report.request =
        some ⟨.frontFaulted, 60, 0⟩ ∧
      (after (.decode 60) (holding (statusEntry 7 0) (requested ⟨.mark, 7, 3⟩ (frontAxle .driving .active 3)))).report.request =
        some ⟨.mark, 7, 4⟩ ∧
      (after (.decode 60) (holding (statusEntry 7 0) (frontAxle .dozing .standby 3))).report.slotOne.map (·.source) =
        some .frontFaulted := by decide +kernel

theorem witness_CommandReturnCheckMovesTheTrackingCount :
    (holding (statusEntry 3 7) (frontAxle .driving .active 7)).headIs (statusEntry 3 7) [] (.stream (statusStream .front)) ∧
      (dozing.streams.get (statusStream .front)).uses (statusEntry 3 7) ∧
      (carried 3 7).carriedBy (statusEntry 3 7).payload ∧ (carried 3 7).accepting = true ∧ (carried 3 7).echoed = 7 ∧
      (frontAxle .driving .active 7).axles.front.line = [] ++ ⟨7, 100⟩ :: [] ∧
      (∀ x ∈ (frontAxle .driving .derated 16).axles.front.line, x.sequence ≠ (carried 3 9).echoed) ∧
      (frontAxle .driving .derated 16).axles.front.tracking ≤ 16 ∧
      (frontAxle .driving .derated 16).axles.front.state.inService = true :=
  ⟨⟨rfl, rfl, rfl⟩, ⟨by decide, .inl (by decide)⟩, carried_by_entry.2.2.2.1, rfl, rfl, rfl,
    by decide, by decide, rfl⟩

def ready : IntakeEntry := entry (.stream .demand) 2 [1000, 0x8001, 0] 4
def unready : IntakeEntry := entry (.stream .demand) 2 [1000, 0x0001, 0] 4

/-- The record that a DEMAND entry carries. -/
def asked (e : IntakeEntry) : DemandRecord := demandContent params e.payload

theorem asked_by_entry :
    ((asked ready).carriedBy params ready.payload ∧ (asked unready).carriedBy params unready.payload) ∧
      (asked ready).ready = true ∧ (asked unready).ready = false := by
  unfold DemandRecord.carriedBy
  decide +kernel

theorem demands_pass : fieldsPass ready.role ready.payload ∧ fieldsPass unready.role unready.payload :=
  ⟨⟨fun _ => by decide, (fun h => nomatch h)⟩, ⟨fun _ => by decide, (fun h => nomatch h)⟩⟩

theorem witness_ReadyDemandWakesThePart :
    ∀ m, (holding ready (frontAxle m .standby 0)).headIs ready [] (.stream .demand) ∧
      fieldsPass ready.role ready.payload ∧ (asked ready).carriedBy params ready.payload ∧
      (frontAxle m .standby 0).streams.demand.uses ready ∧ (frontAxle m .standby 0).params = some params ∧
      (frontAxle m .standby 0).modes.mode = m ∧ (frontAxle m .standby 0).filters.hold.accepted = .inactive ∧
      (frontAxle m .standby 0).link.state ≠ .muted ∧ (frontAxle m .standby 0).axles.front.state.unable = false ∧
      (asked ready).ready = true ∧ (frontAxle m .standby 0).engine.flight = none ∧
      (flying .driving (frontAxle m .standby 0)).engine.flight = some (quietSnapshot .driving) :=
  fun _ => ⟨⟨rfl, rfl, rfl⟩, demands_pass.1, asked_by_entry.1.1,
    ⟨(fun h => nomatch h), .inl (fun h => nomatch h)⟩, rfl, rfl, rfl, (fun h => nomatch h), rfl, asked_by_entry.2.1, rfl, rfl⟩

/-- A DEMAND that wakes nothing: without ready, with both axles unable, with HOLD active, with the link MUTED, and outside DOZING
and FADING. -/
theorem witness_DemandThatWakesNothingSetsItsRecord :
    (holding unready dozing).headIs unready [] (.stream .demand) ∧ fieldsPass unready.role unready.payload ∧
      (asked unready).carriedBy dozing.par unready.payload ∧ dozing.streams.demand.uses unready ∧ dozing.modes.mode = .dozing ∧
      (asked unready).ready = false ∧ (holding ready dozing).headIs ready [] (.stream .demand) ∧
      dozing.axles.front.state.unable = true ∧ dozing.axles.rear.state.unable = true ∧
      { dozing with filters.hold.accepted := .active }.filters.hold.accepted = .active ∧
      (muted 5 false).link.state = .muted ∧ (inMode .supplyDown).modes.mode ≠ .driving ∧
      (inMode .supplyDown).modes.mode.runsPasses = true ∧ dozing.engine.flight = none ∧
      (flying .fading (inMode .fading)).engine.flight = some (quietSnapshot .fading) :=
  ⟨⟨rfl, rfl, rfl⟩, demands_pass.2, asked_by_entry.1.2, ⟨by decide, .inl (by decide)⟩, rfl, asked_by_entry.2.2, ⟨rfl, rfl, rfl⟩,
    rfl, rfl, rfl, rfl, by decide, rfl, rfl, rfl⟩

theorem witness_DemandInDrivingRequestsAPassOrFades :
    (holding unready (inMode .driving)).headIs unready [] (.stream .demand) ∧ fieldsPass unready.role unready.payload ∧
      (asked unready).carriedBy params unready.payload ∧ dozing.streams.demand.uses unready ∧ (asked unready).ready = false ∧
      (asked ready).ready = true ∧ (inMode .driving).engine.flight = none ∧
      (flying .driving (inMode .driving)).engine.flight = some (quietSnapshot .driving) :=
  ⟨⟨rfl, rfl, rfl⟩, demands_pass.2, asked_by_entry.1.2, ⟨by decide, .inl (by decide)⟩, asked_by_entry.2.2, asked_by_entry.2.1, rfl,
    rfl⟩

theorem witness_StabilityFrameSetsTheCaps :
    (holding caps (inMode .driving)).headIs caps [] (.stream .stability) ∧ fieldsPass caps.role caps.payload ∧
      dozing.streams.stability.uses caps ∧ ((10 : Nat) : Int) = max 0 (min 1000 (payloadWord caps.payload 3).toInt) ∧
      (inMode .driving).modes.mode.runsPasses = true ∧ dozing.modes.mode.runsPasses = false ∧
      (flying .driving (inMode .driving)).engine.flight = some (quietSnapshot .driving) ∧
      ((after (.decode 5) (holding caps (inMode .driving))).table.stability.get .front).map (·.cap) ≠
        ((inMode .driving).table.stability.get .front).map (·.cap) := by
  refine ⟨⟨rfl, rfl, rfl⟩, ⟨(fun h => nomatch h), fun _ k h => ?_⟩, ⟨by decide, .inl (by decide)⟩, by decide, rfl, rfl, rfl,
    by decide +kernel⟩
  rcases h with rfl | rfl <;> decide

def queryEntry (k : Word16) : IntakeEntry := entry .query 2 [k, 1] 4
/-- A part in SUPPLY HALTED whose link listens, which has refused two queries. -/
def listening : State := { inMode .supplyHalted with link.state := .listen, report.query.refused := 2 }

def seenEntry : IntakeEntry := entry .alertSeen 2 [9] 4

theorem witness_QueryEntriesAreHandedOn :
    (∀ k, (holding (queryEntry k) dozing).headIs (queryEntry k) [] .query ∧ payloadWord (queryEntry k).payload 1 = k) ∧
      (holding (queryEntry 7) dozing).recognition ≠ [] ∧ (holding (queryEntry 7) dozing).report.query.busy = none ∧
      (holding (queryEntry 7) dozing).takesFrames ∧ (holding (queryEntry 7) listening).link.state = .listen ∧
      (holding (queryEntry 7) listening).recognition ≠ [] ∧ (holding (queryEntry 7) listening).report.query.busy = none ∧
      (holding seenEntry dozing).headIs seenEntry [] .alertSeen :=
  ⟨fun _ => ⟨⟨rfl, rfl, rfl⟩, rfl⟩, by decide +kernel, rfl, ⟨by decide, rfl⟩, rfl, by decide +kernel, rfl, rfl, rfl, rfl⟩

/-! ## Witnesses: expiries -/

/-- A driving part with one stream in a state, its deadline at 50. -/
def aging (i : StreamId) (st : StreamState) : State := setStream i (record st 1) (inMode .driving)

theorem witness_WindowExpiryWaitsForEarlierEntries :
    reached 49 50 = false ∧ reached 50 50 = true ∧ ((aging .power .fresh).streams.get .power).deadline = some 50 ∧
      ((aging .power .fresh).streams.get .power).state = .fresh ∧ ((aging .power .lost).streams.get .power).state = .lost ∧
      (∀ e ∈ (aging .power .fresh).intake, e.role = .stream .power → earlier e.arrival 50 = false) ∧
      (∃ e ∈ (holding (goodPower 2) (aging .power .fresh)).intake, e.role = .stream .power ∧ earlier e.arrival 50 = true) :=
  ⟨by decide, by decide, rfl, rfl, rfl, by decide +kernel, _, .head _, rfl, by decide⟩

/-- A deadline at 4, 6 ms before which the 32-bit time has not yet wrapped (R32). -/
theorem test_deadline_across_the_wrap :
    later 4294967290 10 = 4 ∧ reached 4294967295 4 = false ∧ reached 3 4 = false ∧ reached 4 4 = true ∧
      earlier 4294967294 4 = true ∧ earlier 4 4294967294 = false := by decide

theorem witness_LostStreamTakesItsFallback :
    ∀ i, (aging i .late).params = some params ∧ ((aging i .late).streams.get i).state = .late ∧
      ((aging i .late).streams.get i).deadline = some 50 ∧ reached 50 50 = true ∧
      (∀ e ∈ (aging i .late).intake, e.role = .stream i → earlier e.arrival 50 = false) ∧
      (aging .tow .late).records.towPresent = false ∧ params.enables.demandLost = true ∧
      (aging i .late).report.request = none ∧
      (requested ⟨.mark, 7, 255⟩ (aging i .late)).report.request = some ⟨.mark, 7, 255⟩ :=
  fun i => ⟨rfl, by cases i <;> rfl, by cases i <;> rfl, by decide, (fun _ h => nomatch h), rfl, by decide +kernel,
    by cases i <;> rfl, rfl⟩

/-- The demand stream entering LOST sets the request, or merges it, not above 255, and the power stream does not (R172). -/
theorem test_lost_demand_is_a_capture_trigger :
    (after (.windowExpiry 50 .demand) (aging .demand .late)).report.request = some ⟨.demandLost, 50, 0⟩ ∧
      (after (.windowExpiry 50 .demand) (requested ⟨.mark, 7, 255⟩ (aging .demand .late))).report.request =
        some ⟨.mark, 7, 255⟩ ∧
      (after (.windowExpiry 50 .power) (aging .power .late)).report.request = none := by decide +kernel

/-- A driving part with a FRONT cap whose hold expires at 50. -/
def capped : State :=
  { inMode .driving with table.stability := ⟨some { cap := 1000, expiry := some 50 }, some { cap := 500, expiry := none }⟩ }

theorem witness_HoldExpiryRemovesTheCaps :
    capped.table.stability.get .front = some { cap := 1000, expiry := some 50 } ∧ reached 49 50 = false ∧
      reached 50 50 = true ∧ (∀ e ∈ capped.intake, e.role = .stream .stability → earlier e.arrival 50 = false) ∧
      (∃ e ∈ (holding caps capped).intake, e.role = .stream .stability ∧ earlier e.arrival 50 = true) ∧
      capped.table.stability.get .rear = some { cap := 500, expiry := none } ∧ capped.modes.mode.runsPasses = true ∧
      capped.engine.flight = none :=
  ⟨rfl, by decide, by decide, (fun _ h => nomatch h), ⟨_, .head _, rfl, by decide⟩, rfl, rfl, rfl⟩

/-- A driving part whose pass timer is due at 50. -/
def timed : State := { inMode .driving with engine.timer := some 50 }

theorem witness_PassTimerExpiryRequestsAPass :
    timed.params = some params ∧ timed.engine.timer = some 50 ∧ reached 49 50 = false ∧ reached 50 50 = true ∧
      timed.modes.mode.runsPasses = true ∧ timed.engine.flight = none ∧
      (flying .driving timed).engine.flight = some (quietSnapshot .driving) := ⟨rfl, rfl, by decide, by decide, rfl, rfl, rfl⟩

/-! ## Witnesses: pass ends -/

/-- A pass of a mode in flight at a part in that mode, the FRONT axle in a state and its in-service mark as given. -/
def ending (m : Mode) (st : AxleState) (mark : Bool) : State :=
  flying m { frontAxle m st 0 with issuer.inService := ⟨mark, false⟩, records.status.front.accepting := true }

/-- What the pass in flight computes. -/
def outcome (s : State) (m : Mode) : PassOut :=
  computePass s.par (quietSnapshot m) s.engine.previous s.grip (s.engine.passNumber + 1)

/-- A fading part whose previous commands the pass in flight cannot yet take to 0. -/
def rolling (m : Mode) : State :=
  { ending m .active true with
    engine.flight := some { quietSnapshot m with table := workedSnapshot.table }, engine.previous := ⟨2400, 3300⟩ }

/-- A snapshot of SUPPLY DOWN with its SUPPLY cells present. -/
def supplySnapshot : Snapshot :=
  { quietSnapshot .supplyDown with
    table := { workedSnapshot.table with
      driveline := (acceptedTable params).driveline, supply := ⟨some (symmetric 1800), some (symmetric 2700)⟩ } }

/-- A driving part at a pass end at which a pass is pending, resets are deferred and FRONT is activated. -/
def busyEnd : State :=
  { ending .driving .standby false with
    engine := { (ending .driving .standby false).engine with
      pendingPass := true, previous := ⟨2400, 3300⟩, deferred := [.previousCommands, .regulator .front] } }

theorem witness_PassEndWritesTheResults :
    (∀ a, (fun b => b == Axle.front) a = true ↔
        busyEnd.modes.mode = .driving ∧ (busyEnd.axles.get a).state = .standby ∧
          (busyEnd.records.status.get a).accepting = true) ∧
      (∀ a, (fun _ => false) a = true ↔
        (ending .driving .active true).modes.mode = .driving ∧ ((ending .driving .active true).axles.get a).state = .standby ∧
          ((ending .driving .active true).records.status.get a).accepting = true) ∧
      (busyEnd.engine.flight = some (quietSnapshot .driving) ∧ busyEnd.engine.pendingPass.toNat + 1 + 0 = 2 ∧
        busyEnd.modes.mode.runsPasses = true ∧ (ending .driving .active true).engine.pendingPass.toNat = 0 ∧
        DeferredReset.regulator .front ∈ busyEnd.engine.deferred ∧ DeferredReset.regulator .rear ∉ busyEnd.engine.deferred ∧
        (ending .driving .active true).engine.flight = some (quietSnapshot .driving) ∧
        (ending .driving .active true).modes.mode = .driving ∧
        (ending .driving .active true).exception = none ∧ (ending .fading .active true).modes.mode.runsPasses = true ∧
        (rolling .fading).engine.flight = some { quietSnapshot .fading with table := workedSnapshot.table } ∧
        (computePass (rolling .fading).par { quietSnapshot .fading with table := workedSnapshot.table }
          (rolling .fading).engine.previous (rolling .fading).grip ((rolling .fading).engine.passNumber + 1)).record.final ≠
          ⟨0, 0⟩ ∧
        (ending .supplyDown .active true).modes.mode.runsPasses = true ∧ (quietSnapshot .driving).mode ≠ .supplyDown ∧
        supplySnapshot.table.supply.get .front = some (symmetric 1800) ∧ supplySnapshot.mode = .supplyDown ∧
        (computePass params supplySnapshot ⟨2400, 3300⟩ ⟨.reset, .reset⟩ 1).record.final ≠ ⟨0, 0⟩ ∧
        (ending .driving .active true).link.state ≠ .listen ∧ (ending .driving .active true).link.quiet = false) :=
  ⟨fun a => by cases a <;> decide +kernel, fun a => by cases a <;> decide +kernel, by decide +kernel⟩

/-- The pass in flight of that part: the pending one starts at the pass end from a new snapshot, and the activated axle's request
leaves another pending; the deferred resets have their word after step 1 (R8). -/
theorem test_pending_pass_and_deferred_resets :
    ((after (.passEnd 30) busyEnd).engine.flight.map fun sn => (sn.time, sn.lastStartBefore)) =
        some (30, busyEnd.engine.lastStart) ∧
      (after (.passEnd 30) busyEnd).engine.pendingPass = true ∧ (after (.passEnd 30) busyEnd).engine.previous = ⟨0, 0⟩ ∧
      (after (.passEnd 30) busyEnd).table.grip.front = none ∧ (after (.passEnd 30) busyEnd).table.grip.rear ≠ none := by
  decide +kernel

/-- The worked pass of section 1.14, taken at 2 000 with FRONT out of GRIPPING since `since`. -/
def limited (since : Time) : State :=
  { ending .driving .active true with
    engine.flight := some { workedSnapshot with time := 2000, lastStartBefore := 1990 }
    engine.previous := ⟨2400, 3300⟩
    grip := ⟨{ ceiling := some 4000, state := .slipping, limitingSince := some since }, .reset⟩ }

/-- GRIP LIMITING becomes true from 1 000 ms on, keeps its value below, and ends with a deferred reset of FRONT (R169). -/
theorem test_grip_limiting :
    (after (.passEnd 2000) (limited 1000)).report.gripLimiting = true ∧
      (after (.passEnd 2000) (limited 1001)).report.gripLimiting = false ∧
      (after (.passEnd 2000) { limited 1001 with report.gripLimiting := true }).report.gripLimiting = true ∧
      (after (.passEnd 2000)
        { limited 1000 with engine.deferred := [.regulator .front] }).report.gripLimiting = false := by decide +kernel

/-- A part at a pass end whose FRONT mailbox still holds the command of the pass before, and the SPLIT REPORT mailbox its report. -/
def replacing : State :=
  { ending .driving .active true with
    link.mailboxes := (noMail.set .frontCommand (some command)).set .splitReport (some splitOut) }

theorem witness_PassEndPlacesServiceAndReleaseFrames :
    (ending .driving .active true).params = some params ∧ (ending .driving .active true).axles.front.state.inService = true ∧
      (ending .driving .faulted true).axles.front.state.inService = false ∧
      (ending .driving .faulted true).issuer.inService.front = true ∧
      (ending .driving .faulted false).issuer.inService.front = false ∧ (ending .driving .active true).takesFrames ∧
      (ending .driving .active true).modes.mode = .driving ∧ (quietSnapshot .driving).mode = .driving ∧
      (rolling .fading).modes.mode.runsPasses = true ∧ (quietSnapshot .fading).mode = .fading ∧
      (ending .supplyDown .active true).modes.mode.runsPasses = true ∧ supplySnapshot.mode = .supplyDown ∧
      (ending .driving .active true).commandsReplaced = 0 ∧ replacing.commandsReplaced = 1 ∧ replacing.supersededAfter = 1 ∧
        (after (.passEnd 20) replacing).report.counters.superseded = 1 :=
  ⟨rfl, rfl, rfl, rfl, rfl, ⟨by decide, rfl⟩, rfl, rfl, rfl, rfl, rfl, rfl, by decide +kernel⟩

theorem witness_PassEndActivatesStandbyAxles :
    (ending .driving .standby false).engine.flight = some (quietSnapshot .driving) ∧
      (ending .driving .standby false).modes.mode = .driving ∧ (ending .driving .standby false).axles.front.state = .standby ∧
      (ending .driving .standby false).records.status.front.accepting = true ∧
      (flying .driving (frontAxle .driving .standby 0)).records.status.front.accepting = false ∧
      (ending .fading .standby false).modes.mode ≠ .driving ∧
      (flying .fading (ending .driving .standby false)).engine.flight = some (quietSnapshot .fading) ∧
      (outcome (flying .fading (ending .driving .standby false)) .fading).record.final = ⟨0, 0⟩ :=
  ⟨rfl, rfl, rfl, rfl, rfl, by decide, rfl, by decide +kernel⟩

theorem witness_PassEndingOutsideDrivePlacesNoCommand :
    (flying .driving dozing).engine.flight = some (quietSnapshot .driving) ∧
      (flying .driving dozing).modes.mode.runsPasses = false ∧ (flying .driving dozing).engine.deferred = [] ∧
      (flying .driving dozing).takesFrames ∧
      { flying .driving dozing with engine.deferred := driveResets }.engine.deferred =
        [.previousCommands, .regulator .front, .regulator .rear] ∧
      { flying .driving dozing with engine.deferred := [.regulator .rear] }.engine.deferred = [.regulator .rear] :=
  ⟨rfl, rfl, rfl, ⟨by decide, rfl⟩, rfl, rfl⟩

/-- A pass whose torques DRIVELINE cuts. -/
def cutSnapshot : Snapshot :=
  { workedSnapshot with
    table := { ConstraintTable.reset with driveline := ⟨some (symmetric 600), some (symmetric 600)⟩ }, power := ⟨6000, 6000⟩ }
def cutting : State := { ending .driving .standby false with engine.flight := some cutSnapshot }

theorem witness_PassEndFillsTheCaptureRequest :
    cutting.engine.flight = some cutSnapshot ∧ cutting.params = some params ∧ cutting.axles.front.state = .standby ∧
      cutting.records.status.front.accepting = true ∧ cutting.report.request = none ∧
      (if params.enables.driveline then
        ((computePass params cutSnapshot cutting.engine.previous cutting.grip (cutting.engine.passNumber + 1)).cuts.filter
          fun c => c.row == .driveline).length else 0) = 2 ∧
      (requested ⟨.mark, 7, 254⟩ cutting).report.request = some ⟨.mark, 7, 254⟩ ∧ (254 : Nat) ≤ 255 ∧
      (ending .driving .active true).report.request = none ∧
      (if params.enables.driveline then
        ((outcome (ending .driving .active true) .driving).cuts.filter fun c => c.row == .driveline).length else 0) = 0 := by
  refine ⟨rfl, rfl, rfl, rfl, rfl, by decide +kernel, rfl, by decide, rfl, by decide +kernel⟩

theorem witness_ClosingPassEndsTheFadeOrTheSupplyRamp :
    (ending .fading .active true).engine.flight = some (quietSnapshot .fading) ∧
      (quietSnapshot .fading).mode = (ending .fading .active true).modes.mode ∧
      { ending .fading .active true with engine.deferred := [.regulator .rear] }.engine.deferred = [.regulator .rear] ∧
      (ending .fading .active true).modes.mode = .fading ∧
      (outcome (ending .fading .active true) .fading).record.final = ⟨0, 0⟩ ∧
      (ending .fading .active true).axles.front.state.inService = true ∧ (ending .fading .active true).takesFrames ∧
      (ending .supplyDown .active true).engine.flight = some (quietSnapshot .supplyDown) ∧
      (ending .supplyDown .active true).modes.mode = .supplyDown ∧
      (outcome (ending .supplyDown .active true) .supplyDown).record.final = ⟨0, 0⟩ ∧
      (ending .supplyDown .active true).link.state = .active ∧ (ending .supplyDown .active true).link.quiet = false ∧
      (ending .supplyDown .active true).modes.restorePending = false ∧
      { ending .supplyDown .active true with modes.restorePending := true }.modes.restorePending = true :=
  ⟨rfl, rfl, rfl, rfl, by decide +kernel, rfl, ⟨by decide, rfl⟩, rfl, rfl, by decide +kernel, rfl, rfl, rfl, rfl⟩

/-! ## Witnesses: inputs and timers -/

/-- A part with a filter in this condition. -/
def filtered (l : LineId) (m : Mode) (f : InputFilter) : State := { inMode m with filters := dozing.filters.set l f }

def rising : InputFilter := { line := .active, accepted := .inactive, candidate := some .active, timer := some 50 }
def falling : InputFilter := { line := .inactive, accepted := .active, candidate := some .inactive, timer := some 50 }

theorem witness_FiltersAcceptALevelThatLasts :
    Level.inactive = (dozing.filters.get .hold).line ∧ Level.active ≠ (State.reset.filters.get .hold).line ∧
      State.reset.params = none ∧ dozing.params = some params ∧ Level.active ≠ (dozing.filters.get .hold).accepted ∧
      Level.inactive ≠ ((filtered .hold .dozing rising).filters.get .hold).line ∧
      Level.inactive = ((filtered .hold .dozing rising).filters.get .hold).accepted ∧
      ((filtered .hold .driving rising).filters.get .hold).timer = some 50 ∧ reached 49 50 = false ∧ reached 50 50 = true ∧
      ((filtered .hold .driving rising).filters.get .hold).candidate = some .active ∧
      ((filtered .hold .driving falling).filters.get .hold).candidate = some .inactive ∧
      (filtered .hold .driving rising).modes.mode = .driving ∧ (filtered .hold .dozing rising).modes.mode ≠ .driving ∧
      ((filtered .mark .dozing rising).filters.get .mark).candidate = some .active ∧
      (filtered .mark .dozing rising).par.enables.mark = true ∧ (filtered .mark .dozing rising).report.request = none ∧
      (requested ⟨.mark, 7, 255⟩ (filtered .mark .dozing rising)).report.request = some ⟨.mark, 7, 255⟩ ∧
      (filtered .mark .dozing rising).modes.mode.runsPasses = false ∧ (filtered .mark .dozing rising).engine.flight = none ∧
      (filtered .mark .driving rising).modes.mode.runsPasses = true := by decide +kernel

/-- A part at a judgement with its low and restore timers. -/
def supplied (m : Mode) (j : Judgement) (low restore : Option Time) : State :=
  { inMode m with supply.judgement := j, supply.lowTimer := low, supply.restoreTimer := restore }

theorem witness_SupplySenseRunsTheTimers :
    (supplied .dozing .ok (some 9) none).supply.judgement = .ok ∧ (supplied .dozing .ok (some 9) none).supply.restoreTimer = none ∧
      (supplied .dozing .low none (some 9)).supply.judgement = .low ∧
      (supplied .dozing .low none (some 9)).supply.lowTimer = none := ⟨rfl, rfl, rfl, rfl⟩

theorem witness_LowEventHaltsOrRampsThePart :
    ∀ m, (supplied m .ok (some 50) none).supply.judgement = .ok ∧ (supplied m .ok (some 50) none).supply.lowTimer = some 50 ∧
      reached 50 50 = true ∧ (supplied m .ok (some 50) none).modes.mode = m ∧
      (supplied m .ok (some 50) none).engine.flight = none ∧ (supplied m .ok (some 50) none).link.state = .active ∧
      (supplied m .ok (some 50) none).report.request = none ∧ params.enables.supplyDown = true ∧
      (requested ⟨.mark, 7, 0⟩ (supplied m .ok (some 50) none)).report.request = some ⟨.mark, 7, 0⟩ :=
  fun _ => ⟨rfl, rfl, by decide, rfl, rfl, rfl, rfl, by decide +kernel, rfl⟩

/-- Entry into SUPPLY DOWN sets the request, and entry into SUPPLY HALTED fills a waiting one (R172). -/
theorem test_supply_entries_and_captures :
    (after (.lowEvent 50) (supplied .driving .ok (some 50) none)).report.request = some ⟨.supplyDown, 50, 0⟩ ∧
      (after (.lowEvent 50) (requested ⟨.mark, 7, 0⟩ (supplied .dozing .ok (some 50) none))).report.slotOne.map (·.mode) =
        some .supplyHalted := by decide +kernel

theorem witness_RestoreEventWarmRestartsAHaltedPart :
    ∀ m, (supplied m .low none (some 50)).supply.judgement = .low ∧
      (supplied m .low none (some 50)).supply.restoreTimer = some 50 ∧ reached 50 50 = true ∧
      (supplied m .low none (some 50)).modes.mode = m ∧ (supplied m .low none (some 50)).report.request = none ∧
      (requested ⟨.mark, 7, 3⟩ (supplied m .low none (some 50))).report.request = some ⟨.mark, 7, 3⟩ :=
  fun _ => ⟨rfl, rfl, by decide, rfl, rfl, rfl⟩

/-- A halted part whose request waits, with both slots held, an exception NOTED, and a FRESH stream; it is to keep its first
captures or its latest. -/
def halted (m : CaptureMode) : State :=
  { supplied .supplyHalted .low none (some 50) with
    params := some { params with captureMode := m }
    exception := some { event := .reject .query 4 0 1, further := 0 }
    streams.power := record .fresh 1
    axles.front.state := .standby
    report := { dozing.report with
      request := some ⟨.mark, 7, 3⟩, slotOne := some (captureOf ⟨.mark, 4, 0⟩ dozing),
      slotTwo := some (captureOf ⟨.mark, 5, 0⟩ dozing), newestSlot := .one, alerts.exceptionHeld := .noted } }

/-- A warm restart fills the request that waits, with the state before it (R172; log entry 22), forgets arrivals and counts (R47),
and raises EXCEPTION HELD afresh (R170). -/
theorem test_warm_restart_fills_and_raises_afresh :
    ((after (.restoreEvent 50) (halted .keepLatest)).report.slotTwo.map fun c =>
        ((c.source, c.time, c.merged), (c.mode, c.axles.front, c.streams.power))) =
      some ((.mark, 7, 3), (.supplyHalted, .standby, .fresh)) ∧
    (after (.restoreEvent 50) (halted .keepFirst)).report.counters.missedCaptures = 1 ∧
    (after (.restoreEvent 50) (halted .keepFirst)).report.request = none ∧
    (after (.restoreEvent 50) (halted .keepFirst)).report.alerts.exceptionHeld = .raised ∧
    (after (.restoreEvent 50) (halted .keepFirst)).streams.power.qualifying = 0 ∧
    (after (.restoreEvent 50) (halted .keepFirst)).streams.power.flag = .carried 1 ∧
    (after (.restoreEvent 50) (halted .keepFirst)).axles.front.state = .offline := by decide +kernel

/-- A part whose status timer is due at 50. -/
def reporting : State := { dozing with report.statusTimer := some 50 }

/-- A part in SAFE with cause PARAMETER, its status timer due at 50. -/
def failed : State := { reporting with params := none, modes := { mode := .safe, cause := .parameter, restorePending := false } }

theorem witness_StatusTimerExpiryPlacesStatus :
    reporting.report.statusTimer = some 50 ∧ reached 50 50 = true ∧ reporting.report.placement + 1 = 1 ∧
      (¬ (reporting.modes.mode = .safe ∧ reporting.modes.cause = .parameter) ∧
        ∃ p, reporting.params = some p ∧ params.statusPeriod = p.statusPeriod) ∧ reporting.takesFrames ∧
      failed.report.statusTimer = some 50 ∧ failed.modes.mode = .safe ∧ failed.modes.cause = .parameter ∧
      ¬ { reporting with link.quiet := true }.takesFrames :=
  ⟨rfl, by decide, rfl, ⟨(fun h => nomatch h.1), params, rfl, rfl⟩, ⟨by decide, rfl⟩, rfl, rfl, rfl, (fun h => nomatch h.2)⟩

/-! ## Witnesses: queries and alerts -/

/-- The part that holds an exception and two captures. -/
def held : State :=
  { dozing with
    exception := some { event := .reject .query 4 0 1, further := 0 }
    report.slotOne := some (captureOf ⟨.mark, 4, 0⟩ dozing)
    report.slotTwo := some (captureOf ⟨.mark, 4, 0⟩ dozing) }

/-- The part that holds a DRIVELINE event. -/
def cut : State := { dozing with exception := some { event := .driveline .rear 4 7 5400 5000, further := 0 } }

theorem witness_QueriesAreServedOrRefused :
    held.recognition ≠ [] ∧ held.link.state ≠ .listen ∧ held.link.quiet = false ∧ held.report.query.busy = none ∧
      (held.exception.map (·.event)) = some (.reject .query 4 0 1) ∧
      (cut.exception.map (·.event)) = some (.driveline .rear 4 7 5400 5000) ∧ dozing.exception = none ∧
      held.report.slotOne.isSome = true ∧ held.report.slotTwo.isSome = true ∧
      dozing.report.slotOne = none ∧ dozing.report.slotTwo = none ∧ (3 : Word16) ≠ 1 ∧ (3 : Word16) ≠ 2 ∧
      7 < (8 : Word16).toNat ∧ (replying [[1]]).report.query.busy.isSome = true ∧
      listening.recognition ≠ [] ∧ listening.link.state = .listen ∧ listening.report.query.busy = none := by decide +kernel

/-- In LISTEN the reply is lost: the service is IDLE with its refused count, and the slot is FREE all the same (R174). -/
theorem test_release_while_listening :
    (after (.releaseCapture 5 1) { held with link.state := .listen, report.query.refused := 2 }).report.slotOne = none ∧
      (after (.releaseCapture 5 1) { held with link.state := .listen, report.query.refused := 2 }).report.query =
        { busy := none, refused := 2 } ∧
      (after (.releaseCapture 5 1) { held with link.state := .listen }).link.mailboxes.reply = none := by decide +kernel

/-- The exception frames of a DRIVELINE cut of REAR at 5 400 against 5 000 (section 1.15) in pass 7 at 4 ms, and of a rejected
QUERY, by the table of section 11.4; the field index of the first is left free. -/
theorem test_exception_bodies :
    (exceptionBodies 0 { event := .driveline .rear 4 7 5400 5000, further := 1 }).map (·.take 3) =
        [[0x0201, 0, 4], [0, 7, 5400]] ∧
      exceptionBodies 0 { event := .reject .query 0x10004 0 3, further := 2 } = [[0x8802, 1, 4, 0], [3, 0, 0, 0]] := by
  decide +kernel

/-- A part with EXCEPTION HELD raised and leading. -/
def alerted : State :=
  { held with report.alerts.exceptionHeld := .raised, report.leading := some .exceptionHeld }

theorem alerted_follows : alerted.AlertsFollow := by
  refine ⟨(fun h => nomatch h), fun p h => ?_⟩
  cases h
  refine ⟨fun i => ?_, (fun h => nomatch h), fun i h => ?_⟩
  · cases i <;> simp only [State.alertHolds] <;> decide +kernel
  · cases h
    refine ⟨rfl, by decide +kernel, fun j h => ?_⟩
    cases j <;> first | (cases h; done) | decide +kernel

theorem witness_AlertSeenNotesARaisedAlert :
    alerted.params = some params ∧ alerted.AlertsFollow ∧ (9 : Word16).toNat = AlertId.exceptionHeld.number ∧
      alerted.report.alerts.get .exceptionHeld = .raised ∧ alerted.report.leading = some .exceptionHeld ∧ alerted.takesFrames ∧
      (∀ i : AlertId, (11 : Word16).toNat = i.number → alerted.report.alerts.get i ≠ .raised) :=
  ⟨rfl, alerted_follows, rfl, rfl, rfl, ⟨by decide, rfl⟩, fun i => by cases i <;> decide⟩

/-! ## Witnesses: the split pass -/

theorem witness_InitialTorquesSplitTheDemandByTheShare :
    params.bandEdges = params.bandEdges.take 3 ++ params.bandEdges.drop 3 ∧
      (∀ x ∈ params.bandEdges.take 3, x ≤ ((referenceSpeed params { workedSnapshot with reference.speed := 3000 }).natAbs : Int)) ∧
      (∀ x ∈ params.bandEdges.drop 3,
        ((referenceSpeed params { workedSnapshot with reference.speed := 3000 }).natAbs : Int) < x) ∧
      (0 : Int) ≤ 0 ∧ (0 : Int) ≤ 1000 ∧ (1000 : Int) ≤ 1000 := by decide +kernel

/-- The worked pass of section 1.14 meets the premises of S1 to S3 for FRONT, with the values of its tables; in it the axle is cut.
A part at rest has no measured axle. -/
theorem witness_GripUpdateFollowsTheSignedSlip :
    (∀ b, workedSnapshot.statusState.get b = .fresh) ∧
      (workedSnapshot.towState = .fresh ∧ workedSnapshot.towPresent = true ∧ workedSnapshot.demandState = .fresh ∧
        workedSnapshot.demand.profile = .lowGrip ∧ workedSnapshot.firstPass = false ∧
        max 1 (min 20 ((workedSnapshot.time - workedSnapshot.lastStartBefore).toNat : Int)) = 10 ∧
        max (-25000) (min 25000 (((workedSnapshot.status.get .front).speed * params.speedFactor.get .front).tdiv 65536)) = 2149 ∧
        max (-25000) (min 25000 (((workedSnapshot.status.get .rear).speed * params.speedFactor.get .rear).tdiv 65536)) = 2002 ∧
        workedSnapshot.referenceState = .fresh ∧ workedSnapshot.reference = ⟨2000, true⟩ ∧ workedSnapshot.mode = .driving ∧
        workedSnapshot.hold = .inactive ∧ workedSnapshot.demand.direction ≠ .neutral ∧
        max (-1000) (min 1000 (((2149 - 2000 : Int) * 1000).tdiv (max ((2000 : Int).natAbs : Int) 300))) = 74 ∧
        (computePass params workedSnapshot ⟨2400, 3300⟩ ⟨.reset, .reset⟩ 1).grip.get .front =
          { ceiling := some 2120, state := .slipping, limitingSince := some 20 }) ∧
      (quietSnapshot .driving).statusState.get .front = .unheard :=
  ⟨fun b => by cases b <;> rfl, by decide +kernel, rfl⟩

theorem witness_ClipAndTransferPlaceTheDemandRearFirst :
    ∀ a : Axle, ((⟨⟨-500, 500⟩, ⟨-600, 600⟩⟩ : PerAxle Window).get a).floor ≤
      ((⟨⟨-500, 500⟩, ⟨-600, 600⟩⟩ : PerAxle Window).get a).ceiling := by
  intro a
  cases a <;> decide

theorem params_passSound : params.PassSound := by
  have limits : ∀ tow a, params.gripFloor ≤ drivelineLimit params tow a ∧ drivelineLimit params tow a ≤ 16000 := by
    intro tow a
    cases tow <;> cases a <;> decide +kernel
  simp only [Params.PassSound, limits, implies_true, and_true]
  decide +kernel

theorem quietSnapshot_sound (m : Mode) : (quietSnapshot m).Sound params := by
  intro a
  refine ⟨by cases a <;> rfl, fun b h => ?_, fun b h => ?_, fun c h => ?_, fun b h => ?_⟩
  · cases a <;> cases h
  · cases a <;> cases h <;> exact ⟨by decide, by decide⟩
  · cases a <;> cases h
  · cases a <;> cases h

theorem witness_FinalTorquesAreRampedWithinTheirWindows :
    params.PassSound ∧ (quietSnapshot .driving).Sound params ∧ 0 ≤ (quietSnapshot .driving).power.charge :=
  ⟨params_passSound, quietSnapshot_sound _, by decide⟩

theorem supplySnapshot_sound : supplySnapshot.Sound params := by
  intro a
  refine ⟨by cases a <;> rfl, fun b h => ?_, fun b h => ?_, fun c h => ?_, fun b h => ?_⟩
  · cases a <;> cases h <;> exact ⟨by decide, by decide⟩
  · cases a <;> cases h
  · cases a <;> cases h
  · cases a <;> cases h <;> decide +kernel

theorem witness_WindowsContainZeroWithinTheDrivelineLimit :
    params.PassSound ∧ (quietSnapshot .driving).Sound params ∧ supplySnapshot.Sound params ∧ supplySnapshot.SupplyPresent ∧
      supplySnapshot.mode = .supplyDown ∧ (quietSnapshot .driving).SupplyPresent :=
  ⟨params_passSound, quietSnapshot_sound _, supplySnapshot_sound, fun _ a => by cases a <;> decide, rfl, (fun h => nomatch h)⟩

/-- Cells at the FRONT drive ceiling, line by line of the table after R63: the window's edge and its row. -/
def composed (inverter : Option Bounds) (axle : Option Bounds) (cap : Option Int) (g : Int) : Int × Row :=
  let sn := { quietSnapshot .driving with table := { (quietSnapshot .driving).table with
    driveline := ⟨some ⟨4800, -4800⟩, none⟩, inverter := ⟨inverter, none⟩, axle := ⟨axle, none⟩,
    stability := ⟨cap.map fun c => { cap := c, expiry := none }, none⟩ } }
  let w := composeWindow g (axleBounds params sn 1 g .front)
  (w.ceiling, (edgeRows w (axleBounds params sn 1 g .front)).ceiling)

theorem test_edge_rows :
    [composed (some ⟨3412, 0⟩) none none 2120, composed none none (some 2000) 2000, composed (some ⟨4800, 0⟩) none none 4800,
      composed none (some ⟨0, 0⟩) none 4800, composed (some ⟨0, 0⟩) (some ⟨0, 0⟩) none 4800] =
      [(2120, .grip), (2000, .stability), (4800, .driveline), (0, .axle), (0, .inverter)] := by decide +kernel

theorem witness_SupplyDownNeverRaisesATorque :
    params.PassSound ∧ supplySnapshot.Sound params ∧ supplySnapshot.mode = .supplyDown ∧
      supplySnapshot.table.supply.get .front = some (symmetric 1800) ∧ 0 ≤ supplySnapshot.power.charge :=
  ⟨params_passSound, supplySnapshot_sound, rfl, rfl, by decide⟩

/-- Each case of the governor: POWER in the worked pass, none at rest, the row of a cut, RAMP, and the SUPPLY edge. -/
theorem witness_ResidualShortfallAndGovernorsFollowTheFinals :
    workedRecord.governor.front = .power ∧
      ((computePass params (quietSnapshot .fading) ⟨0, 0⟩ ⟨.reset, .reset⟩ 1).record.governor.get .front = .none) ∧
      ((computePass params cutSnapshot ⟨600, 600⟩ ⟨.reset, .reset⟩ 1).record.governor.get .rear = .row .driveline) ∧
      ((computePass params cutSnapshot ⟨0, 0⟩ ⟨.reset, .reset⟩ 1).record.governor.get .rear = .ramp) ∧
      ((computePass params supplySnapshot ⟨2400, 3300⟩ ⟨.reset, .reset⟩ 1).record.governor.get .front = .row .supply) := by
  decide +kernel

/-- The worked pass of section 4.8: 2 052 and 3 948 N·m draw 30 634 W and 54 887 W at the shafts and 92 361 W in all, above 75 000
W; against a discharge limit of 6 000 the factor is 4 096, and with the motors turning back the charge limit of 30 000 W applies.
-/
theorem witness_ScaledTorquesLieBetweenZeroAndTheirTargets :
    (clipAndTransfer workedRecord.demand (initialTorque workedRecord.demand workedRecord.share) workedRecord.windows
        ⟨⟨.grip, .grip⟩, ⟨.grip, .grip⟩⟩).torque = ⟨2052, 3948⟩ ∧
      ((2052 * 1390 * 26808 : Int).tdiv (2496 * 1000), (3948 * 1394 * 26808 : Int).tdiv (2688 * 1000)) = (30634, 54887) ∧
      totalPower params workedSnapshot ⟨2052, 3948⟩ = 92361 ∧ 0 ≤ workedSnapshot.power.charge ∧
      ((75000 * 4096 : Int).tdiv 92361, workedRecord.factor) = (3326, 3326) ∧
      (computePass params { workedSnapshot with power := ⟨6000, 300⟩ } ⟨2400, 3300⟩ ⟨.reset, .reset⟩ 1).record.factor = 4096 ∧
      (computePass params { workedSnapshot with power := ⟨6000, 300⟩, status.front.speed := -1390, status.rear.speed := -1394 }
        ⟨2400, 3300⟩ ⟨.reset, .reset⟩ 1).record.factor < 4096 := by decide +kernel

theorem witness_SentFramesAreValid :
    smallFrame.payload.length = smallFrame.length.toNat ∧ smallFrame.endField.length = 5 ∧
      ∀ code index total refused body, replyOut.content = .reply code index total refused body → body.length ≤ 4 := by
  refine ⟨by decide, by decide, ?_⟩
  intro code index total refused body h
  cases h
  decide

/-! ## Witnesses: what every step keeps -/

/-- The machine after reset with one command waiting. -/
def started : State := { State.reset with pending := [.decode 1] }

theorem step_started : step started = .next (after (.decode 1) State.reset) := rfl

theorem witness_EveryStepKeepsControlSound :
    started.StartSound ∧ started.ModeSound ∧ started.LinkSound ∧ started.EngineSound ∧
      step started = .next (after (.decode 1) State.reset) :=
  ⟨reset_startSound, ⟨by decide, by decide⟩, ⟨by decide, fun _ => .inl rfl⟩, ⟨fun _ => rfl, fun _ => ⟨rfl, rfl⟩⟩, step_started⟩

theorem witness_EveryStepKeepsTheBounds :
    started.QueuesBounded ∧ started.CountsBounded ∧ (∀ a, (started.axles.get a).Bounded) ∧
      step started = .next (after (.decode 1) State.reset) := by
  refine ⟨⟨by decide, (fun n h => by cases h; decide), by decide, by decide, by decide, by decide⟩,
    ⟨by unfold Counters.Bounded; decide, by decide, by decide, (fun _ h => nomatch h),
    (fun _ h => nomatch h), fun i => ?_⟩, fun a => ?_, step_started⟩
  · cases i <;> exact ⟨by decide, by decide, by decide⟩
  · cases a <;> exact ⟨by decide, by decide, by decide, .nil⟩

theorem witness_EveryStepKeepsRecordsAndTable :
    started.StartSound ∧ started.RecordsFollow ∧ started.TableFollows ∧ step started = .next (after (.decode 1) State.reset) := by
  refine ⟨reset_startSound, ⟨fun _ => rfl, fun a _ => by cases a <;> rfl, (fun _ h => nomatch h), fun _ => rfl, fun _ => rfl,
    (fun h => nomatch h)⟩, ⟨fun a => by cases a <;> rfl, fun _ => rfl, (fun _ h => nomatch h)⟩, step_started⟩

theorem witness_EveryStepKeepsPassesSound :
    started.StartSound ∧ started.RecordsFollow ∧ started.TableFollows ∧ started.GripFollows ∧ started.PassesSound ∧
      step started = .next (after (.decode 1) State.reset) := by
  refine ⟨reset_startSound, ⟨fun _ => rfl, fun a _ => by cases a <;> rfl, (fun _ h => nomatch h), fun _ => rfl, fun _ => rfl,
    (fun h => nomatch h)⟩, ⟨fun a => by cases a <;> rfl, fun _ => rfl, (fun _ h => nomatch h)⟩, fun a => by cases a <;> rfl,
    ⟨fun _ => ⟨rfl, fun a => by cases a <;> rfl⟩, fun a _ h => (by cases a <;> cases h), fun a _ h => (by cases a <;> cases h),
      (fun h => nomatch h), (fun _ h => nomatch h), (fun _ h => nomatch h)⟩, step_started⟩

/-- The premises hold of an accepted block too. -/
theorem witness_passes_are_sound_when_accepted : (flying .driving dozing).PassesSound := by
  refine ⟨(fun h => nomatch h), fun a _ h => (by cases a <;> cases h), fun a _ h => (by cases a <;> cases h),
    (fun h => nomatch h), fun _ h => (by cases h; exact fun h => nomatch h), fun p h => ?_⟩
  cases h
  refine ⟨params_passSound, by decide +kernel, by decide +kernel, fun a => by cases a <;> decide +kernel,
    fun a _ h => (by cases a <;> cases h), fun sn h => ?_⟩
  cases h
  exact ⟨quietSnapshot_sound _, by decide +kernel⟩

theorem witness_EveryStepKeepsGripRowWindowsLinesAndAlerts :
    started.StartSound ∧ started.GripFollows ∧ started.WindowsSound ∧ started.LinesFollow ∧ started.AlertsFollow ∧
      started.FlagsReported ∧ step started = .next (after (.decode 1) State.reset) :=
  ⟨reset_startSound, fun a => by cases a <;> rfl, fun i => by cases i <;> exact ⟨fun _ => rfl, fun _ => rfl⟩,
    ⟨fun _ => ⟨rfl, rfl⟩, (fun _ h => nomatch h)⟩, reset_alertsFollow, (fun i => by cases i <;> decide), step_started⟩

theorem routing : params.sta = ⟨.driving, true⟩ ∧ params.stb = ⟨.alertLeading, false⟩ := by decide +kernel

/-- The lines of a driving part with this block: STA is active and high, and STB is not active, so high too (R176). -/
theorem witness_lines_follow_when_accepted : (inMode .driving).LinesFollow := by
  refine ⟨(fun h => nomatch h), fun p h => ?_⟩
  cases h
  rw [routing.1, routing.2]
  exact ⟨⟨fun _ => rfl, fun _ => rfl⟩, ⟨(fun h => nomatch h), fun h => absurd rfl h⟩⟩

theorem witness_ModesMoveByTheirTablesAlone :
    State.reset.StartSound ∧ Instr.decode 1 ≠ .powerOnReset ∧ exec (.decode 1) State.reset = .next (after (.decode 1) State.reset) ∧
      (inMode .safe).modes.mode = .safe ∧ (inMode .safe).port.reading = false := ⟨reset_startSound, by decide, rfl, rfl, rfl⟩

theorem witness_NoTorqueIsCommandedOutsideDrive :
    exec (.offer ⟨1, []⟩) (waiting command) = .next (after (.offer ⟨1, []⟩) (waiting command)) ∧
      (waiting command).modes.mode.runsPasses = false ∧ command.asksTorque = true ∧
      (after (.offer ⟨1, []⟩) (waiting command)).link.carries command :=
  ⟨rfl, rfl, rfl, .inl ⟨.frontCommand, by decide +kernel⟩⟩

theorem witness_APassInFlightIsUndisturbed :
    (flying .driving dozing).engine.flight = some (quietSnapshot .driving) ∧
      exec (.decode 5) (flying .driving dozing) = .next (after (.decode 5) (flying .driving dozing)) ∧
      Instr.decode 5 ≠ .powerOnReset ∧ (∀ t, Instr.decode 5 ≠ .passEnd t) ∧ (∀ t, Instr.decode 5 ≠ .restoreEvent t) :=
  ⟨rfl, rfl, by decide, (fun _ h => nomatch h), (fun _ h => nomatch h)⟩

theorem witness_EveryEventReportsItsChanges :
    dozing.StartSound ∧ Instr.decode 1 ≠ .powerOnReset ∧ (∀ t, Instr.decode 1 ≠ .statusTimerExpiry t) ∧
      exec (.decode 1) dozing = .next (after (.decode 1) dozing) ∧ dozing.report.alerts.get .supplyLow = .clear ∧
      exec (.lowEvent 50) (supplied .dozing .ok (some 50) none) =
        .next (after (.lowEvent 50) (supplied .dozing .ok (some 50) none)) ∧
      (after (.lowEvent 50) (supplied .driving .ok (some 50) none)).report.leading ≠ none ∧
      (after (.lowEvent 50) (supplied .driving .ok (some 50) none)).takesFrames ∧
      lateAgain.FlagsReported ∧ lateAgain.returnsToLate (.decode 110) ∧
      reported (after (.lowEvent 50) (supplied .driving .ok (some 50) none)) ≠
        reported (supplied .driving .ok (some 50) none) :=
  ⟨fun h => (by cases h), by decide, (fun _ h => nomatch h), rfl, rfl, rfl, by decide +kernel,
    by unfold State.takesFrames; decide +kernel, (fun i => by cases i <;> decide +kernel),
    ⟨110, goodPower 2, [], .power, rfl, ⟨rfl, rfl, rfl⟩, ⟨(fun h => nomatch h), (fun h => nomatch h)⟩,
      ⟨by decide, .inl (by decide)⟩, rfl, by decide +kernel⟩, by decide +kernel⟩

end Sys2Proof.Machine.Tests
end

namespace Sys2Proof.Machine

/-! SUPPORT. Rounding to the nearest integer, and the initial allocation of stage S6 (R17). -/

/-! ## Rounding -/

theorem roundDiv_neg (a : Int) (b : Nat) : roundDiv (-a) b = -roundDiv a b := by
  simp [roundDiv]

/-- The rounded quotient of a non-negative number is the floor of its quotient plus one half. -/
theorem roundDiv_of_nonneg {a : Int} {b : Nat} (ha : 0 ≤ a) (hb : 0 < b) :
    roundDiv a b = (2 * a + b) / (2 * b) := by
  unfold roundDiv
  rcases ha.eq_or_lt with rfl | hpos
  · simpa using (Int.ediv_eq_zero_of_lt (by omega) (by omega)).symm
  · rw [Int.sign_eq_one_of_pos hpos, one_mul, Int.natAbs_of_nonneg ha]

/-! ## The initial allocation (R17) -/

/-- A non-negative allocation's front part, as the interval that rounds to it. -/
theorem initialTorque_front_bounds {demand share : Int} (hd : 0 ≤ demand) (hs : 0 ≤ share) :
    2000 * (initialTorque demand share).front ≤ 2 * (demand * share) + 1000 ∧
      2 * (demand * share) + 1000 < 2000 * (initialTorque demand share).front + 2000 := by
  have hfront : (initialTorque demand share).front = (2 * (demand * share) + 1000) / 2000 :=
    roundDiv_of_nonneg (Int.mul_nonneg hd hs) (by decide)
  omega

theorem initialTorque_sum (demand share : Int) :
    (initialTorque demand share).front + (initialTorque demand share).rear = demand := by
  simp [initialTorque]

/-- Braking is allocated as driving is, with the sign turned. -/
theorem initialTorque_neg (demand share : Int) :
    initialTorque (-demand) share = ⟨-(initialTorque demand share).front, -(initialTorque demand share).rear⟩ := by
  simp only [initialTorque, Int.neg_mul, roundDiv_neg, PerAxle.mk.injEq, true_and]
  omega

theorem initialTorque_nonneg {demand share : Int} (hd : 0 ≤ demand) (h₀ : 0 ≤ share) (h₁ : share ≤ 1000) :
    0 ≤ (initialTorque demand share).front ∧ 0 ≤ (initialTorque demand share).rear := by
  have hbounds := initialTorque_front_bounds hd h₀
  have hlow : 0 ≤ demand * share := Int.mul_nonneg hd h₀
  have hhigh : demand * share ≤ demand * 1000 := Int.mul_le_mul_of_nonneg_left h₁ hd
  have hsum := initialTorque_sum demand share
  omega

theorem initialTorque_nonpos {demand share : Int} (hd : demand ≤ 0) (h₀ : 0 ≤ share) (h₁ : share ≤ 1000) :
    (initialTorque demand share).front ≤ 0 ∧ (initialTorque demand share).rear ≤ 0 := by
  have hneg := initialTorque_nonneg (Int.neg_nonneg_of_nonpos hd) h₀ h₁
  rw [initialTorque_neg] at hneg
  simpa using hneg

/-- The front part is nearest to its exact value, and at a half-way value it is the one farther from zero. -/
theorem initialTorque_front_nearest (demand : Int) {share : Int} (h₀ : 0 ≤ share) :
    2 * (1000 * (initialTorque demand share).front - demand * share).natAbs ≤ 1000 ∧
      (2 * (1000 * (initialTorque demand share).front - demand * share).natAbs = 1000 →
        (demand * share).natAbs < (1000 * (initialTorque demand share).front).natAbs) := by
  rcases Int.le_total 0 demand with hd | hd
  · have hbounds := initialTorque_front_bounds hd h₀
    have hlow : 0 ≤ demand * share := Int.mul_nonneg hd h₀
    omega
  · have hbounds := initialTorque_front_bounds (Int.neg_nonneg_of_nonpos hd) h₀
    have hlow : 0 ≤ -demand * share := Int.mul_nonneg (Int.neg_nonneg_of_nonpos hd) h₀
    simp only [initialTorque_neg, Int.neg_mul] at hbounds hlow
    omega

/-! SUPPORT. What the record of a pass holds, stage by stage: each member as the stage's function of the members before it. -/

/-! ## The values between the stages -/

/-- The edge rows of a pass, from the windows and the grip ceilings of its record (R14, R63). -/
def passRows (p : Params) (sn : Snapshot) (r : PassRecord) : PerAxle EdgeRows :=
  PerAxle.of fun a => edgeRows (r.windows.get a) (axleBounds p sn (elapsedTime sn) (r.gripCeiling.get a) a)

/-- Stage S7 of a pass, from the demand, the share and the windows of its record (R17 to R20). -/
def passTransfer (p : Params) (sn : Snapshot) (r : PassRecord) : Transfer :=
  clipAndTransfer r.demand (initialTorque r.demand r.share) r.windows (passRows p sn r)

/-- The ramped value of an axle in a pass, from the scaled torques of its record (R98, R99). -/
def passRamped (p : Params) (sn : Snapshot) (previous : PerAxle Int) (r : PassRecord) (a : Axle) : Int :=
  rampValue (rampAllowance p (elapsedTime sn) (previous.get a) (r.scaled.get a)) (previous.get a) (r.scaled.get a)

/-! ## The members of the record -/

section Record

variable (p : Params) (sn : Snapshot) (previous : PerAxle Int) (regs : PerAxle GripRegulator) (n : BitVec 32) (a : Axle)

theorem computePass_demand : (computePass p sn previous regs n).record.demand = passDemand sn := rfl

theorem computePass_share : (computePass p sn previous regs n).record.share =
    preferredShare p (passTow sn) (referenceSpeed p sn) (computePass p sn previous regs n).record.demand := rfl

theorem computePass_windows : (computePass p sn previous regs n).record.windows.get a =
    composeWindow ((computePass p sn previous regs n).record.gripCeiling.get a)
      (axleBounds p sn (elapsedTime sn) ((computePass p sn previous regs n).record.gripCeiling.get a) a) := by
  cases a <;> rfl

theorem computePass_cuts : (computePass p sn previous regs n).cuts =
    (passTransfer p sn (computePass p sn previous regs n).record).cuts := rfl

theorem computePass_scaled : (computePass p sn previous regs n).record.scaled.get a =
    scaleTorque (computePass p sn previous regs n).record.factor
      ((passTransfer p sn (computePass p sn previous regs n).record).torque.get a) := by
  cases a <;> rfl

theorem computePass_residual : (computePass p sn previous regs n).record.residual =
    (computePass p sn previous regs n).record.demand - (computePass p sn previous regs n).record.final.front -
      (computePass p sn previous regs n).record.final.rear := rfl

theorem computePass_shortfall : (computePass p sn previous regs n).record.shortfall =
    regenShortfall (computePass p sn previous regs n).record.demand
      (computePass p sn previous regs n).record.final.front (computePass p sn previous regs n).record.final.rear := rfl

theorem computePass_governor : (computePass p sn previous regs n).record.governor.get a =
    governorOf sn.mode (computePass p sn previous regs n).record.factor
      ((passTransfer p sn (computePass p sn previous regs n).record).torque.get a)
      ((computePass p sn previous regs n).record.scaled.get a)
      (passRamped p sn previous (computePass p sn previous regs n).record a)
      ((computePass p sn previous regs n).record.final.get a)
      ((passRows p sn (computePass p sn previous regs n).record).get a)
      (lastCut a (computePass p sn previous regs n).cuts) := by
  cases a <;> rfl

end Record

/-! ## Demand and shortfall outside DRIVING (R12, R22) -/

theorem passDemand_of_not_driving {sn : Snapshot} (h : sn.mode ≠ .driving) : passDemand sn = 0 := if_neg h

theorem regenShortfall_of_no_demand (front rear : Int) : regenShortfall 0 front rear = 0 := rfl

theorem computePass_of_not_driving (p : Params) {sn : Snapshot} (previous : PerAxle Int) (regs : PerAxle GripRegulator)
    (n : BitVec 32) (h : sn.mode ≠ .driving) :
    (computePass p sn previous regs n).record.demand = 0 ∧ (computePass p sn previous regs n).record.shortfall = 0 := by
  rw [computePass_shortfall, computePass_demand, passDemand_of_not_driving h]
  exact ⟨rfl, regenShortfall_of_no_demand _ _⟩

/-! ## Share (R15, R16) -/

/-- Band edges split at the reference speed give the band: the edges below are counted, the others are not. -/
theorem bandIndex_of_split {p : Params} {vref : Int} {lower upper : List Int} (hedges : p.bandEdges = lower ++ upper)
    (hlower : ∀ x ∈ lower, x ≤ vref.natAbs) (hupper : ∀ x ∈ upper, (vref.natAbs : Int) < x) :
    bandIndex p vref = lower.length := by
  have hkeep : lower.filter (fun x => decide (x ≤ magnitude vref)) = lower :=
    List.filter_eq_self.2 fun x hx => decide_eq_true (hlower x hx)
  have hdrop : upper.filter (fun x => decide (x ≤ magnitude vref)) = [] :=
    List.filter_eq_nil_iff.2 fun x hx => by simpa [magnitude] using hupper x hx
  rw [bandIndex, hedges, List.filter_append, hkeep, hdrop, List.append_nil]

/-! ## The allowance of the ramp (R98) -/

theorem sign_eq_sign_iff {x y : Int} (hy : y ≠ 0) : x.sign = y.sign ↔ 0 < y ∧ 0 < x ∨ y < 0 ∧ x < 0 := by
  rcases Int.lt_or_gt_of_ne hy with hneg | hpos
  · rw [Int.sign_eq_neg_one_of_neg hneg, Int.sign_eq_neg_one_iff_neg]
    omega
  · rw [Int.sign_eq_one_of_pos hpos, Int.sign_eq_one_iff_pos]
    omega

/-- The rise allowance is for a torque that grows in its own direction. -/
theorem rampAllowance_eq (p : Params) (elapsed previous target : Int) : rampAllowance p elapsed previous target =
    if previous.natAbs < target.natAbs ∧ (previous = 0 ∨ 0 < previous ∧ 0 < target ∨ previous < 0 ∧ target < 0)
    then p.riseRate * elapsed else p.releaseRate * elapsed := by
  have hdirection : (previous = 0 ∨ target.sign = previous.sign) ↔
      (previous = 0 ∨ 0 < previous ∧ 0 < target ∨ previous < 0 ∧ target < 0) :=
    or_congr_right' fun h => sign_eq_sign_iff h
  simp only [rampAllowance, magnitude, Int.ofNat_lt, hdirection]

/-! SUPPORT. The bounds of the present cells, the window they form and the rows of its edges (R14, R63). -/

/-! ## The bounds of the present cells -/

/-- The bounds that the pass takes are those of the present cells, once SUPPLY DOWN has its SUPPLY cells. -/
theorem axleBounds_eq_presentBounds (p : Params) {sn : Snapshot} (h : sn.SupplyPresent) (g : Int) (a : Axle) :
    axleBounds p sn (elapsedTime sn) g a = sn.presentBounds p g a := by
  have hcell (r : Row) (c : Option Bounds) : rowBound r c = (c.map fun b => RowBound.mk r b).toList := by
    cases c <;> rfl
  have hsupply : rowBound .supply
        (if sn.mode = .supplyDown then some (symmetric (loweredCeiling p sn (elapsedTime sn) a)) else none) =
      if sn.mode = .supplyDown then
        ((sn.table.supply.get a).map fun b => RowBound.mk .supply
          (symmetric (max 0 (b.ceiling - p.supplyFallRate * elapsedTime sn)))).toList
      else [] := by
    by_cases hmode : sn.mode = .supplyDown
    · obtain ⟨b, hb⟩ := Option.ne_none_iff_exists'.1 (h hmode a)
      simp [hmode, hb, loweredCeiling, rowBound]
    · simp [hmode, rowBound]
  rw [axleBounds, hsupply]
  simp only [hcell, Option.map_map]
  rfl

theorem grip_mem_axleBounds (p : Params) (sn : Snapshot) (elapsed g : Int) (a : Axle) :
    RowBound.mk .grip (symmetric g) ∈ axleBounds p sn elapsed g a := by
  simp [axleBounds, rowBound]

theorem rowBound_rows_sublist (r : Row) (c : Option Bounds) : ((rowBound r c).map (·.row)).Sublist [r] := by
  cases c <;> simp [rowBound]

/-- The rows of the constraint table in the order of their numbers (chapter 3). -/
def rowsInOrder : List Row := [.driveline, .inverter, .axle, .stability, .grip, .supply]

theorem axleBounds_rows_sublist (p : Params) (sn : Snapshot) (elapsed g : Int) (a : Axle) :
    ((axleBounds p sn elapsed g a).map (·.row)).Sublist rowsInOrder := by
  simp only [axleBounds, List.map_append]
  exact (((((rowBound_rows_sublist _ _).append (rowBound_rows_sublist _ _)).append (rowBound_rows_sublist _ _)).append
    (rowBound_rows_sublist _ _)).append (rowBound_rows_sublist _ _)).append (rowBound_rows_sublist _ _)

/-- The present cells stand in row order. -/
theorem axleBounds_sorted (p : Params) (sn : Snapshot) (elapsed g : Int) (a : Axle) :
    (axleBounds p sn elapsed g a).Pairwise fun b c => b.row.code.toNat ≤ c.row.code.toNat := by
  have hrows : rowsInOrder.Pairwise fun r q => r.code.toNat ≤ q.code.toNat := by decide
  have hsorted := hrows.sublist (axleBounds_rows_sublist p sn elapsed g a)
  rwa [List.pairwise_map] at hsorted

/-! ## The window -/

/-- The drive ceiling of a window is the least of the grip ceiling and its cells' ceilings. -/
theorem composeWindow_ceiling (g : Int) (bs : List RowBound) :
    (g :: bs.map (·.bounds.ceiling)).min? = some (composeWindow g bs).ceiling := by
  rw [List.min?_cons', List.foldl_map, composeWindow]

/-- The regen floor of a window is the greatest of the grip floor and its cells' floors. -/
theorem composeWindow_floor (g : Int) (bs : List RowBound) :
    (-g :: bs.map (·.bounds.floor)).max? = some (composeWindow g bs).floor := by
  rw [List.max?_cons', List.foldl_map, composeWindow]

theorem composeWindow_within {g : Int} {bs : List RowBound} {b : RowBound} (hb : b ∈ bs) :
    b.bounds.floor ≤ (composeWindow g bs).floor ∧ (composeWindow g bs).ceiling ≤ b.bounds.ceiling :=
  ⟨(List.max?_eq_some_iff.1 (composeWindow_floor g bs)).2 _ (.tail _ (List.mem_map.2 ⟨b, hb, rfl⟩)),
    (List.min?_eq_some_iff.1 (composeWindow_ceiling g bs)).2 _ (.tail _ (List.mem_map.2 ⟨b, hb, rfl⟩))⟩

/-- With the GRIP bound among them, the cells form each edge of their window. -/
theorem composeWindow_attained {g : Int} {bs : List RowBound} (hg : RowBound.mk .grip (symmetric g) ∈ bs) :
    (∃ b ∈ bs, b.bounds.ceiling = (composeWindow g bs).ceiling) ∧
      ∃ b ∈ bs, b.bounds.floor = (composeWindow g bs).floor := by
  have hceiling := (List.min?_eq_some_iff.1 (composeWindow_ceiling g bs)).1
  have hfloor := (List.max?_eq_some_iff.1 (composeWindow_floor g bs)).1
  rw [List.mem_cons, List.mem_map] at hceiling hfloor
  exact ⟨hceiling.elim (fun h => ⟨_, hg, h.symm⟩) id, hfloor.elim (fun h => ⟨_, hg, h.symm⟩) id⟩

/-! ## The rows of the edges -/

/-- The row of the first bound that equals an edge, as `edgeRows` finds it for either edge of a window. -/
def rowAt (edgeOf : RowBound → Int) (edge : Int) (bs : List RowBound) : Row :=
  ((bs.find? fun b => edgeOf b == edge).map (·.row)).getD .grip

theorem edgeRows_eq_rowAt (w : Window) (bs : List RowBound) : edgeRows w bs =
    { ceiling := rowAt (·.bounds.ceiling) w.ceiling bs, floor := rowAt (·.bounds.floor) w.floor bs } := rfl

/-- In bounds that stand in row order, the first that equals an edge is the lowest-numbered one that does. -/
theorem rowAt_lowest {edgeOf : RowBound → Int} {edge : Int} {bs : List RowBound}
    (hsorted : bs.Pairwise fun b c => b.row.code.toNat ≤ c.row.code.toNat) (hsome : ∃ b ∈ bs, edgeOf b = edge) :
    (∃ b ∈ bs, b.row = rowAt edgeOf edge bs ∧ edgeOf b = edge) ∧
      ∀ c ∈ bs, edgeOf c = edge → (rowAt edgeOf edge bs).code.toNat ≤ c.row.code.toNat := by
  have hfound : (bs.find? fun b => edgeOf b == edge).isSome := List.find?_isSome.2 (by simpa using hsome)
  obtain ⟨b, hfind⟩ := Option.isSome_iff_exists.1 hfound
  obtain ⟨hb, before, after, rfl, hbefore⟩ := List.find?_eq_some_iff_append.1 hfind
  rw [rowAt, hfind]
  refine ⟨⟨b, by simp, rfl, by simpa using hb⟩, fun c hc hedge => ?_⟩
  rcases List.mem_append.1 hc with hc | hc
  · simpa [hedge] using hbefore c hc
  · obtain ⟨-, hlater, -⟩ := List.pairwise_append.1 hsorted
    rcases List.mem_cons.1 hc with rfl | hc
    · exact le_rfl
    · exact List.rel_of_pairwise_cons hlater hc

/-- What R14 and R63 say of the window of an axle's present cells and of the rows of its edges. -/
theorem edgeRows_of_axleBounds (p : Params) (sn : Snapshot) (elapsed g : Int) (a : Axle) {bs : List RowBound} {w : Window}
    (hbs : bs = axleBounds p sn elapsed g a) (hw : w = composeWindow g bs) :
    (∃ b ∈ bs, b.row = (edgeRows w bs).ceiling ∧ b.bounds.ceiling = w.ceiling) ∧
      (∃ b ∈ bs, b.row = (edgeRows w bs).floor ∧ b.bounds.floor = w.floor) ∧
      ∀ b ∈ bs, b.bounds.floor ≤ w.floor ∧ w.ceiling ≤ b.bounds.ceiling ∧
        (b.bounds.ceiling = w.ceiling → (edgeRows w bs).ceiling.code.toNat ≤ b.row.code.toNat) ∧
        (b.bounds.floor = w.floor → (edgeRows w bs).floor.code.toNat ≤ b.row.code.toNat) := by
  have hsorted := axleBounds_sorted p sn elapsed g a
  obtain ⟨hceiling, hfloor⟩ := composeWindow_attained (grip_mem_axleBounds p sn elapsed g a)
  rw [← hbs] at hsorted hceiling hfloor
  rw [← hw] at hceiling hfloor
  obtain ⟨hceilingRow, hceilingLowest⟩ := rowAt_lowest hsorted hceiling
  obtain ⟨hfloorRow, hfloorLowest⟩ := rowAt_lowest hsorted hfloor
  rw [edgeRows_eq_rowAt]
  refine ⟨hceilingRow, hfloorRow, fun b hb => ?_⟩
  obtain ⟨habove, hbelow⟩ := composeWindow_within (g := g) hb
  rw [← hw] at habove hbelow
  exact ⟨habove, hbelow, hceilingLowest b hb, hfloorLowest b hb⟩

/-! SUPPORT. The governing source of an axle, case by case (R23), and the last cut it may name (R20). -/

section Governor

variable {mode : Mode} {factor t2 t3 ramped final : Int} {e : EdgeRows} {cut : Option Cut}

theorem governorOf_heldOff (h : mode = .supplyDown ∧ final ≠ ramped) :
    governorOf mode factor t2 t3 ramped final e cut = .row (if final < ramped then e.ceiling else e.floor) := if_pos h

theorem governorOf_ramp (h : ¬ (mode = .supplyDown ∧ final ≠ ramped)) (hramp : final ≠ t3) :
    governorOf mode factor t2 t3 ramped final e cut = .ramp :=
  (if_neg h).trans (if_pos hramp)

theorem governorOf_power (h : ¬ (mode = .supplyDown ∧ final ≠ ramped)) (hramp : final = t3) (hfactor : factor < 4096)
    (hscaled : t3 ≠ t2) : governorOf mode factor t2 t3 ramped final e cut = .power :=
  (if_neg h).trans ((if_neg (not_not.2 hramp)).trans (if_pos ⟨hfactor, hscaled⟩))

theorem governorOf_cut (h : ¬ (mode = .supplyDown ∧ final ≠ ramped)) (hramp : final = t3)
    (hpower : ¬ (factor < 4096 ∧ t3 ≠ t2)) :
    governorOf mode factor t2 t3 ramped final e cut = (cut.map fun c => Governor.row c.row).getD .none := by
  cases cut <;> exact (if_neg h).trans ((if_neg (not_not.2 hramp)).trans (if_neg hpower))

end Governor

theorem lastCut_of_append {a : Axle} {all cuts : List Cut} {c : Cut}
    (h : (all.filter fun c => c.axle == a) = cuts ++ [c]) : lastCut a all = some c := by
  rw [lastCut, h, List.getLast?_concat]

theorem lastCut_of_nil {a : Axle} {all : List Cut} (h : (all.filter fun c => c.axle == a) = []) :
    lastCut a all = none := by
  rw [lastCut, h, List.getLast?_nil]

/-! The statements about the share and the initial torques, and about the results of a pass. -/

/-- Settles O45: the band is counted at the split of the edges, and braking is allocated as driving with the sign turned. -/
theorem initialTorquesSplitTheDemandByTheShare : Obligations.InitialTorquesSplitTheDemandByTheShare := by
  refine ⟨?_, fun demand share h₀ h₁ => ?_⟩
  · rintro p sn previous regs n r lower upper share rfl hedges hlower hupper rfl
    rw [computePass_share, preferredShare, baseShare, bandIndex_of_split hedges hlower hupper]
    rfl
  · obtain ⟨hnearest, htie⟩ := initialTorque_front_nearest demand h₀
    exact ⟨initialTorque_sum demand share, hnearest, htie, fun hd => initialTorque_nonneg hd h₀ h₁,
      fun hd => initialTorque_nonpos hd h₀ h₁⟩

/-- Settles O50: every clause is the equation of its member of the record; the rows of the edges come from the row order of the
present cells, the GRIP bound being one of them. -/
theorem residualShortfallAndGovernorsFollowTheFinals : Obligations.ResidualShortfallAndGovernorsFollowTheFinals := by
  rintro p sn previous regs n out r a bounds allowance ramped t₂ w edges heldOff hout rfl rfl rfl rfl rfl hramped hheldOff ht₂
  rw [← rampAllowance_eq, ← rampValue, ← passRamped] at hramped
  rw [hheldOff, decide_eq_true_iff, decide_eq_false_iff_not]
  have hscaled := computePass_scaled p sn previous regs n a
  have hgovernor := computePass_governor p sn previous regs n a
  have hresidual := computePass_residual p sn previous regs n
  have hshortfall := computePass_shortfall p sn previous regs n
  have hwindow := computePass_windows p sn previous regs n a
  have hclosing := computePass_of_not_driving p (sn := sn) previous regs n
  rw [hout] at hscaled hgovernor hresidual hshortfall hwindow hclosing
  rw [passTransfer, passRows, ← ht₂] at hscaled
  rw [← hramped, passTransfer, passRows, PerAxle.get_of, ← ht₂] at hgovernor
  refine ⟨fun h b => axleBounds_eq_presentBounds p h _ b, hscaled, hresidual, hshortfall,
    fun hmode => hclosing (by rcases hmode with h | h <;> simp [h]),
    fun hheld => hgovernor.trans (governorOf_heldOff hheld),
    fun hfree hramp => hgovernor.trans (governorOf_ramp hfree hramp),
    fun hfree hramp hfactor hpower => hgovernor.trans (governorOf_power hfree hramp hfactor hpower),
    fun hfree hramp hpower => ?_, edgeRows_of_axleBounds p sn _ _ a rfl hwindow⟩
  rw [governorOf_cut hfree hramp hpower] at hgovernor
  exact ⟨fun cuts c hcuts => by rw [hgovernor, lastCut_of_append hcuts]; rfl,
    fun hcuts => by rw [hgovernor, lastCut_of_nil hcuts]; rfl⟩

end Sys2Proof.Machine

namespace Sys2Proof.Machine

/-! SUPPORT. A frame whose content is used, from the head of the intake queue to the end of its decode, for every supervised
stream (R28, R33 to R39). -/

/-! ## Pass requests -/

theorem requestPass_of_idle {s : State} (hruns : s.modes.mode.runsPasses = true) (hidle : s.engine.flight = none) :
    requestPass s = startPass s := by
  simp [requestPass, hruns, hidle]

theorem requestPass_of_flying {s : State} {sn : Snapshot} (hruns : s.modes.mode.runsPasses = true)
    (hflight : s.engine.flight = some sn) : requestPass s = { s with engine.pendingPass := true } := by
  simp [requestPass, hruns, hflight]

theorem requestPassIf_of_still {s : State} (c : Bool) (hstill : s.modes.mode.runsPasses = false) :
    requestPassIf c s = s := by
  cases c <;> simp [requestPassIf, requestPass, hstill]

/-! ## The checks of a frame -/

theorem capRejected_eq_false {cap : Nat} (h : ¬ (16001 ≤ cap ∧ cap ≤ 65534)) : capRejected cap = false := by
  simpa [capRejected] using h

theorem directionCode_ne_three {ws : List Word16} (h : (payloadWord ws 2).toNat % 4 ≠ 3) : directionCode ws ≠ 3 := by
  intro hcode
  exact h (by simpa [directionCode] using congrArg BitVec.toNat hcode)

/-- No field of a frame that passes the checks of R31 fails. -/
theorem failingField_of_fieldsPass {r : Role} {ws : List Word16} (h : fieldsPass r ws) : failingField r ws = none := by
  obtain ⟨hdemand, hstability⟩ := h
  rcases r with i | _ | _
  case stream =>
    cases i
    case demand =>
      obtain ⟨hdirection, hprofile⟩ := hdemand rfl
      rw [failingField, if_neg (directionCode_ne_three hdirection), if_neg (Nat.not_lt.2 hprofile)]
    case stability =>
      have hfront : capRejected (stabilityCapField ws .front) = false := capRejected_eq_false (hstability rfl 1 (.inl rfl))
      have hrear : capRejected (stabilityCapField ws .rear) = false := capRejected_eq_false (hstability rfl 2 (.inr rfl))
      simp [failingField, hfront, hrear]
    all_goals rfl
  all_goals rfl

theorem judgeFrame_of_uses {r : StreamRecord} {e : IntakeEntry} (h : r.uses e) : judgeFrame r e = .used := by
  obtain ⟨hnew, hstate⟩ := h
  rcases hstate with hheard | ⟨htwo, d, hdeadline, hbefore⟩
  · cases hs : r.state <;> simp_all [judgeFrame]
  · cases hs : r.state <;> simp [judgeFrame, hnew, hs, beforeDeadline, hdeadline, hbefore, htwo, Config.qualifyingTarget]

/-- The treatment of a frame whose content is used: its stream record is updated, then its content used. -/
theorem treatEntry_of_uses {s : State} {e : IntakeEntry} {i : StreamId} (hrole : e.role = .stream i)
    (hlength : e.length.toNat = e.expectedLength) (hpass : fieldsPass e.role e.payload) (huses : (s.streams.get i).uses e) :
    treatEntry e s =
      useContent i (currentTow s) e (setStream i ((s.streams.get i).afterUse e) (countClamp e s)) := by
  have hfields := failingField_of_fieldsPass hpass
  rw [hrole] at hfields
  simp [treatEntry, hlength, hfields, handEntry, hrole, takeSupervised, judgeFrame_of_uses huses, StreamRecord.afterFrame,
    currentTow]

/-- The machine with the frame at the head of its queue taken out and its stream FRESH, before the content is used. -/
def State.frameTaken (s : State) (t : Time) (e : IntakeEntry) (rest : List IntakeEntry) (i : StreamId) : State :=
  setStream i ((s.streams.get i).afterUse e) (countClamp e { s with now := t, intake := rest })

@[simp] theorem frameTaken_frame (s : State) (t : Time) (e : IntakeEntry) (rest : List IntakeEntry) (i : StreamId) :
    (s.frameTaken t e rest i).pending = s.pending ∧ (s.frameTaken t e rest i).now = t ∧
    (s.frameTaken t e rest i).draws = s.draws ∧ (s.frameTaken t e rest i).params = s.params ∧
    (s.frameTaken t e rest i).port = s.port ∧ (s.frameTaken t e rest i).link = s.link ∧
    (s.frameTaken t e rest i).recognition = s.recognition ∧ (s.frameTaken t e rest i).intake = rest ∧
    (s.frameTaken t e rest i).streams = s.streams.set i ((s.streams.get i).afterUse e) ∧
    (s.frameTaken t e rest i).records = s.records ∧ (s.frameTaken t e rest i).table = s.table ∧
    (s.frameTaken t e rest i).engine = s.engine ∧ (s.frameTaken t e rest i).grip = s.grip ∧
    (s.frameTaken t e rest i).issuer = s.issuer ∧ (s.frameTaken t e rest i).axles = s.axles ∧
    (s.frameTaken t e rest i).modes = s.modes ∧ (s.frameTaken t e rest i).filters = s.filters ∧
    (s.frameTaken t e rest i).supply = s.supply ∧ (s.frameTaken t e rest i).exception = s.exception := by
  simp [State.frameTaken, setStream]

/-- The decode of a frame whose content is used: the content, then the holds, then the window. -/
theorem decodeHead_of_uses {s : State} {e : IntakeEntry} {rest : List IntakeEntry} {i : StreamId} (t : Time)
    (hhead : s.headIs e rest (.stream i)) (hpass : fieldsPass e.role e.payload) (huses : (s.streams.get i).uses e) :
    decodeHead { s with now := t } =
      closeWindow e { s with now := t }
        (closeHolds e (useContent i (currentTow s) e (s.frameTaken t e rest i))) := by
  obtain ⟨hintake, hrole, hlength⟩ := hhead
  have htreated : treatEntry e { s with now := t, intake := rest } =
      useContent i (currentTow s) e (s.frameTaken t e rest i) := treatEntry_of_uses hrole hlength hpass huses
  simp only [decodeHead, hintake, htreated]

/-! ## The window at the end of the decode -/

theorem setStream_get_self (i : StreamId) (s : State) : setStream i (s.streams.get i) s = s := by
  cases i <;> rfl

theorem afterUse_unflagged (r : StreamRecord) (e : IntakeEntry) : (r.afterUse e).unflagged = (r.freshened e).unflagged := rfl

theorem entryWaits_eq_false_iff {i : StreamId} {d : Time} {s : State} :
    entryWaits i d s = false ↔ ∀ x ∈ s.intake, x.role = .stream i → earlier x.arrival d = false := by
  simp [entryWaits]

theorem windowDue_eq_some_iff {i : StreamId} {s : State} {d : Time} :
    windowDue i s = some d ↔
      (s.streams.get i).deadline = some d ∧ reached s.now d = true ∧ entryWaits i d s = false := by
  cases hdeadline : (s.streams.get i).deadline with
  | none => simp [windowDue, hdeadline]
  | some x =>
    simp only [windowDue, hdeadline, Option.ite_none_right_eq_some, Option.some.injEq]
    constructor
    · rintro ⟨hdue, rfl⟩
      exact ⟨rfl, hdue⟩
    · rintro ⟨rfl, hdue⟩
      exact ⟨hdue, rfl⟩

theorem closeWindow_of_due {e : IntakeEntry} {before s : State} {i : StreamId} {d : Time} (hrole : e.role = .stream i)
    (hdue : windowDue i s = some d) (hunmoved : (before.streams.get i).deadline = some d)
    (harrival : earlier e.arrival d = true) : closeWindow e before s = expireWindow i d s := by
  simp [closeWindow, hrole, hdue, hunmoved, harrival]

theorem closeWindow_of_not_due {e : IntakeEntry} {before s : State} {i : StreamId} (hrole : e.role = .stream i)
    (h : ∀ d, windowDue i s = some d → (before.streams.get i).deadline = some d → earlier e.arrival d = false) :
    closeWindow e before s = s := by
  cases hdue : windowDue i s with
  | none => simp [closeWindow, hrole, hdue]
  | some d =>
    have hleft : ¬ ((before.streams.get i).deadline = some d ∧ earlier e.arrival d = true) := fun hclose => by
      simp [h d hdue hclose.1] at hclose
    simp [closeWindow, hrole, hdue, hleft]

/-- At the end of the decode of a used frame its stream, FRESH since the frame, may become LATE; nothing else moves. -/
theorem closeWindow_of_used {s v : State} {t : Time} {e : IntakeEntry} {rest : List IntakeEntry} {i : StreamId}
    (hrole : e.role = .stream i) (hnow : v.now = t) (hintake : v.intake = rest)
    (hstream : v.streams.get i = (s.streams.get i).afterUse e) :
    ∃ w, closeWindow e { s with now := t } v = setStream i w v ∧ w.unflagged = (s.streamAfterUse t e rest i).unflagged := by
  obtain ⟨d, hd⟩ : ∃ d, d = later e.arrival ((s.streams.get i).window.getD 0) := ⟨_, rfl⟩
  have hdeadline : (v.streams.get i).deadline = some d := by rw [hstream, hd]; rfl
  have hfresh : (v.streams.get i).state = .fresh := by rw [hstream]; rfl
  have hdue : ∀ x, windowDue i v = some x ↔
      d = x ∧ reached t x = true ∧ ∀ y ∈ rest, y.role = .stream i → earlier y.arrival x = false := by
    intro x
    rw [windowDue_eq_some_iff, entryWaits_eq_false_iff, hdeadline, hnow, hintake, Option.some.injEq]
  simp only [State.streamAfterUse, ← hd]
  split
  case isTrue hexpires =>
    obtain ⟨hunmoved, harrival, hreached, hnone⟩ := hexpires
    refine ⟨(v.streams.get i).expired d, ?_, ?_⟩
    · rw [closeWindow_of_due (before := { s with now := t }) hrole ((hdue d).2 ⟨rfl, hreached, hnone⟩) hunmoved harrival]
      simp [expireWindow, hfresh]
    · rw [StreamRecord.expired, hfresh, hstream]
      rfl
  case isFalse hstays =>
    refine ⟨v.streams.get i, ?_, ?_⟩
    · rw [setStream_get_self]
      refine closeWindow_of_not_due hrole fun x hx hunmoved => ?_
      obtain ⟨rfl, hreached, hnone⟩ := (hdue x).1 hx
      exact Bool.eq_false_iff.2 fun harrival => hstays ⟨hunmoved, harrival, hreached, hnone⟩
    · rw [hstream, afterUse_unflagged]

/-- The end of an event moves no more of a stream record than its change flag. -/
theorem settle_unflagged {before s : State} (hquiet : marksQuiet before s = false) (i : StreamId) :
    ((settle before s).streams.get i).unflagged = (s.streams.get i).unflagged := by
  have hstreams : (settle before s).streams.map StreamRecord.unflagged = s.streams.map StreamRecord.unflagged :=
    congrArg State.streams (settle_unreported before s hquiet)
  simpa using congrArg (fun p => p.get i) hstreams

/-! SUPPORT. The STABILITY row: what a used frame writes, when a cell is changed, and the holds at the end of the decode (R45, R56
to R58). -/

/-! ## What the frame carries -/

theorem stabilityHold_eq {ws : List Word16} {hold : Nat} (h : (hold : Int) = max 0 (min 1000 (payloadWord ws 3).toInt)) :
    stabilityHold ws = hold := by
  unfold stabilityHold clampTo payloadInt
  split <;> [skip; split] <;> omega

theorem stabilityCell_eq {now : Time} {e : IntakeEntry} {a : Axle} {hold cap : Nat} (hhold : stabilityHold e.payload = hold)
    (hcap : stabilityCapField e.payload a = cap) : stabilityCell now e a =
      if hold = 0 ∨ cap = 65535 ∨ reached now (later e.arrival hold) = true then none
      else some { cap := cap, expiry := some (later e.arrival hold) } := by
  subst hhold hcap
  rfl

/-- A cell that a frame sets is present only while its hold has not run out. -/
theorem stabilityCell_expiry {now : Time} {e : IntakeEntry} {a : Axle} {c : StabilityCap}
    (h : stabilityCell now e a = some c) : ∃ x, c.expiry = some x ∧ reached now x = false := by
  simp only [stabilityCell, Option.ite_none_left_eq_some, Option.some.injEq, not_or] at h
  obtain ⟨⟨-, -, hlasts⟩, rfl⟩ := h
  exact ⟨_, rfl, Bool.eq_false_iff.2 hlasts⟩

/-! ## A change of the row -/

theorem stabilityChanged_eq_false_iff {before : PerAxle (Option StabilityCap)} {s : State} :
    stabilityChanged before s = false ↔ ∀ a, (s.table.stability.get a).map (·.cap) = (before.get a).map (·.cap) := by
  simp only [stabilityChanged, sameCap, Bool.not_eq_false', Bool.and_eq_true, beq_iff_eq]
  constructor
  · rintro ⟨hfront, hrear⟩ a
    cases a
    · exact hfront.symm
    · exact hrear.symm
  · exact fun h => ⟨(h .front).symm, (h .rear).symm⟩

/-! ## The holds at the end of the decode -/

theorem expireCell_of_not_due {due : Time → Bool} {c : Option StabilityCap}
    (h : ∀ v x, c = some v → v.expiry = some x → due x = false) : expireCell due c = c := by
  rcases c with _ | v
  · rfl
  · cases hexpiry : v.expiry with
    | none => simp [expireCell, hexpiry]
    | some x => simp [expireCell, hexpiry, h v x rfl hexpiry]

theorem expireHolds_of_none_due {due : Time → Bool} {s : State}
    (h : ∀ a v x, s.table.stability.get a = some v → v.expiry = some x → due x = false) : expireHolds due s = s := by
  have hcells : s.table.stability.map (expireCell due) = s.table.stability :=
    PerAxle.ext_get fun a => by rw [PerAxle.get_map, expireCell_of_not_due (h a)]
  have hunchanged : stabilityChanged s.table.stability s = false := stabilityChanged_eq_false_iff.2 fun _ => rfl
  simp only [expireHolds, hcells]
  exact congrArg (requestPassIf · s) hunchanged

/-! ## The use of the frame -/

/-- The STABILITY row as a used frame sets it. -/
def setCaps (e : IntakeEntry) (s : State) : State :=
  { s with table.stability := PerAxle.of fun a => stabilityCell s.now e a }

theorem useStability_eq (e : IntakeEntry) (s : State) :
    useStability e s = requestPassIf (stabilityChanged s.table.stability (setCaps e s)) (setCaps e s) := rfl

@[simp] theorem useStability_table (e : IntakeEntry) (s : State) :
    (useStability e s).table = (setCaps e s).table := by
  simp [useStability_eq]

theorem useStability_of_unchanged {e : IntakeEntry} {s : State}
    (h : ∀ a, (stabilityCell s.now e a).map (·.cap) = (s.table.stability.get a).map (·.cap)) :
    useStability e s = setCaps e s := by
  have hunchanged : stabilityChanged s.table.stability (setCaps e s) = false :=
    stabilityChanged_eq_false_iff.2 (by simpa [setCaps] using h)
  rw [useStability_eq, hunchanged]
  rfl

theorem useStability_of_changed {e : IntakeEntry} {s : State} {a : Axle}
    (h : (stabilityCell s.now e a).map (·.cap) ≠ (s.table.stability.get a).map (·.cap)) :
    useStability e s = requestPass (setCaps e s) := by
  have hchanged : stabilityChanged s.table.stability (setCaps e s) = true := by
    refine Bool.of_not_eq_false fun hunchanged => h ?_
    simpa [setCaps] using stabilityChanged_eq_false_iff.1 hunchanged a
  rw [useStability_eq, hchanged]
  rfl

/-- No hold that a used frame sets has run out at the end of its decode. -/
theorem closeHolds_useStability (e : IntakeEntry) (s : State) : closeHolds e (useStability e s) = useStability e s := by
  unfold closeHolds
  split
  · refine expireHolds_of_none_due fun a v x hcell hexpiry => ?_
    obtain ⟨y, hy, hlasts⟩ := stabilityCell_expiry (now := s.now) (e := e) (a := a) (by simpa [setCaps] using hcell)
    obtain rfl : y = x := Option.some.inj (hy.symm.trans hexpiry)
    simp [holdDue, hlasts]
  · rfl

/-- The decode of a used STABILITY frame: the caps are used with the stream FRESH, which may be LATE at the end. -/
theorem decodeHead_stability {s : State} {e : IntakeEntry} {rest : List IntakeEntry} (t : Time)
    (hhead : s.headIs e rest (.stream .stability)) (hpass : fieldsPass e.role e.payload) (huses : s.streams.stability.uses e) :
    ∃ w, decodeHead { s with now := t } =
        setStream .stability w (useStability e (s.frameTaken t e rest .stability)) ∧
      w.unflagged = (s.streamAfterUse t e rest .stability).unflagged := by
  obtain ⟨-, hrole, -⟩ := id hhead
  rw [decodeHead_of_uses t hhead hpass huses, useContent, closeHolds_useStability]
  exact closeWindow_of_used hrole (by simp) (by simp) (by simp)

/-- Settles O24: the decode of the frame is the use of its caps, its request one pass request where a cap changed; the rest of the
event leaves the row and the engine as they are. -/
theorem stabilityFrameSetsTheCaps : Obligations.StabilityFrameSetsTheCaps := by
  intro s t e rest hold hhead hpass huses hhold
  obtain ⟨w, hdecode, hw⟩ := decodeHead_stability t hhead hpass huses
  obtain ⟨f, hf⟩ : ∃ f, f = s.frameTaken t e rest .stability := ⟨_, rfl⟩
  obtain ⟨u, hu⟩ : ∃ u, u = settle s (setStream .stability w (useStability e f)) := ⟨_, rfl⟩
  rw [← hf] at hdecode
  have hquiet : marksQuiet s (setStream .stability w (useStability e f)) = false := marksQuiet_same (by simp [hf])
  have hstream : u.streams.stability.unflagged = w.unflagged := by
    rw [hu]
    exact settle_unflagged hquiet .stability
  have hcell (a : Axle) : u.table.stability.get a = stabilityCell t e a := by simp [hu, setCaps, hf]
  have hengine : u.engine = (useStability e f).engine := by simp [hu]
  have hnow : f.now = t := by simp [hf]
  have htable : f.table = s.table := by simp [hf]
  have hmodes : f.modes = s.modes := by simp [hf]
  have hbefore : f.engine = s.engine := by simp [hf]
  refine ⟨u, by simp only [exec, execDecode, event, hdecode, hu], hstream.trans hw, by simp [hu, hf], by simp [hu, hf],
    by simp [hu, hf], by simp [hu, hf], by simp [hu, hf], by simp [hu, hf], by simp [hu, hf, setCaps],
    by simp [hu, hf, setCaps], by simp [hu, hf, setCaps], fun a cap hcap => ?_, fun hstill => ?_, fun hsame => ?_,
    fun hruns hdiffers => ?_⟩
  · rw [hcell, stabilityCell_eq (stabilityHold_eq hhold) (by cases a <;> exact hcap)]
  · rw [hengine, useStability_eq, requestPassIf_of_still _ (hmodes ▸ hstill)]
    exact hbefore
  · rw [hengine, useStability_of_unchanged fun a => by rw [hnow, htable, ← hcell, hsame]]
    exact hbefore
  · obtain ⟨a, ha⟩ := hdiffers
    rw [hcell, ← hnow, ← htable] at ha
    rw [useStability_of_changed ha] at hengine
    refine ⟨fun hidle => ?_, fun sn hflight => ?_⟩
    · rw [requestPass_of_idle (hmodes ▸ hruns) (hbefore ▸ hidle)] at hengine
      refine ⟨takeSnapshot (setCaps e f), by rw [hengine]; rfl, ?_, hnow, congrArg ModeController.mode hmodes,
        by rw [hengine]; rfl, by rw [hengine]; exact hnow⟩
      simp [hu, takeSnapshot]
    · rw [hengine, requestPass_of_flying (hmodes ▸ hruns) (hbefore ▸ hflight), ← hbefore]
      rfl

end Sys2Proof.Machine

namespace Sys2Proof.Machine

/-! SUPPORT. Stage S3 keeps each grip ceiling between the grip floor and the driveline limit, rule by rule (R90 to R94). -/

theorem elapsedTime_pos (sn : Snapshot) : 1 ≤ elapsedTime sn := by
  unfold elapsedTime
  split
  · exact le_rfl
  · exact (clampTo_bounds _ (by decide)).1

/-- The preparation of R90 brings a ceiling down to the limit, which is itself at or above the floor. -/
theorem prepareGrip_bounds {floor gmax : Int} {g : Option Int} (hlimit : floor ≤ gmax) (hg : ∀ v, g = some v → floor ≤ v) :
    floor ≤ prepareGrip gmax g ∧ prepareGrip gmax g ≤ gmax := by
  cases g with
  | none => exact ⟨hlimit, le_rfl⟩
  | some v =>
    have hv := hg v rfl
    simp only [prepareGrip]
    split <;> omega

section Update

variable {p : Params} {gmax elapsed sigma target g : Int}

/-- A cut is held at the floor and starts no higher than the prepared ceiling (R91). -/
theorem gripCut_bounds (previous : Int) (hgain : 0 ≤ p.cutGain) (hexcess : target < sigma) (hlow : p.gripFloor ≤ g) :
    p.gripFloor ≤ max p.gripFloor (min g (magnitude previous) - p.cutGain * (sigma - target)) ∧
      max p.gripFloor (min g (magnitude previous) - p.cutGain * (sigma - target)) ≤ g := by
  have hcut : 0 ≤ p.cutGain * (sigma - target) := Int.mul_nonneg hgain (by omega)
  omega

/-- A recovery starts at the prepared ceiling and ends at the limit (R93). -/
theorem gripRecovery_bounds (hrate : 0 ≤ p.recoveryRate) (helapsed : 0 ≤ elapsed) (hlimit : g ≤ gmax) :
    g ≤ min gmax (g + p.recoveryRate * elapsed) ∧ min gmax (g + p.recoveryRate * elapsed) ≤ gmax := by
  have hrise : 0 ≤ p.recoveryRate * elapsed := Int.mul_nonneg hrate helapsed
  omega

theorem updateGrip_bounds (previous : Int) (st : GripState) (hgain : 0 ≤ p.cutGain) (hrate : 0 ≤ p.recoveryRate)
    (helapsed : 0 ≤ elapsed) (hlow : p.gripFloor ≤ g) (hlimit : g ≤ gmax) :
    p.gripFloor ≤ (updateGrip p gmax elapsed sigma target previous g st).1 ∧
      (updateGrip p gmax elapsed sigma target previous g st).1 ≤ gmax := by
  unfold updateGrip
  split
  next hexcess =>
    obtain ⟨habove, hbelow⟩ := gripCut_bounds previous hgain hexcess hlow
    exact ⟨habove, hbelow.trans hlimit⟩
  next =>
    obtain ⟨habove, hbelow⟩ := gripRecovery_bounds hrate helapsed hlimit
    cases st with
    | slipping => exact ⟨hlow, hlimit⟩
    | gripping => exact ⟨hlow.trans habove, hbelow⟩
    | recovering => exact ⟨hlow.trans habove, hbelow⟩

end Update

section Pass

variable {p : Params} {sn : Snapshot}

theorem gripStage_bounds (hp : p.PassSound) (hsn : sn.Sound p) (demand vref previous : Int) (reg : GripRegulator) (a : Axle) :
    ∃ g, (gripStage p sn (elapsedTime sn) demand vref previous reg a).ceiling = some g ∧
      p.gripFloor ≤ g ∧ g ≤ drivelineLimit p (passTow sn) a := by
  obtain ⟨-, hgain, hrate, -, -, -, -, -, -, hlimits⟩ := hp
  obtain ⟨-, -, -, -, hgrip⟩ := hsn a
  have hfloor : p.gripFloor ≤ drivelineLimit p (passTow sn) a := (hlimits _ a).1
  have helapsed : 0 ≤ elapsedTime sn := zero_le_one.trans (elapsedTime_pos sn)
  by_cases hmeasured : measured sn a = true
  · have hcell (v : Int) (hv : (sn.table.grip.get a).map (·.ceiling) = some v) : p.gripFloor ≤ v := by
      obtain ⟨b, hb, rfl⟩ := Option.map_eq_some_iff.1 hv
      exact hgrip b hb
    obtain ⟨hlow, hhigh⟩ := prepareGrip_bounds hfloor hcell
    exact ⟨_, congrArg GripRegulator.ceiling (if_pos hmeasured),
      updateGrip_bounds previous reg.state hgain hrate helapsed hlow hhigh⟩
  · exact ⟨_, congrArg GripRegulator.ceiling (if_neg hmeasured), hfloor, le_rfl⟩

theorem computePass_gripCeiling (p : Params) (sn : Snapshot) (previous : PerAxle Int) (regs : PerAxle GripRegulator)
    (n : BitVec 32) (a : Axle) : (computePass p sn previous regs n).record.gripCeiling.get a =
      (gripStage p sn (elapsedTime sn) (passDemand sn) (referenceSpeed p sn) (previous.get a) (regs.get a) a).ceiling.getD 0 := by
  cases a <;> rfl

/-- R94 for the record of a pass. -/
theorem computePass_gripCeiling_bounds (hp : p.PassSound) (hsn : sn.Sound p) (previous : PerAxle Int)
    (regs : PerAxle GripRegulator) (n : BitVec 32) (a : Axle) :
    p.gripFloor ≤ (computePass p sn previous regs n).record.gripCeiling.get a ∧
      (computePass p sn previous regs n).record.gripCeiling.get a ≤ drivelineLimit p (passTow sn) a := by
  obtain ⟨g, hg, hbounds⟩ := gripStage_bounds hp hsn (passDemand sn) (referenceSpeed p sn) (previous.get a) (regs.get a) a
  rwa [computePass_gripCeiling, hg]

/-! SUPPORT. Every present cell contains zero, so their window does (R48, R62). -/

theorem symmetric_containsZero {m : Int} (h : 0 ≤ m) : (symmetric m).containsZero :=
  ⟨Int.neg_nonpos_of_nonneg h, h⟩

theorem loweredCeiling_nonneg (p : Params) (sn : Snapshot) (elapsed : Int) (a : Axle) :
    0 ≤ loweredCeiling p sn elapsed a := by
  unfold loweredCeiling
  split
  · exact le_rfl
  · exact le_max_left _ _

theorem rowBound_containsZero (r : Row) {c : Option Bounds} (h : ∀ b, c = some b → b.containsZero) :
    ∀ b ∈ rowBound r c, b.bounds.containsZero := by
  cases c with
  | none => exact fun _ hb => absurd hb List.not_mem_nil
  | some x => exact fun b hb => List.mem_singleton.1 hb ▸ h x rfl

theorem driveline_mem_axleBounds (hsn : sn.Sound p) (elapsed g : Int) (a : Axle) :
    RowBound.mk .driveline (symmetric (drivelineLimit p (passTow sn) a)) ∈ axleBounds p sn elapsed g a := by
  simp [axleBounds, rowBound, (hsn a).1]

theorem axleBounds_containsZero (hp : p.PassSound) (hsn : sn.Sound p) (elapsed : Int) {g : Int} (hg : 0 ≤ g) (a : Axle) :
    ∀ b ∈ axleBounds p sn elapsed g a, b.bounds.containsZero := by
  obtain ⟨hfloor, -, -, -, -, -, -, -, -, hlimits⟩ := hp
  obtain ⟨hdriveline, hinverter, haxle, hstability, -⟩ := hsn a
  simp only [axleBounds, List.forall_mem_append]
  refine ⟨⟨⟨⟨⟨?driveline, rowBound_containsZero _ hinverter⟩, rowBound_containsZero _ haxle⟩, ?stability⟩, ?grip⟩, ?supply⟩
  case driveline =>
    rw [hdriveline]
    refine rowBound_containsZero _ fun b hb => ?_
    cases hb
    exact symmetric_containsZero (hfloor.trans (hlimits _ a).1)
  case stability =>
    refine rowBound_containsZero _ fun b hb => ?_
    obtain ⟨c, hc, rfl⟩ := Option.map_eq_some_iff.1 hb
    exact symmetric_containsZero (hstability c hc)
  case grip =>
    refine rowBound_containsZero _ fun b hb => ?_
    cases hb
    exact symmetric_containsZero hg
  case supply =>
    refine rowBound_containsZero _ fun b hb => ?_
    split at hb <;> cases hb
    exact symmetric_containsZero (loweredCeiling_nonneg p sn elapsed a)

/-- Each edge of a window being one of its bounds, the window contains zero where every bound does. -/
theorem composeWindow_containsZero {g : Int} {bs : List RowBound} (hg : RowBound.mk .grip (symmetric g) ∈ bs)
    (h : ∀ b ∈ bs, b.bounds.containsZero) : (composeWindow g bs).containsZero := by
  obtain ⟨⟨b, hb, hceiling⟩, c, hc, hfloor⟩ := composeWindow_attained hg
  exact ⟨hfloor ▸ (h c hc).1, hceiling ▸ (h b hb).2⟩

end Pass

/-! The statement about the windows and the grip ceilings of a pass. -/

/-- Settles O44: the edges of a window are bounds of its present cells (R14). Each of these contains zero, GRIP because its ceiling
stays above the grip floor, and DRIVELINE, which is one of them, holds the window within the limit. -/
theorem windowsContainZeroWithinTheDrivelineLimit : Obligations.WindowsContainZeroWithinTheDrivelineLimit := by
  intro p sn previous regs n a
  refine ⟨?_, fun hp hsn => ?_⟩
  · rintro r bounds w rfl hsupply rfl rfl
    rw [computePass_windows, ← axleBounds_eq_presentBounds p hsupply]
    exact ⟨fun b hb => composeWindow_within hb, composeWindow_attained (grip_mem_axleBounds ..)⟩
  · obtain ⟨hlow, hhigh⟩ := computePass_gripCeiling_bounds hp hsn previous regs n a
    have hgrip := hp.1.trans hlow
    obtain ⟨hfloor, hceiling⟩ := composeWindow_within (g := (computePass p sn previous regs n).record.gripCeiling.get a)
      (driveline_mem_axleBounds hsn (elapsedTime sn) ((computePass p sn previous regs n).record.gripCeiling.get a) a)
    rw [computePass_windows]
    exact ⟨composeWindow_containsZero (grip_mem_axleBounds ..) (axleBounds_containsZero hp hsn _ hgrip a), hfloor, hceiling,
      hlow, hhigh⟩

end Sys2Proof.Machine

namespace Sys2Proof.Machine

/-! SUPPORT. Every command but POWER_ON_RESET is one event: its time, its own effect, and the report unit's work at its end. -/

/-! ## Commands as events -/

/-- The time a command carries. POWER_ON_RESET carries none. -/
def commandTime : Instr → Time
  | .powerOnReset => 0
  | .readAttemptEnd t _ => t
  | .frameReception t _ => t
  | .decode t => t
  | .alertSeen t _ => t
  | .readCapture t _ => t
  | .releaseCapture t _ => t
  | .readException t => t
  | .releaseException t => t
  | .readCounters t => t
  | .readStreamCounts t _ => t
  | .windowExpiry t _ => t
  | .holdExpiry t => t
  | .passTimerExpiry t => t
  | .passEnd t => t
  | .lineChange t _ _ => t
  | .filterTimerExpiry t _ => t
  | .supplySenseChange t _ => t
  | .lowEvent t => t
  | .restoreEvent t => t
  | .statusTimerExpiry t => t
  | .offer bus => bus.time
  | .cleanTransmission echo => echo.time
  | .lostArbitration echo => echo.time
  | .echoMismatch echo => echo.time

/-- A command's own effect, before the report unit's work at the end of the event. -/
def commandEffect : Instr → State → State
  | .powerOnReset => powerOnReset
  | .readAttemptEnd _ bytes => endAttempt bytes
  | .frameReception _ levels => receiveFrame levels
  | .decode _ => decodeHead
  | .alertSeen _ number => noteAlert number
  | .readCapture _ argument => queryReadCapture argument
  | .releaseCapture _ argument => queryReleaseCapture argument
  | .readException _ => queryReadException
  | .releaseException _ => queryReleaseException
  | .readCounters _ => queryReadCounters
  | .readStreamCounts _ argument => queryReadStreamCounts argument
  | .windowExpiry _ i => expireIfDue i
  | .holdExpiry _ => expireDueHolds
  | .passTimerExpiry _ => expirePassTimer
  | .passEnd _ => endPass
  | .lineChange _ l level => changeLine l level
  | .filterTimerExpiry _ l => expireFilter l
  | .supplySenseChange _ level => senseSupply level
  | .lowEvent _ => takeLowEvent
  | .restoreEvent _ => takeRestoreEvent
  | .statusTimerExpiry _ => expireStatusTimer
  | .offer bus => makeOffer bus.levels
  | .cleanTransmission echo => completeTransmission echo.levels
  | .lostArbitration echo => loseArbitration echo.levels
  | .echoMismatch echo => mismatchEcho echo.levels

/-- The machine at the end of a command's own effect. -/
def afterEffect (c : Instr) (s : State) : State := commandEffect c { s with now := commandTime c }

theorem exec_eq_settle {c : Instr} (h : c ≠ .powerOnReset) (s : State) :
    exec c s = .next (settle s (afterEffect c s)) := by
  cases c with
  | powerOnReset => exact absurd rfl h
  | _ => rfl

theorem exec_next_iff {c : Instr} (h : c ≠ .powerOnReset) {s u : State} :
    exec c s = .next u ↔ u = settle s (afterEffect c s) := by
  rw [exec_eq_settle h, Host.Outcome.next.injEq, eq_comm]

/-- A property that no waiting command enters, that POWER_ON_RESET establishes and every event keeps, is kept by every step. -/
theorem step_keeps {P Q : State → Prop} {s u : State} (hstep : step s = .next u) (hidle : P s → Q s)
    (hpending : ∀ rest, P s → P { s with pending := rest }) (hreset : ∀ v, P v → Q (powerOnReset v))
    (hevent : ∀ c v, c ≠ .powerOnReset → P v → Q (settle v (afterEffect c v))) (hs : P s) : Q u := by
  unfold step at hstep
  split at hstep
  case h_1 =>
    cases hstep
    exact hidle hs
  case h_2 c rest hwaits =>
    by_cases hc : c = .powerOnReset
    · subst hc
      cases hstep
      exact hreset _ (hpending rest hs)
    · rw [(exec_next_iff hc).1 hstep]
      exact hevent c _ hc (hpending rest hs)

/-! ## What the end of an event leaves (R167 to R171, R176) -/

/-- The report unit places its own two kinds of frame, which are not AXLE COMMANDs, so no placement is counted. -/
theorem placeFrame_own (entering : Bool) {f : OutFrame} (h : f.kind = .status ∨ f.kind = .alert) (s : State) :
    placeFrame entering f s =
      if refusesPlacement entering s then s else setMailbox f.kind (some f) s := by
  unfold placeFrame takePlacement discardOlder
  rcases h with h | h <;> simp [h, OwnKind.isCommand]

/-- The link controller after a placement: the mailbox of the frame's kind holds it, unless the placement is refused. -/
theorem placeFrame_link (entering : Bool) (f : OutFrame) (s : State) :
    (placeFrame entering f s).link =
      if refusesPlacement entering s then s.link
      else { s.link with mailboxes := s.link.mailboxes.set f.kind (some f) } := by
  unfold placeFrame takePlacement
  split
  · rfl
  · split <;> simp [setMailbox]

theorem findLeading_report (entering : Bool) (before s : State) :
    (findLeading entering before s).report =
      { s.report with
        leading := if before.report.alerts = s.report.alerts then s.report.leading
          else leadingAlert s.par s.report.alerts } := by
  simp only [findLeading]
  split
  · rfl
  · split
    next h => rw [h]
    next => rw [placeFrame_own _ (.inr rfl)]; split <;> rfl

theorem placeStatus_report (entering : Bool) (s : State) :
    (placeStatus entering s).report = { s.report with placement := s.report.placement + 1 } := by
  rw [placeStatus, placeFrame_own _ (.inl rfl)]
  split <;> rfl

/-- An event reports a change: of a value that STATUS carries, or of a stream state that a change flag shows (R167). -/
def reportsChange (before s : State) : Bool := !decide (reported before = reported s) || flagRaised before s

theorem reportChanges_eq (entering : Bool) (before s : State) :
    reportChanges entering before s = if reportsChange before s then placeStatus entering s else s := by
  unfold reportChanges reportsChange
  by_cases hsame : reported before = reported s <;> cases flagRaised before s <;> simp [hsame]

/-- The machine as the lines of an event find it: the alerts and the leading alert are settled. -/
def leadSettled (before s : State) : State := findLeading (marksQuiet before s) before (weighAlerts before s)

/-- The machine as the STATUS of an event finds it: the lines have followed their sources too. -/
def alertsSettled (before s : State) : State := driveLines before (leadSettled before s)

theorem settle_eq (before s : State) :
    settle before s =
      if marksQuiet before s then endQuietPhase (reportChanges true before (alertsSettled before s))
      else reportChanges false before (alertsSettled before s) := by
  unfold settle alertsSettled leadSettled
  cases marksQuiet before s <;> rfl

@[simp] theorem alertsSettled_frame (before s : State) :
    (alertsSettled before s).pending = s.pending ∧ (alertsSettled before s).now = s.now ∧
    (alertsSettled before s).params = s.params ∧ (alertsSettled before s).port = s.port ∧
    (alertsSettled before s).recognition = s.recognition ∧ (alertsSettled before s).intake = s.intake ∧
    (alertsSettled before s).streams = s.streams ∧ (alertsSettled before s).records = s.records ∧
    (alertsSettled before s).table = s.table ∧ (alertsSettled before s).engine = s.engine ∧
    (alertsSettled before s).grip = s.grip ∧ (alertsSettled before s).issuer = s.issuer ∧
    (alertsSettled before s).axles = s.axles ∧ (alertsSettled before s).modes = s.modes ∧
    (alertsSettled before s).filters = s.filters ∧ (alertsSettled before s).supply = s.supply ∧
    (alertsSettled before s).exception = s.exception := by
  simp [alertsSettled, leadSettled, driveLines, weighAlerts]

theorem alertsSettled_report (before s : State) :
    (alertsSettled before s).report =
      { s.report with
        alerts := (weighAlerts before s).report.alerts
        leading := if before.report.alerts = (weighAlerts before s).report.alerts then s.report.leading
          else leadingAlert s.par (weighAlerts before s).report.alerts
        sta := lineAfter (·.sta) before (leadSettled before s) s.report.sta
        stb := lineAfter (·.stb) before (leadSettled before s) s.report.stb } := by
  have hlead : (leadSettled before s).report =
      { s.report with
        alerts := (weighAlerts before s).report.alerts
        leading := if before.report.alerts = (weighAlerts before s).report.alerts then s.report.leading
          else leadingAlert s.par (weighAlerts before s).report.alerts } := findLeading_report _ _ _
  simp only [alertsSettled, driveLines, hlead]

/-- The end of an event changes no value that STATUS carries before its STATUS is placed. -/
theorem reported_alertsSettled (before s : State) : reported (alertsSettled before s) = reported s := by
  have hreport := alertsSettled_report before s
  have hplace (entering : Bool) (f : OutFrame) (v : State) : (placeFrame entering f v).link.state = v.link.state := by
    rw [placeFrame_link]
    split <;> rfl
  have hlink : (alertsSettled before s).link.state = s.link.state := by
    simp only [alertsSettled, leadSettled, driveLines, findLeading]
    repeat' split
    all_goals simp [hplace]
  simp [reported, hreport, hlink]

theorem reportsChange_alertsSettled (before s : State) :
    reportsChange before (alertsSettled before s) = reportsChange before s := by
  simp [reportsChange, reported_alertsSettled, flagRaised]

theorem placeStatus_supply (entering : Bool) (s : State) :
    (placeStatus entering s).supply = markAfterPlacement (s.report.placement + 1) s.supply := by
  rw [placeStatus, placeFrame_own _ (.inl rfl)]
  split <;> rfl

theorem placeStatus_streams (entering : Bool) (s : State) :
    (placeStatus entering s).streams =
      s.streams.map fun r => { r with flag := r.flag.carry (s.report.placement + 1) } := by
  rw [placeStatus, placeFrame_own _ (.inl rfl)]
  split <;> rfl

/-- The report unit after an event. -/
theorem settle_report (before s : State) :
    (settle before s).report =
      { s.report with
        alerts := (weighAlerts before s).report.alerts
        leading := if before.report.alerts = (weighAlerts before s).report.alerts then s.report.leading
          else leadingAlert s.par (weighAlerts before s).report.alerts
        placement := if reportsChange before s then s.report.placement + 1 else s.report.placement
        sta := lineAfter (·.sta) before (leadSettled before s) s.report.sta
        stb := lineAfter (·.stb) before (leadSettled before s) s.report.stb } := by
  have hreport := alertsSettled_report before s
  have hchanges (e : Bool) : (reportChanges e before (alertsSettled before s)).report =
      { (alertsSettled before s).report with
        placement := if reportsChange before s then s.report.placement + 1 else s.report.placement } := by
    rw [reportChanges_eq, reportsChange_alertsSettled]
    split <;> simp [placeStatus_report, hreport]
  rw [settle_eq]
  split <;> simp [hchanges, hreport]

@[simp] theorem settle_report_frame (before s : State) :
    (settle before s).report.statusTimer = s.report.statusTimer ∧ (settle before s).report.powerRun = s.report.powerRun ∧
    (settle before s).report.gripLimiting = s.report.gripLimiting ∧ (settle before s).report.request = s.report.request ∧
    (settle before s).report.slotOne = s.report.slotOne ∧ (settle before s).report.slotTwo = s.report.slotTwo ∧
    (settle before s).report.newestSlot = s.report.newestSlot ∧ (settle before s).report.query = s.report.query ∧
    (settle before s).report.counters = s.report.counters := by
  simp [settle_report]

theorem settle_alerts (before s : State) :
    (settle before s).report.alerts = (weighAlerts before s).report.alerts := by
  rw [settle_report]

theorem settle_leading (before s : State) :
    (settle before s).report.leading =
      if before.report.alerts = (weighAlerts before s).report.alerts then s.report.leading
      else leadingAlert s.par (weighAlerts before s).report.alerts := by
  rw [settle_report]

theorem settle_placement (before s : State) :
    (settle before s).report.placement =
      if reportsChange before s then s.report.placement + 1 else s.report.placement := by
  rw [settle_report]

/-- The streams after an event: a STATUS carries every raised flag (R168), and nothing else of a record moves. -/
theorem settle_streams (before s : State) (i : StreamId) :
    (settle before s).streams.get i =
      if reportsChange before s then
        { s.streams.get i with flag := (s.streams.get i).flag.carry (s.report.placement + 1) }
      else s.streams.get i := by
  have hreport := alertsSettled_report before s
  have hchanges (e : Bool) : (reportChanges e before (alertsSettled before s)).streams.get i =
      if reportsChange before s then
        { s.streams.get i with flag := (s.streams.get i).flag.carry (s.report.placement + 1) }
      else s.streams.get i := by
    rw [reportChanges_eq, reportsChange_alertsSettled]
    split <;> simp [placeStatus_streams, hreport]
  rw [settle_eq]
  split <;> simp [hchanges]

@[simp] theorem settle_stream_frame (before s : State) (i : StreamId) :
    ((settle before s).streams.get i).role = (s.streams.get i).role ∧
    ((settle before s).streams.get i).window = (s.streams.get i).window ∧
    ((settle before s).streams.get i).lastSequence = (s.streams.get i).lastSequence ∧
    ((settle before s).streams.get i).lastArrival = (s.streams.get i).lastArrival ∧
    ((settle before s).streams.get i).state = (s.streams.get i).state ∧
    ((settle before s).streams.get i).deadline = (s.streams.get i).deadline ∧
    ((settle before s).streams.get i).qualifying = (s.streams.get i).qualifying ∧
    ((settle before s).streams.get i).repeats = (s.streams.get i).repeats ∧
    ((settle before s).streams.get i).malformed = (s.streams.get i).malformed := by
  rw [settle_streams]
  split <;> simp

/-- The supply monitor after an event: a STATUS may set the reported mark (R139). -/
theorem settle_supply (before s : State) :
    (settle before s).supply =
      if reportsChange before s then markAfterPlacement (s.report.placement + 1) s.supply else s.supply := by
  have hreport := alertsSettled_report before s
  have hchanges (e : Bool) : (reportChanges e before (alertsSettled before s)).supply =
      if reportsChange before s then markAfterPlacement (s.report.placement + 1) s.supply else s.supply := by
    rw [reportChanges_eq, reportsChange_alertsSettled]
    split <;> simp [placeStatus_supply, hreport]
  rw [settle_eq]
  split <;> simp [hchanges]

@[simp] theorem markAfterPlacement_frame (n : BitVec 32) (m : SupplyMonitor) :
    (markAfterPlacement n m).sense = m.sense ∧ (markAfterPlacement n m).judgement = m.judgement ∧
    (markAfterPlacement n m).lowTimer = m.lowTimer ∧ (markAfterPlacement n m).restoreTimer = m.restoreTimer ∧
    (markAfterPlacement n m).flag = m.flag := by
  unfold markAfterPlacement
  split <;> simp

@[simp] theorem settle_supply_frame (before s : State) :
    (settle before s).supply.sense = s.supply.sense ∧ (settle before s).supply.judgement = s.supply.judgement ∧
    (settle before s).supply.lowTimer = s.supply.lowTimer ∧
    (settle before s).supply.restoreTimer = s.supply.restoreTimer ∧ (settle before s).supply.flag = s.supply.flag := by
  rw [settle_supply]
  split <;> simp

/-! ## The link controller at the end of an event -/

/-- The STATUS and ALERT mailboxes, which the report unit writes at the end of an event. -/
def OwnKind.isReport : OwnKind → Bool
  | .alert => true
  | .status => true
  | .frontCommand => false
  | .rearCommand => false
  | .splitReport => false
  | .reply => false

/-- `u` has the link controller of `s`, but for the STATUS and ALERT mailboxes. -/
def sameLink (u s : State) : Prop :=
  u.link = { s.link with mailboxes := u.link.mailboxes } ∧
    ∀ k, k.isReport = false → u.link.mailboxes.get k = s.link.mailboxes.get k

theorem sameLink_refl (s : State) : sameLink s s := ⟨rfl, fun _ _ => rfl⟩

theorem sameLink_trans {u v s : State} (h₁ : sameLink u v) (h₂ : sameLink v s) : sameLink u s :=
  ⟨by rw [h₁.1, h₂.1], fun k hk => (h₁.2 k hk).trans (h₂.2 k hk)⟩

theorem sameLink_placeFrame (entering : Bool) {f : OutFrame} (h : f.kind.isReport = true) (s : State) :
    sameLink (placeFrame entering f s) s := by
  unfold sameLink
  rw [placeFrame_link]
  split
  · exact ⟨rfl, fun _ _ => rfl⟩
  · refine ⟨rfl, fun k hk => ?_⟩
    rw [PerKind.get_set, if_neg (by rintro rfl; simp [h] at hk)]

theorem sameLink_alertsSettled (before s : State) : sameLink (alertsSettled before s) s := by
  have hleading (e : Bool) : sameLink (findLeading e before (weighAlerts before s)) s := by
    simp only [findLeading]
    repeat' split
    · exact sameLink_refl s
    · exact sameLink_refl s
    · exact sameLink_trans (sameLink_placeFrame _ rfl _) (sameLink_refl s)
  exact hleading _

theorem sameLink_reportChanges (entering : Bool) (before s : State) : sameLink (reportChanges entering before s) s := by
  unfold reportChanges
  split
  · exact sameLink_refl s
  · exact sameLink_trans (sameLink_placeFrame _ rfl _) (sameLink_refl s)

/-- An event that sets no quiet mark ends with the link controller as its own effect left it, but for the report unit's
mailboxes. -/
theorem settle_sameLink {before s : State} (h : marksQuiet before s = false) : sameLink (settle before s) s := by
  rw [settle_eq, h]
  exact sameLink_trans (sameLink_reportChanges _ _ _) (sameLink_alertsSettled _ _)

theorem endQuietPhase_link (s : State) :
    (endQuietPhase s).link =
      if quietPhaseOver s then { s.link with mailboxes := noMail, quiet := false, state := .listen } else s.link := by
  unfold endQuietPhase
  split <;> rfl

/-- An event that sets the quiet mark ends with the mark set, or with the quiet phase over. -/
theorem settle_link_of_marksQuiet {before s : State} (h : marksQuiet before s = true) :
    ∃ v, sameLink v s ∧ v.modes = s.modes ∧ v.records = s.records ∧ (settle before s).link =
      if quietPhaseOver v then { s.link with mailboxes := noMail, quiet := false, state := .listen } else v.link := by
  obtain ⟨hlink, hmail⟩ :=
    sameLink_trans (sameLink_reportChanges true before (alertsSettled before s)) (sameLink_alertsSettled before s)
  refine ⟨reportChanges true before (alertsSettled before s), ⟨hlink, hmail⟩, by simp, by simp, ?_⟩
  rw [settle_eq, h, if_pos rfl, endQuietPhase_link]
  split
  · rw [hlink]
  · rfl

@[simp] theorem settle_link_frame (before s : State) :
    (settle before s).link.bus = s.link.bus ∧ (settle before s).link.echoCount = s.link.echoCount ∧
    (settle before s).link.cleanRun = s.link.cleanRun ∧ (settle before s).link.transmitting = s.link.transmitting ∧
    (settle before s).link.conflicts = s.link.conflicts ∧ (settle before s).link.identity = s.link.identity := by
  cases h : marksQuiet before s
  · rw [(settle_sameLink h).1]
    simp
  · obtain ⟨v, hv, -, -, hlink⟩ := settle_link_of_marksQuiet h
    rw [hlink]
    split
    · simp
    · rw [hv.1]
      simp

end Sys2Proof.Machine

namespace Sys2Proof.Machine

/-! SUPPORT. What a command can do: its own effect is a chain of shared operations, each guarded by where it falls. An invariant
that every operation keeps is kept by every command's effect. -/

/-! ## The shared operations -/

/-- The eight counters' operations (R175). -/
def counterOps : List (State → State) :=
  [countDemandClamp, countOverflow, countBadCheck, countEchoFault, countSuperseded, countConflict, countMissedCapture,
   countRejected]

/-- A mode change that command `c` makes outside START: a row of the tables of chapter 8. SUPPLY HALTED is left for SAFE alone and
SUPPLY DOWN for SAFE or at the end of its ramp; the warm restart is apart. -/
structure Enters (c : Instr) (s : State) (new : Mode) (cause : SafeCause) : Prop where
  moves : commandMovesMode c s.modes.mode new = true
  notStart : s.modes.mode ≠ .start
  fromHalted : s.modes.mode = .supplyHalted → new = .safe
  fromSupplyDown : s.modes.mode = .supplyDown → new = .safe ∨ s.modes.restorePending = false ∧ s.engine.flight = none
  causeOfSafe : cause ≠ .none → new = .safe

/-- A row of the tables that starts in DOZING, DRIVING or FADING. -/
theorem Enters.plain {c : Instr} {s : State} {old new : Mode} (hmode : s.modes.mode = old)
    (hold : old = .dozing ∨ old = .driving ∨ old = .fading) (hmoves : commandMovesMode c old new = true) :
    Enters c s new .none := by
  subst hmode
  exact { moves := hmoves, notStart := fun h => by simp [h] at hold, fromHalted := fun h => by simp [h] at hold,
          fromSupplyDown := fun h => by simp [h] at hold, causeOfSafe := fun h => absurd rfl h }

/-- Where a warm restart falls: the end of the supply ramp and the restore event in SUPPLY HALTED (R141, R142). -/
def restartsAt (c : Instr) (s : State) : Prop :=
  (∃ t, c = .passEnd t) ∧ s.modes.mode = .supplyDown ∧ s.engine.flight = none ∨
    (∃ t, c = .restoreEvent t) ∧ s.modes.mode = .supplyHalted

/-- A used frame's record and cells, and its axle's supervisor: what its content writes before the change is handed on. -/
def writeContent (i : StreamId) (towBefore : Bool) (e : IntakeEntry) (s : State) : State :=
  match i with
  | .demand => { s with records.demand := demandContent s.par e.payload }
  | .frontStatus => superviseAxle .front (statusContent e.payload)
      { s with records.status := s.records.status.set .front (statusContent e.payload)
               table.inverter := s.table.inverter.set .front (some (inverterCell s.par .front (statusContent e.payload))) }
  | .rearStatus => superviseAxle .rear (statusContent e.payload)
      { s with records.status := s.records.status.set .rear (statusContent e.payload)
               table.inverter := s.table.inverter.set .rear (some (inverterCell s.par .rear (statusContent e.payload))) }
  | .power => { s with records.power := powerContent e.payload }
  | .reference => { s with records.reference := referenceContent e.payload }
  | .stability => setCaps e s
  | .tow => useTow towBefore e s

/-- The fallback of a stream that has entered LOST, with its cells and its axle, before the change is handed on (R36). -/
def writeFallback (i : StreamId) (towBefore : Bool) (s : State) : State :=
  match i with
  | .demand => { s with records.demand := .fallback }
  | .frontStatus => loseAxle .front
      { s with records.status := s.records.status.set .front .fallback
               table.inverter := s.table.inverter.set .front none }
  | .rearStatus => loseAxle .rear
      { s with records.status := s.records.status.set .rear .fallback
               table.inverter := s.table.inverter.set .rear none }
  | .power => { s with records.power := ⟨s.par.fallbackDischarge, s.par.fallbackCharge⟩ }
  | .reference => { s with records.reference := .fallback }
  | .stability => { s with table.stability := fallbackCaps s.par }
  | .tow => rewriteDriveline towBefore { s with records.towPresent := true }

/-- The commands within which a stream's window can expire (R38). -/
def closesWindows (c : Instr) : Prop := (∃ t, c = .decode t) ∨ ∃ t i, c = .windowExpiry t i

/-- One shared operation within command `c`. -/
inductive Act (c : Instr) : State → State → Prop
  -- the report unit
  | count (op : State → State) (s : State) (h : op ∈ counterOps) : Act c s (op s)
  | exception (e : ExceptionEvent) (s : State) : Act c s (takeException e s)
  | emptyException (s : State) : Act c s (releaseExceptionRecord s)
  | fill (s : State) : Act c s (fillRequest s)
  | trigger (src : TriggerSource) (s : State) : Act c s (setRequest src s)
  | release (i : SlotId) (s : State) : Act c s (releaseSlot i s)
  | note (n : Word16) (s : State) : Act c s (noteAlert n s)
  | refuse (s : State) : Act c s { s with report.query.refused := countUp s.report.query.refused }
  | reply (r : Reply) (s : State) : Act c s (sendReply r s)
  | statusTimer (s : State) (h : ∃ t, c = .statusTimerExpiry t) : Act c s (expireStatusTimer s)
  -- the link controller
  | splitReport (out : PassOut) (s : State) : Act c s (placeReport out s)
  | command (a : Axle) (tenths : Int) (code : StateCode) (bound enable : Bool) (s : State) (h : ∃ t, c = .passEnd t)
      (hruns : s.modes.mode.runsPasses = true) : Act c s (placeCommand a tenths code bound enable s)
  | watch (levels : List BusLevel) (s : State) : Act c s (watchBus levels s)
  | offer (hoffer : ∃ bus, c = .offer bus) (s : State) : Act c s (startLowest s)
  | endQuiet (s : State) : Act c s (endQuietPhase s)
  | gap (s : State) : Act c s (beginGap s)
  | lose (hlost : ∃ echo, c = .lostArbitration echo) (f : OutFrame) (s : State) (h : s.link.transmitting = some f) :
      Act c s (returnFrame f { s with link.transmitting := none })
  | abort (haborts : ∃ echo, c = .echoMismatch echo) (f : OutFrame) (s : State) (h : s.link.transmitting = some f) :
      Act c s (abortFrame f s)
  | complete (s : State) : Act c s
      { s with link.transmitting := none, link.bus := .gap 0, link.echoCount := s.link.echoCount - 1 }
  | commandSent (a : Axle) (e : DelayEntry) (s : State) : Act c s (commandDelivered a e s)
  | statusSent (q : BitVec 32) (s : State) : Act c s (statusDelivered q s)
  | mute (s : State) : Act c s (enterMuted s)
  | cleanRun (f : WireFrame) (s : State) : Act c s (moveCleanRun f s)
  | invalid (s : State) : Act c s (discardInvalid s)
  | conflict (s : State) : Act c s { s with link.conflicts := (s.now :: s.link.conflicts).take 3 }
  | queue (f : WireFrame) (s : State) : Act c s (admitFrame f s)
  -- the inputs
  | line (l : LineId) (level : Level) (s : State) : Act c s (changeLine l level s)
  | accept (l : LineId) (level : Level) (s : State) : Act c s (acceptLevel l level s)
  | sense (level : SupplyLevel) (s : State) : Act c s (senseSupply level s)
  | judgeLow (s : State) : Act c s (judgeLow s)
  | judgeOk (s : State) : Act c s (judgeRestored s)
  | keepRestore (b : Bool) (s : State) (h : s.modes.mode = .supplyDown) : Act c s { s with modes.restorePending := b }
  -- the split engine and the mode controller
  | request (s : State) : Act c s (requestPass s)
  | stopTimer (s : State) : Act c s (stopPassTimer s)
  | reset (s : State) : Act c s (resetOrDefer driveResets s)
  | unmark (s : State) : Act c s { s with issuer.inService := ⟨false, false⟩ }
  | enter (new : Mode) (cause : SafeCause) (s : State) (h : Enters c s new cause) : Act c s (enterMode new cause s)
  | restart (s : State) (h : restartsAt c s) : Act c s (restartReport (restartLink (restartBlocks s)))
  -- the pass end
  | store (sn : Snapshot) (s : State) (h : ∃ t, c = .passEnd t) (hflight : s.engine.flight = some sn) :
      Act c s (storeResults sn (passOutcome sn s) s)
  | countPass (sn : Snapshot) (out : PassOut) (s : State) (h : ∃ t, c = .passEnd t) : Act c s (countPass sn out s)
  | activate (a : Axle) (s : State) (h : ∃ t, c = .passEnd t) : Act c s (activateAxle a s)
  | applyDeferred (s : State) (h : ∃ t, c = .passEnd t) : Act c s (applyDeferred s)
  | land (s : State) (h : ∃ t, c = .passEnd t) (hdeferred : s.engine.deferred = [])
      (hsupply : s.modes.mode = .supplyDown → ∀ a, s.table.supply.get a ≠ none) : Act c s { s with engine.flight := none }
  | pending (s : State) (h : ∃ t, c = .passEnd t)
      (hsupply : s.modes.mode = .supplyDown → ∀ a, s.table.supply.get a ≠ none) : Act c s (startPending s)
  -- the streams
  | pop (e : IntakeEntry) (rest : List IntakeEntry) (s : State) (h : ∃ t, c = .decode t) (hhead : s.intake = e :: rest) :
      Act c s { s with intake := rest }
  | malformed (r : Role) (s : State) (h : ∃ t, c = .decode t) : Act c s (countMalformed r s)
  | unused (i : StreamId) (e : IntakeEntry) (s : State) (h : ∃ t, c = .decode t)
      (hj : judgeFrame (s.streams.get i) e ≠ .used) :
      Act c s (setStream i ((s.streams.get i).afterFrame e (judgeFrame (s.streams.get i) e)) s)
  | used (i : StreamId) (e : IntakeEntry) (s : State) (h : ∃ t, c = .decode t) (hpass : failingField (.stream i) e.payload = none)
      (hj : judgeFrame (s.streams.get i) e = .used) :
      Act c s (writeContent i (currentTow s) e (setStream i ((s.streams.get i).afterUse e) s))
  | expire (hcloses : closesWindows c) (i : StreamId) (d : Time) (s : State) (hd : (s.streams.get i).deadline = some d)
      (h : (s.streams.get i).state ≠ .late) : Act c s (setStream i ((s.streams.get i).expired d) s)
  | lose_stream (hcloses : closesWindows c) (i : StreamId) (d : Time) (s : State) (hd : (s.streams.get i).deadline = some d)
      (h : (s.streams.get i).state = .late) :
      Act c s (writeFallback i (currentTow s) (setStream i ((s.streams.get i).expired d) s))
  | holds (due : Time → Bool) (s : State) :
      Act c s { s with table.stability := s.table.stability.map (expireCell due) }
  -- START
  | reread (s : State) (h : ∃ t bytes, c = .readAttemptEnd t bytes) (hreading : s.port.reading = true)
      (hfew : s.port.attempts < Config.maxAttempts) : Act c s { s with port := s.port.endAttempt.beginAttempt }
  | acceptBlock (words : List Word16) (s : State) (h : ∃ t bytes, c = .readAttemptEnd t bytes)
      (hreading : s.port.reading = true) (hwords : blockAccepted words = true) :
      Act c s (acceptBlock (blockParams words) s)
  | failStart (s : State) (h : ∃ t bytes, c = .readAttemptEnd t bytes) (hreading : s.port.reading = true) :
      Act c s (failStart s)

/-- A chain of shared operations within command `c`. -/
def Acts (c : Instr) : State → State → Prop := Relation.ReflTransGen (Act c)

theorem Acts.refl (c : Instr) (s : State) : Acts c s s := Relation.ReflTransGen.refl

theorem Act.acts {c : Instr} {s u : State} (h : Act c s u) : Acts c s u := Relation.ReflTransGen.single h

theorem Acts.trans {c : Instr} {s v u : State} (h₁ : Acts c s v) (h₂ : Acts c v u) : Acts c s u :=
  Relation.ReflTransGen.trans h₁ h₂

theorem Acts.tail {c : Instr} {s v u : State} (h₁ : Acts c s v) (h₂ : Act c v u) : Acts c s u :=
  Relation.ReflTransGen.tail h₁ h₂

/-- What every operation of a command keeps, its whole effect keeps. -/
theorem Acts.keeps {c : Instr} {P : State → Prop} (hact : ∀ v w, Act c v w → P v → P w) {s u : State} (h : Acts c s u)
    (hs : P s) : P u := by
  induction h with
  | refl => exact hs
  | tail _ hlast ih => exact hact _ _ hlast ih

/-! ## What the operations leave -/

/-- A counter's operation writes the counters alone. -/
theorem counterOps_eq {op : State → State} (h : op ∈ counterOps) (s : State) :
    ∃ counters, op s = { s with report.counters := counters } := by
  simp only [counterOps, List.mem_cons, List.not_mem_nil, or_false] at h
  rcases h with rfl | rfl | rfl | rfl | rfl | rfl | rfl | rfl <;> exact ⟨_, rfl⟩

@[simp] theorem placeReport_frame (out : PassOut) (s : State) :
    (placeReport out s).pending = s.pending ∧ (placeReport out s).now = s.now ∧ (placeReport out s).draws = s.draws ∧
    (placeReport out s).params = s.params ∧ (placeReport out s).port = s.port ∧
    (placeReport out s).recognition = s.recognition ∧ (placeReport out s).intake = s.intake ∧
    (placeReport out s).streams = s.streams ∧ (placeReport out s).records = s.records ∧
    (placeReport out s).table = s.table ∧ (placeReport out s).engine = s.engine ∧ (placeReport out s).grip = s.grip ∧
    (placeReport out s).axles = s.axles ∧ (placeReport out s).modes = s.modes ∧
    (placeReport out s).filters = s.filters ∧ (placeReport out s).supply = s.supply ∧
    (placeReport out s).exception = s.exception := by
  simp [placeReport]

@[simp] theorem writeContent_frame (i : StreamId) (tow : Bool) (e : IntakeEntry) (s : State) :
    (writeContent i tow e s).pending = s.pending ∧ (writeContent i tow e s).now = s.now ∧
    (writeContent i tow e s).draws = s.draws ∧ (writeContent i tow e s).params = s.params ∧
    (writeContent i tow e s).port = s.port ∧ (writeContent i tow e s).link = s.link ∧
    (writeContent i tow e s).recognition = s.recognition ∧ (writeContent i tow e s).intake = s.intake ∧
    (writeContent i tow e s).streams = s.streams ∧ (writeContent i tow e s).issuer = s.issuer ∧
    (writeContent i tow e s).modes = s.modes ∧ (writeContent i tow e s).filters = s.filters ∧
    (writeContent i tow e s).supply = s.supply ∧ (writeContent i tow e s).exception = s.exception := by
  cases i <;> simp [writeContent, setCaps]

@[simp] theorem writeFallback_frame (i : StreamId) (tow : Bool) (s : State) :
    (writeFallback i tow s).pending = s.pending ∧ (writeFallback i tow s).now = s.now ∧
    (writeFallback i tow s).draws = s.draws ∧ (writeFallback i tow s).params = s.params ∧
    (writeFallback i tow s).port = s.port ∧ (writeFallback i tow s).link = s.link ∧
    (writeFallback i tow s).recognition = s.recognition ∧ (writeFallback i tow s).intake = s.intake ∧
    (writeFallback i tow s).streams = s.streams ∧ (writeFallback i tow s).issuer = s.issuer ∧
    (writeFallback i tow s).modes = s.modes ∧ (writeFallback i tow s).filters = s.filters ∧
    (writeFallback i tow s).supply = s.supply ∧ (writeFallback i tow s).exception = s.exception := by
  cases i <;> simp [writeFallback]

/-! ## Requests, triggers and mode changes -/

section Chains

variable {c : Instr}

theorem acts_requestPassIf (b : Bool) (s : State) : Acts c s (requestPassIf b s) := by
  unfold requestPassIf
  split
  · exact (Act.request s).acts
  · exact .refl c s

theorem acts_takeTrigger (src : TriggerSource) (s : State) : Acts c s (takeTrigger src s) := by
  unfold takeTrigger fillIfStill
  split
  · split
    · exact (Act.trigger src s).acts.tail (.fill _)
    · exact (Act.trigger src s).acts
  · exact .refl c s

/-- Command `c` has a row that fades a driving part (R134). -/
def fades (c : Instr) : Prop := commandMovesMode c .driving .fading = true

theorem acts_fadeCause (h : fades c) (s : State) : Acts c s (fadeCause s) := by
  unfold fadeCause
  split
  next hmode =>
    exact (Act.enter .fading .none s (.plain hmode (.inr (.inl rfl)) h)).acts
  next => exact .refl c s

theorem acts_handAxleChange (h : fades c) (a : Axle) (old : AxleState) (s : State) :
    Acts c s (handAxleChange a old s) := by
  have htell : Acts c s (tellAxleChange s) := by
    unfold tellAxleChange
    split
    · exact acts_fadeCause h s
    · exact .refl c s
  simp only [handAxleChange]
  split
  · exact .refl c s
  · refine Acts.tail ?_ (.request _)
    split
    · exact htell.trans (acts_takeTrigger _ _)
    · exact htell

theorem acts_tellDemand (h : ∃ t, c = .decode t) (s : State) : Acts c s (tellDemand s) := by
  obtain ⟨t, rfl⟩ := h
  unfold tellDemand
  split
  · split
    next hwake =>
      have hmode : s.modes.mode = .dozing ∨ s.modes.mode = .fading := by
        simp only [mayWake, Bool.and_eq_true, Bool.or_eq_true, beq_iff_eq] at hwake
        exact hwake.1.1.1
      rcases hmode with hmode | hmode
      · exact (Act.enter .driving .none s (.plain hmode (.inl rfl) rfl)).acts
      · exact (Act.enter .driving .none s (.plain hmode (.inr (.inr rfl)) rfl)).acts
    next => exact .refl _ s
  · exact acts_fadeCause (c := .decode t) rfl s

/-! ## Queries and alerts -/

theorem acts_serveQuery (answer : Reply) {effected s : State} (h : Acts c s effected) :
    Acts c s (serveQuery answer effected s) := by
  unfold serveQuery
  split
  · exact .refl c s
  · split
    · exact (Act.refuse s).acts
    · exact h.tail (.reply answer effected)

theorem acts_queryReadCapture (v : Word16) (s : State) : Acts c s (queryReadCapture v s) := by
  unfold queryReadCapture
  repeat' split
  all_goals exact acts_serveQuery _ (.refl c s)

theorem acts_queryReleaseCapture (v : Word16) (s : State) : Acts c s (queryReleaseCapture v s) := by
  unfold queryReleaseCapture
  split
  · exact acts_serveQuery _ (.refl c s)
  · exact acts_serveQuery _ (Act.release _ s).acts

theorem acts_queryReadException (s : State) : Acts c s (queryReadException s) := by
  unfold queryReadException
  split
  all_goals exact acts_serveQuery _ (.refl c s)

theorem acts_queryReleaseException (s : State) : Acts c s (queryReleaseException s) :=
  acts_serveQuery _ (Act.emptyException s).acts

theorem acts_queryReadCounters (s : State) : Acts c s (queryReadCounters s) := acts_serveQuery _ (.refl c s)

theorem acts_queryReadStreamCounts (v : Word16) (s : State) : Acts c s (queryReadStreamCounts v s) := by
  unfold queryReadStreamCounts
  split
  all_goals exact acts_serveQuery _ (.refl c s)

theorem acts_handQuery (kind argument : Word16) (s : State) : Acts c s (handQuery kind argument s) := by
  unfold handQuery
  split
  · exact acts_queryReadCapture argument s
  · exact acts_queryReleaseCapture argument s
  · exact acts_queryReadException s
  · exact acts_queryReleaseException s
  · exact acts_queryReadCounters s
  · exact acts_queryReadStreamCounts argument s
  · exact acts_serveQuery _ (.refl c s)

/-! ## The streams -/

theorem acts_useContent (h : ∃ t, c = .decode t) (i : StreamId) (e : IntakeEntry) (s : State)
    (hpass : failingField (.stream i) e.payload = none) (hj : judgeFrame (s.streams.get i) e = .used) :
    Acts c s (useContent i (currentTow s) e (setStream i ((s.streams.get i).afterUse e) s)) := by
  have hwrite := (Act.used i e s h hpass hj).acts
  have hfades : fades c := by
    obtain ⟨t, rfl⟩ := h
    rfl
  cases i with
  | demand => exact (hwrite.trans (acts_tellDemand h _)).tail (.request _)
  | frontStatus => exact hwrite.trans (acts_handAxleChange hfades .front (s.axles.get .front).state _)
  | rearStatus => exact hwrite.trans (acts_handAxleChange hfades .rear (s.axles.get .rear).state _)
  | power => exact hwrite
  | reference => exact hwrite
  | stability => exact hwrite.trans (acts_requestPassIf _ _)
  | tow => exact hwrite

theorem acts_takeSupervised (h : ∃ t, c = .decode t) (i : StreamId) (e : IntakeEntry) (s : State)
    (hpass : failingField (.stream i) e.payload = none) : Acts c s (takeSupervised i e s) := by
  simp only [takeSupervised]
  split
  next hj =>
    simp only [hj]
    exact acts_useContent h i e s hpass hj
  next hj => exact (Act.unused i e s h hj).acts

theorem acts_rejectFrame (e : IntakeEntry) (index : Nat) (raw : Word16) (s : State) :
    Acts c s (rejectFrame e index raw s) :=
  (Act.count countRejected s (by simp [counterOps])).acts.tail (.exception _ _)

theorem acts_countClamp (e : IntakeEntry) (s : State) : Acts c s (countClamp e s) := by
  unfold countClamp
  split
  · exact (Act.count countDemandClamp s (by simp [counterOps])).acts
  · exact .refl c s

theorem acts_treatEntry (h : ∃ t, c = .decode t) (e : IntakeEntry) (s : State) : Acts c s (treatEntry e s) := by
  unfold treatEntry
  split
  · exact (Act.malformed e.role s h).acts.trans (acts_rejectFrame _ _ _ _)
  · split
    · exact acts_rejectFrame _ _ _ _
    next hpass =>
      refine (acts_countClamp e s).trans ?_
      unfold handEntry
      cases hrole : e.role with
      | stream i => exact acts_takeSupervised h i e _ (hrole ▸ hpass)
      | query => exact acts_handQuery _ _ _
      | alertSeen => exact (Act.note _ _).acts

theorem acts_enterLost (hcloses : closesWindows c) (i : StreamId) (hfades : canFadeThePart i = true → fades c) (d : Time) (s : State)
    (hd : (s.streams.get i).deadline = some d) (hlate : (s.streams.get i).state = .late) :
    Acts c s (enterLost i (currentTow s) (setStream i ((s.streams.get i).expired d) s)) := by
  have hwrite := (Act.lose_stream hcloses i d s hd hlate).acts
  cases i with
  | demand => exact (hwrite.trans (acts_fadeCause (hfades rfl) _)).trans (acts_takeTrigger _ _)
  | frontStatus => exact hwrite.trans (acts_handAxleChange (hfades rfl) .front (s.axles.get .front).state _)
  | rearStatus => exact hwrite.trans (acts_handAxleChange (hfades rfl) .rear (s.axles.get .rear).state _)
  | power => exact hwrite
  | reference => exact hwrite
  | stability => exact hwrite.trans (acts_requestPassIf _ _)
  | tow => exact hwrite

theorem acts_expireWindow (hcloses : closesWindows c) (i : StreamId) (hfades : canFadeThePart i = true → fades c) (d : Time) (s : State)
    (hd : (s.streams.get i).deadline = some d) : Acts c s (expireWindow i d s) := by
  simp only [expireWindow]
  split
  next hlate => exact acts_enterLost hcloses i hfades d s hd hlate
  next hlate => exact (Act.expire hcloses i d s hd hlate).acts

theorem acts_expireHolds (due : Time → Bool) (s : State) : Acts c s (expireHolds due s) :=
  (Act.holds due s).acts.trans (acts_requestPassIf _ _)

theorem acts_closeWindow (h : ∃ t, c = .decode t) (e : IntakeEntry) (before s : State) :
    Acts c s (closeWindow e before s) := by
  have hfades : fades c := by
    obtain ⟨t, rfl⟩ := h
    rfl
  unfold closeWindow
  split
  · split
    · exact .refl c s
    next hdue =>
      split
      · exact acts_expireWindow (.inl h) _ (fun _ => hfades) _ _ (windowDue_eq_some_iff.1 hdue).1
      · exact .refl c s
  · exact .refl c s
  · exact .refl c s

theorem acts_decodeHead (h : ∃ t, c = .decode t) (s : State) : Acts c s (decodeHead s) := by
  unfold decodeHead
  split
  · exact .refl c s
  next e rest hhead =>
    refine (((Act.pop e rest s h hhead).acts.trans (acts_treatEntry h e _)).trans ?_).trans (acts_closeWindow h e s _)
    unfold closeHolds
    split
    · exact acts_expireHolds _ _
    · exact .refl c _

/-! ## The drive link -/

theorem acts_dropInvalid (s : State) : Acts c s (dropInvalid s) := by
  unfold dropInvalid
  split
  · exact .refl c s
  · exact (Act.invalid s).acts

theorem heedsConflicts_moves {m : Mode} {t : Time} {levels : List BusLevel} (h : m.heedsConflicts = true) :
    commandMovesMode (.frameReception t levels) m .safe = true := by
  cases m with
  | start | safe => cases h
  | dozing | driving | fading | supplyDown | supplyHalted => rfl

theorem acts_tellConflict (h : ∃ t levels, c = .frameReception t levels) (s : State) : Acts c s (tellConflict s) := by
  obtain ⟨t, levels, rfl⟩ := h
  unfold tellConflict
  split
  next hcrowd =>
    obtain ⟨hheeds, -⟩ := Bool.and_eq_true_iff.1 hcrowd
    have hstart : s.modes.mode ≠ .start := fun hmode => by simp [hmode, Mode.heedsConflicts] at hheeds
    exact (Act.enter .safe .stationConflict s
      { moves := heedsConflicts_moves hheeds, notStart := hstart, fromHalted := fun _ => rfl,
        fromSupplyDown := fun _ => .inl rfl, causeOfSafe := fun _ => rfl }).acts
  next => exact .refl _ _

theorem acts_takeConflict (h : ∃ t levels, c = .frameReception t levels) (s : State) : Acts c s (takeConflict s) :=
  ((Act.count countConflict s (by simp [counterOps])).acts.tail (.conflict _)).trans (acts_tellConflict h _)

theorem acts_takeValid (h : ∃ t levels, c = .frameReception t levels) (f : WireFrame) (s : State) :
    Acts c s (takeValid f s) := by
  simp only [takeValid]
  refine Acts.tail ?_ (.queue f _)
  split
  · exact (Act.cleanRun f s).acts.trans (acts_takeConflict h _)
  · exact (Act.cleanRun f s).acts

theorem acts_receiveFrame (h : ∃ t levels, c = .frameReception t levels) (levels : List BusLevel) (s : State) :
    Acts c s (receiveFrame levels s) := by
  unfold receiveFrame
  split
  · exact .refl c s
  · refine Acts.tail ?_ (.gap _)
    unfold readBus
    split
    · exact acts_dropInvalid s
    · split
      · exact acts_takeValid h _ s
      · exact acts_dropInvalid s

theorem acts_makeOffer (h : ∃ bus, c = .offer bus) (levels : List BusLevel) (s : State) : Acts c s (makeOffer levels s) := by
  refine (Act.watch levels s).acts.trans ?_
  unfold makeOffer offerNow
  split
  · exact (Act.offer h _).acts.tail (.endQuiet _)
  · exact .refl c _

theorem acts_reportCompletion (f : OutFrame) (s : State) : Acts c s (reportCompletion f s) := by
  unfold reportCompletion
  split
  · exact (Act.commandSent _ _ s).acts
  · exact (Act.commandSent _ _ s).acts
  · exact (Act.statusSent _ s).acts
  · unfold replyDelivered
    split
    · exact .refl c s
    · exact (Act.reply _ s).acts
  · exact .refl c s

/-- The outcome of a transmission falls for the frame in transmission. -/
theorem acts_whenEchoed {result : EchoResult} {echo : List BusLevel} {outcome : OutFrame → State → State} {s : State}
    (h : ∀ f, s.link.transmitting = some f → Acts c s (outcome f s)) : Acts c s (whenEchoed result echo outcome s) := by
  rcases whenEchoed_cases result echo outcome s with ⟨f, hf, -, heq⟩ | ⟨-, heq⟩
  · rw [heq]
    exact h f hf
  · rw [heq]
    exact .refl c s

theorem acts_completeTransmission (echo : List BusLevel) (s : State) : Acts c s (completeTransmission echo s) :=
  acts_whenEchoed fun f _ => ((Act.complete s).acts.trans (acts_reportCompletion f _)).tail (.endQuiet _)

theorem acts_loseArbitration (h : ∃ echo, c = .lostArbitration echo) (echo : List BusLevel) (s : State) : Acts c s (loseArbitration echo s) :=
  acts_whenEchoed fun f hf => (Act.lose h f s hf).acts.tail (.endQuiet _)

theorem acts_takeLinkLoss (h : ∃ echo, c = .echoMismatch echo) (s : State)
    (hmode : s.modes.mode = .driving ∨ s.modes.mode = .fading) : Acts c s (takeLinkLoss s) := by
  obtain ⟨echo, rfl⟩ := h
  refine ((Act.reset s).acts.tail (.unmark _)).tail (.enter .dozing .none _ ?_)
  rcases hmode with hmode | hmode
  · exact .plain (by simpa using hmode) (.inr (.inl rfl)) rfl
  · exact .plain (by simpa using hmode) (.inr (.inr rfl)) rfl

theorem acts_linkLoss (h : ∃ echo, c = .echoMismatch echo) (s : State) : Acts c s (linkLoss s) := by
  unfold linkLoss
  split
  next hmode => exact acts_takeLinkLoss h s (.inl hmode)
  next hmode => exact acts_takeLinkLoss h s (.inr hmode)
  all_goals exact .refl c s

theorem acts_mismatchEcho (h : ∃ echo, c = .echoMismatch echo) (echo : List BusLevel) (s : State) :
    Acts c s (mismatchEcho echo s) := by
  refine acts_whenEchoed fun f hf => ?_
  simp only [mismatchFrame]
  refine Acts.tail ?_ (.endQuiet _)
  split
  · exact ((Act.abort h f s hf).acts.tail (.mute _)).trans (acts_linkLoss h _)
  · exact (Act.abort h f s hf).acts

/-! ## The inputs and the supply -/

theorem acts_expireFilter {t : Time} (l : LineId) (h : c = .filterTimerExpiry t l) (s : State) :
    Acts c s (expireFilter l s) := by
  unfold expireFilter
  split
  · split
    · exact .refl c s
    next level _ =>
      refine (Act.accept l level s).acts.trans ?_
      unfold handAccepted
      split
      · exact acts_fadeCause (by rw [h]; rfl) _
      · exact .refl c _
      · exact acts_takeTrigger _ _
      · exact .refl c _
  · exact .refl c s

theorem acts_takeLowEvent (h : ∃ t, c = .lowEvent t) (s : State) : Acts c s (takeLowEvent s) := by
  obtain ⟨t, rfl⟩ := h
  unfold takeLowEvent
  split
  · refine (Act.judgeLow s).acts.trans ?_
    unfold tellLow
    split
    next hmode => exact (Act.enter .supplyHalted .none _ (.plain hmode (.inl rfl) rfl)).acts
    next hmode => exact (Act.enter .supplyDown .none _ (.plain hmode (.inr (.inl rfl)) rfl)).acts
    next hmode => exact (Act.enter .supplyDown .none _ (.plain hmode (.inr (.inr rfl)) rfl)).acts
    next hmode => exact (Act.keepRestore false _ hmode).acts
    all_goals exact .refl _ _
  · exact .refl _ s

theorem acts_warmRestart (s : State) (h : restartsAt c s) : Acts c s (warmRestart s) := by
  refine (Act.fill s).acts.tail (.restart _ ?_)
  simpa [restartsAt] using h

theorem acts_takeRestoreEvent (h : ∃ t, c = .restoreEvent t) (s : State) : Acts c s (takeRestoreEvent s) := by
  unfold takeRestoreEvent
  split
  · refine (Act.judgeOk s).acts.trans ?_
    unfold tellRestored
    split
    next hmode => exact (Act.keepRestore true _ hmode).acts
    next hmode => exact acts_warmRestart _ (.inr ⟨h, hmode⟩)
    all_goals exact .refl c _
  · exact .refl c s

/-! ## Passes -/

theorem acts_expirePassTimer (s : State) : Acts c s (expirePassTimer s) := by
  unfold expirePassTimer
  split
  · exact (Act.stopTimer s).acts.tail (.request _)
  · exact .refl c s

theorem acts_issueAxle (h : ∃ t, c = .passEnd t) (sn : Snapshot) (out : PassOut) (closing : Bool) (a : Axle) (s : State)
    (hruns : s.modes.mode.runsPasses = true) : Acts c s (issueAxle sn out closing a s) := by
  have hcommand (tenths : Int) (code : StateCode) (bound enable : Bool) : Acts c s (placeCommand a tenths code bound enable s) :=
    (Act.command a _ _ _ _ s h hruns).acts
  simp only [issueAxle]
  split
  · split
    · exact hcommand _ _ _ _
    · exact .refl c s
  · split
    · exact hcommand _ _ _ _
    · split
      · exact hcommand _ _ _ _
      · exact .refl c s

theorem acts_issueFrames (h : ∃ t, c = .passEnd t) (sn : Snapshot) (out : PassOut) (s : State) :
    Acts c s (issueFrames sn out s) := by
  simp only [issueFrames]
  refine Acts.tail ?_ (.splitReport out _)
  split
  next hruns =>
    exact (acts_issueAxle h sn out _ .front s hruns).trans (acts_issueAxle h sn out _ .rear _ (by simpa using hruns))
  next => exact .refl c s

theorem acts_reportCuts (sn : Snapshot) (out : PassOut) (s : State) : Acts c s (reportCuts sn out s) := by
  refine Acts.tail ?_ (.fill _)
  generalize out.cuts = cuts
  induction cuts generalizing s with
  | nil => exact .refl c s
  | cons cut cuts ih =>
    refine Acts.trans ?_ (ih _)
    unfold reportCut
    split
    · exact (Act.exception _ s).acts.trans (acts_takeTrigger _ _)
    · exact .refl c s

theorem acts_passEndResults (h : ∃ t, c = .passEnd t) (sn : Snapshot) (s : State) (hflight : s.engine.flight = some sn) :
    Acts c s (passEndResults sn (passOutcome sn s) s) :=
  ((((((Act.store sn s h hflight).acts.trans (acts_issueFrames h sn _ _)).tail (.countPass sn _ _ h)).trans
    (acts_reportCuts sn _ _)).tail (.activate .front _ h)).tail (.activate .rear _ h))

/-! ### The SUPPLY cells at the end of a pass -/

theorem storeResults_supply (sn : Snapshot) (out : PassOut) (s : State) (hmode : s.modes.mode = .supplyDown) (a : Axle) :
    (storeResults sn out s).table.supply.get a ≠ none := by
  unfold storeResults storeSupply
  split
  · simp
  · simp [setSupplyCeilings]

theorem applyReset_supply (r : DeferredReset) (s : State) : (applyReset s r).table.supply = s.table.supply := by
  cases r with
  | previousCommands => rfl
  | regulator a =>
    simp only [applyReset, resetRegulator]
    split <;> rfl

theorem foldl_applyReset_supply (rs : List DeferredReset) (s : State) :
    (rs.foldl applyReset s).table.supply = s.table.supply := by
  induction rs generalizing s with
  | nil => rfl
  | cons r rs ih => rw [List.foldl_cons, ih, applyReset_supply]

theorem resetOrDefer_supply (rs : List DeferredReset) (s : State) :
    (resetOrDefer rs s).table.supply = s.table.supply := by
  unfold resetOrDefer
  split
  · exact foldl_applyReset_supply rs s
  · rfl

theorem changeAxle_supply (a : Axle) (v : Supervisor) (s : State) : (changeAxle a v s).table.supply = s.table.supply := by
  simp only [changeAxle]
  split
  · exact resetOrDefer_supply _ _
  · rfl

theorem activateAxle_supply (a : Axle) (s : State) : (activateAxle a s).table.supply = s.table.supply := by
  unfold activateAxle
  split
  · exact changeAxle_supply _ _ _
  · rfl

theorem passEndResults_supply (sn : Snapshot) (out : PassOut) (s : State) :
    (passEndResults sn out s).table.supply = (storeResults sn out s).table.supply := by
  simp [passEndResults, activateAxles, activateAxle_supply]

theorem acts_finishFlight (h : ∃ t, c = .passEnd t) (sn : Snapshot) (out : PassOut) (s : State)
    (hdeferred : s.engine.deferred = []) (hsupply : s.modes.mode = .supplyDown → ∀ a, s.table.supply.get a ≠ none) :
    Acts c s (finishFlight sn out s) := by
  refine (Act.land s h hdeferred hsupply).acts.trans ?_
  simp only [finishFlight]
  split
  · split
    · unfold fadeComplete
      split
      next hmode =>
        obtain ⟨t, rfl⟩ := h
        exact (Act.enter .dozing .none _ (.plain hmode (.inr (.inr rfl)) rfl)).acts
      next => exact .refl c _
    · split
      · unfold rampComplete
        split
        next hmode =>
          split
          · exact acts_warmRestart _ (.inl ⟨h, hmode, rfl⟩)
          next hpending =>
            obtain ⟨t, rfl⟩ := h
            exact (Act.enter .supplyHalted .none _
              { moves := by rw [hmode]; rfl, notStart := fun h => (by cases hmode.symm.trans h),
                fromHalted := fun h => (by cases hmode.symm.trans h),
                fromSupplyDown := fun _ => .inr ⟨Bool.eq_false_iff.2 hpending, rfl⟩,
                causeOfSafe := fun h => absurd rfl h }).acts
        next => exact .refl c _
      · exact .refl c _
  · exact .refl c _

/-- A part that is still in SUPPLY DOWN has not ended its ramp. -/
theorem finishFlight_of_supplyDown {sn : Snapshot} {out : PassOut} {s : State}
    (h : (finishFlight sn out s).modes.mode = .supplyDown) :
    finishFlight sn out s = { s with engine.flight := none } := by
  have hentered (new : Mode) (cause : SafeCause) (v : State) : (enterMode new cause v).modes.mode = new := by
    simp [enterMode, writeMode]
  simp only [finishFlight] at h ⊢
  split at h
  next hzero =>
    rw [if_pos hzero]
    split at h
    next hfading =>
      rw [if_pos hfading]
      unfold fadeComplete at h ⊢
      split at h
      · rw [hentered] at h
        cases h
      next hmode => rw [if_neg hmode]
    next hfading =>
      rw [if_neg hfading]
      split at h
      next hdown =>
        rw [if_pos hdown]
        unfold rampComplete at h ⊢
        split at h
        · split at h
          · simp [warmRestart, restartBlocks] at h
          · rw [hentered] at h
            cases h
        next hmode => rw [if_neg hmode]
      next hdown => rw [if_neg hdown]
  next hzero => rw [if_neg hzero]

theorem acts_endPass (h : ∃ t, c = .passEnd t) (s : State) : Acts c s (endPass s) := by
  unfold endPass
  split
  · exact .refl c s
  next sn hflight =>
    refine Acts.trans (Acts.trans ?_ (acts_requestPassIf _ _)) (acts_requestPassIf _ _)
    have hkept : (applyDeferred (passEndResults sn (passOutcome sn s) s)).table.supply =
        (storeResults sn (passOutcome sn s) s).table.supply :=
      (foldl_applyReset_supply _ _).trans (passEndResults_supply _ _ _)
    have hsupply (hmode : s.modes.mode = .supplyDown) (a : Axle) :
        (applyDeferred (passEndResults sn (passOutcome sn s) s)).table.supply.get a ≠ none := by
      rw [hkept]
      exact storeResults_supply sn _ s hmode a
    have hfinished : Acts c s (finishFlight sn (passOutcome sn s) (applyDeferred (passEndResults sn (passOutcome sn s) s))) :=
      ((acts_passEndResults h sn s hflight).tail (.applyDeferred _ h)).trans
        (acts_finishFlight h sn _ _ rfl fun hmode => hsupply (by simpa using hmode))
    refine hfinished.tail (.pending _ h fun hmode a => ?_)
    have hstill := finishFlight_of_supplyDown hmode
    rw [hstill] at hmode ⊢
    exact hsupply (by simpa using hmode) a

/-! ## Every command -/

theorem acts_endAttempt (h : ∃ t bytes, c = .readAttemptEnd t bytes) (bytes : List (BitVec 8)) (s : State) :
    Acts c s (endAttempt bytes s) := by
  unfold endAttempt
  split
  next hreading =>
    unfold judgeBlock
    split
    next hwords => exact (Act.acceptBlock _ s h hreading hwords).acts
    next =>
      split
      next hfew => exact (Act.reread s h hreading hfew).acts
      next => exact (Act.failStart s h hreading).acts
  next => exact .refl c s

end Chains

/-- What a command can do: its effect, from the moment at which it is taken, is a chain of the operations above. -/
theorem acts_afterEffect {c : Instr} (h : c ≠ .powerOnReset) (s : State) :
    Acts c { s with now := commandTime c } (afterEffect c s) := by
  unfold afterEffect
  cases c with
  | powerOnReset => exact absurd rfl h
  | readAttemptEnd t bytes => exact acts_endAttempt ⟨t, bytes, rfl⟩ bytes _
  | frameReception t levels => exact acts_receiveFrame ⟨t, levels, rfl⟩ levels _
  | decode t => exact acts_decodeHead ⟨t, rfl⟩ _
  | alertSeen t number => exact (Act.note number _).acts
  | readCapture t argument => exact acts_queryReadCapture argument _
  | releaseCapture t argument => exact acts_queryReleaseCapture argument _
  | readException t => exact acts_queryReadException _
  | releaseException t => exact acts_queryReleaseException _
  | readCounters t => exact acts_queryReadCounters _
  | readStreamCounts t argument => exact acts_queryReadStreamCounts argument _
  | windowExpiry t i =>
    simp only [commandEffect, expireIfDue]
    split
    · exact .refl _ _
    next hdue => exact acts_expireWindow (.inr ⟨t, i, rfl⟩) i id _ _ (windowDue_eq_some_iff.1 hdue).1
  | holdExpiry t => exact acts_expireHolds _ _
  | passTimerExpiry t => exact acts_expirePassTimer _
  | passEnd t => exact acts_endPass ⟨t, rfl⟩ _
  | lineChange t l level => exact (Act.line l level _).acts
  | filterTimerExpiry t l => exact acts_expireFilter l rfl _
  | supplySenseChange t level => exact (Act.sense level _).acts
  | lowEvent t => exact acts_takeLowEvent ⟨t, rfl⟩ _
  | restoreEvent t => exact acts_takeRestoreEvent ⟨t, rfl⟩ _
  | statusTimerExpiry t => exact (Act.statusTimer _ ⟨t, rfl⟩).acts
  | offer bus => exact acts_makeOffer ⟨bus, rfl⟩ bus.levels _
  | cleanTransmission echo => exact acts_completeTransmission echo.levels _
  | lostArbitration echo => exact acts_loseArbitration ⟨echo, rfl⟩ echo.levels _
  | echoMismatch echo => exact acts_mismatchEcho ⟨echo, rfl⟩ echo.levels _

/-- What every operation of a command keeps, its effect keeps. -/
theorem afterEffect_keeps {c : Instr} (h : c ≠ .powerOnReset) {P : State → Prop} {s : State}
    (hact : ∀ v w, Act c v w → P v → P w) (hs : P { s with now := commandTime c }) : P (afterEffect c s) :=
  (acts_afterEffect h s).keeps hact hs

end Sys2Proof.Machine

namespace Sys2Proof.Machine

/-! The queue of commands, reset, and the supply sense. -/

/-- Settles O1: the two branches of the queue. -/
theorem stepRunsFrontCommand : Obligations.StepRunsFrontCommand := by
  unfold Obligations.StepRunsFrontCommand
  intro s
  constructor
  · intro c rest hwaits
    simp only [step, hwaits]
  · intro hempty
    simp only [step, hempty]

/-! ## Reset -/

/-- A machine that has just been reset holds the start values of every block. -/
theorem afterReset_resetWith (pending : List Instr) (draws : Nat) (hold mark : Level) (sense : SupplyLevel) (bus : BusPhase) :
    (State.resetWith pending draws hold mark sense bus).AfterReset := by
  have hstreams (i : StreamId) : (State.resetWith pending draws hold mark sense bus).streams.get i = .reset := by
    cases i <;> rfl
  have haxles (a : Axle) : (State.resetWith pending draws hold mark sense bus).axles.get a = .reset := by cases a <;> rfl
  have hgrip (a : Axle) : (State.resetWith pending draws hold mark sense bus).grip.get a = .reset := by cases a <;> rfl
  have hstatus (a : Axle) :
      (State.resetWith pending draws hold mark sense bus).records.status.get a = .fallback := by cases a <;> rfl
  have hfilters (l : LineId) : ((State.resetWith pending draws hold mark sense bus).filters.get l).accepted = .inactive ∧
      ((State.resetWith pending draws hold mark sense bus).filters.get l).candidate = none ∧
      ((State.resetWith pending draws hold mark sense bus).filters.get l).timer = none := by
    cases l <;> exact ⟨rfl, rfl, rfl⟩
  have htable (a : Axle) : (⟨none, none⟩ : PerAxle (Option Bounds)).get a = none := by cases a <;> rfl
  have hcaps (a : Axle) : (⟨none, none⟩ : PerAxle (Option StabilityCap)).get a = none := by cases a <;> rfl
  unfold State.AfterReset
  simp only [hstreams, haxles, hgrip, hstatus]
  refine ⟨rfl, rfl, rfl, rfl, rfl, rfl, rfl, fun _ => ?_, rfl, fun _ => rfl, rfl, rfl, fun a => ?_, ?_⟩
  · exact ⟨rfl, rfl, rfl, rfl, rfl, rfl, rfl, rfl, rfl, rfl⟩
  · exact ⟨htable a, htable a, htable a, hcaps a, htable a, htable a⟩
  · refine ⟨rfl, rfl, rfl, rfl, rfl, rfl, rfl, rfl, rfl, rfl, rfl, rfl, rfl, rfl, rfl, rfl, rfl, rfl, rfl, fun _ => rfl, rfl,
      fun _ => rfl, hfilters, rfl, rfl, rfl, rfl, rfl, rfl, rfl, rfl, rfl, rfl, rfl, rfl, rfl, rfl, rfl, rfl,
      rfl, rfl, rfl⟩

/-- Settles O3: both machines are values of `State.resetWith`. -/
theorem resetReturnsEveryBlockToItsStart : Obligations.ResetReturnsEveryBlockToItsStart := by
  unfold Obligations.ResetReturnsEveryBlockToItsStart
  refine ⟨afterReset_resetWith _ _ _ _ _ _, fun s => ⟨powerOnReset s, rfl, afterReset_resetWith _ _ _ _ _ _, rfl, rfl, ?_, ?_⟩⟩
  · intro l
    cases l <;> rfl
  · show s.link.busReleased = _
    unfold LinkController.busReleased
    cases s.link.transmitting <;> rfl

/-- A machine that has just been reset meets every invariant, whatever its pins read. -/
theorem resetWith_sound (pending : List Instr) (draws : Nat) (hold mark : Level) (sense : SupplyLevel) (bus : BusPhase)
    (hbus : ∀ n, bus = .gap n → n < 8) (s : State) (hs : s = State.resetWith pending draws hold mark sense bus) :
    s.StartSound ∧ s.ModeSound ∧ s.LinkSound ∧ s.EngineSound ∧ s.QueuesBounded ∧ s.CountsBounded ∧
      (∀ a, (s.axles.get a).Bounded) ∧ s.RecordsFollow ∧ s.TableFollows ∧ s.GripFollows ∧ s.WindowsSound ∧ s.LinesFollow ∧
      s.AlertsFollow ∧ s.FlagsReported ∧ s.PassesSound := by
  have hparams : s.params = none := by rw [hs]; rfl
  have hstreams (i : StreamId) : s.streams.get i = .reset := by rw [hs]; cases i <;> rfl
  have haxles (a : Axle) : s.axles.get a = .reset := by rw [hs]; cases a <;> rfl
  have hgrip (a : Axle) : s.grip.get a = .reset := by rw [hs]; cases a <;> rfl
  have hinverter (a : Axle) : s.table.inverter.get a = none := by rw [hs]; cases a <;> rfl
  have hcaps (a : Axle) : s.table.stability.get a = none := by rw [hs]; cases a <;> rfl
  have hrow (a : Axle) : s.table.grip.get a = none := by rw [hs]; cases a <;> rfl
  have hnone {p : Params} (h : s.params = some p) : False := by rw [hparams] at h; cases h
  refine ⟨?_, ?_, ?_, ?_, ?_, ?_, ?_, ?_, ?_, ?_, ?_, ?_, ?_, ?_, ?_⟩
  · intro _
    exact ⟨by rw [hs]; rfl, hparams, by rw [hs]; rfl, by rw [hs]; rfl, by rw [hs]; rfl, by rw [hs]; rfl, by rw [hs]; rfl,
      fun i => by rw [hstreams]; rfl⟩
  · rw [hs]
    exact ⟨fun h => absurd rfl h, nofun⟩
  · rw [hs]
    exact ⟨nofun, fun _ => .inl rfl⟩
  · rw [hs]
    exact ⟨fun _ => rfl, fun _ => ⟨rfl, rfl⟩⟩
  · rw [hs]
    exact ⟨Nat.zero_le _, hbus, Nat.zero_le _, Nat.zero_lt_succ _, Nat.zero_le _, Nat.le_of_ble_eq_true rfl⟩
  · refine ⟨by rw [hs]; simp [Counters.Bounded, State.resetWith, ReportUnit.reset],
      by rw [hs]; exact Nat.zero_le _, by rw [hs]; exact Nat.zero_le _, fun h hh => ?_, fun r hr => ?_, fun i => ?_⟩
    · rw [hs] at hh
      cases hh
    · rw [hs] at hr
      cases hr
    · rw [hstreams]
      exact ⟨by decide, by decide, by decide⟩
  · intro a
    rw [haxles]
    exact ⟨by decide, by decide, by decide, .nil⟩
  · refine ⟨fun _ => by rw [hs]; rfl, fun a _ => by rw [hs]; cases a <;> rfl, fun p hp => (hnone hp).elim,
      fun _ => by rw [hs]; rfl, fun _ => by rw [hs]; rfl, fun h => ?_⟩
    rw [hs] at h
    cases h
  · refine ⟨fun a => by rw [hinverter, hstreams]; rfl, fun _ => by rw [hs]; rfl, fun p hp => (hnone hp).elim⟩
  · intro a
    rw [hrow, hgrip]
    rfl
  · intro i
    rw [hstreams]
    exact ⟨fun _ => rfl, fun _ => rfl⟩
  · exact ⟨fun _ => by rw [hs]; exact ⟨rfl, rfl⟩, fun p hp => (hnone hp).elim⟩
  · exact ⟨fun _ => by rw [hs]; exact ⟨rfl, rfl⟩, fun p hp => (hnone hp).elim⟩
  · intro i
    rw [hstreams]
    exact ChangeFlag.noConfusion
  · refine ⟨fun _ => ⟨by rw [hs]; rfl, fun a => by rw [hgrip]; rfl⟩, fun a b hb => ?_, fun a c hc => ?_, fun hm => ?_,
      fun sn hsn => ?_, fun p hp => (hnone hp).elim⟩
    · rw [hinverter] at hb
      cases hb
    · rw [hcaps] at hc
      cases hc
    · rw [hs] at hm
      cases hm
    · rw [hs] at hsn
      cases hsn

/-- Settles O51. -/
theorem resetMeetsTheInvariants : Obligations.ResetMeetsTheInvariants :=
  resetWith_sound [] 0 .inactive .inactive .above (.gap 0) (by rintro n ⟨⟩; decide) _ rfl

/-! ## Every command answers (O2) -/

/-- No operation takes a waiting command, and outside the reading of the parameter block none changes the parameters or the
recognition table. -/
theorem Act.keeps_configuration {c : Instr} {v w : State} (h : Act c v w) :
    w.pending = v.pending ∧
      (v.port.reading = false → w.port.reading = false ∧ w.params = v.params ∧ w.recognition = v.recognition) := by
  cases h
  case count op hop =>
    obtain ⟨counters, heq⟩ := counterOps_eq hop v
    simp [heq]
  all_goals simp_all

theorem afterEffect_keeps_configuration {c : Instr} (hc : c ≠ .powerOnReset) (s : State) :
    (afterEffect c s).pending = s.pending ∧
      (s.port.reading = false → (afterEffect c s).params = s.params ∧ (afterEffect c s).recognition = s.recognition) := by
  have hkept := afterEffect_keeps hc (s := s)
    (P := fun v => v.pending = s.pending ∧ (s.port.reading = false →
      v.port.reading = false ∧ v.params = s.params ∧ v.recognition = s.recognition))
    (fun v w hact ⟨hpending, hrest⟩ => by
      obtain ⟨hpending', hrest'⟩ := hact.keeps_configuration
      refine ⟨hpending'.trans hpending, fun hreading => ?_⟩
      obtain ⟨hv, hparams, hrecognition⟩ := hrest hreading
      obtain ⟨hw, hparams', hrecognition'⟩ := hrest' hv
      exact ⟨hw, hparams'.trans hparams, hrecognition'.trans hrecognition⟩)
    ⟨rfl, fun hreading => ⟨hreading, rfl, rfl⟩⟩
  exact ⟨hkept.1, fun hreading => (hkept.2 hreading).2⟩

/-- Settles O2: a command is POWER_ON_RESET or one event, whose operations leave the queue and the accepted block alone. -/
theorem everyCommandAnswersNext : Obligations.EveryCommandAnswersNext := by
  unfold Obligations.EveryCommandAnswersNext
  intro c s
  by_cases hc : c = .powerOnReset
  · subst hc
    exact ⟨powerOnReset s, rfl, rfl, fun h => absurd rfl h⟩
  · obtain ⟨hpending, hconfigured⟩ := afterEffect_keeps_configuration hc s
    refine ⟨_, exec_eq_settle hc s, by simpa using hpending, fun _ hreading => ?_⟩
    simpa using hconfigured hreading

/-! ## The supply sense -/

/-- The supply sense changes nothing that the report unit weighs. -/
theorem settle_senseSupply (level : SupplyLevel) (s : State) (t : Time) :
    settle s (senseSupply level { s with now := t }) = senseSupply level { s with now := t } := by
  apply settle_same
  · exact marksQuiet_same rfl
  · rfl
  · exact fun _ => rfl
  · rfl
  · intro i
    cases i <;> rfl
  · rfl
  · intro x
    cases x <;> rfl

/-- Settles O37: a timer runs while its condition holds. -/
theorem supplySenseRunsTheTimers : Obligations.SupplySenseRunsTheTimers := by
  unfold Obligations.SupplySenseRunsTheTimers
  intro s t level
  have hexec : exec (.supplySenseChange t level) s = .next (senseSupply level { s with now := t }) :=
    (exec_eq_settle (c := .supplySenseChange t level) nofun s).trans (congrArg _ (settle_senseSupply level s t))
  rw [hexec]
  refine ⟨fun hjudgement hrestore => ?_, fun hjudgement hlow => ?_⟩
  · cases level <;> cases htimer : s.supply.lowTimer <;>
      simp [senseSupply, runWhile, hjudgement, hrestore, htimer, Config.lowDelay]
  · cases level <;> cases htimer : s.supply.restoreTimer <;>
      simp [senseSupply, runWhile, hjudgement, hlow, htimer, Config.restoreDelay]

end Sys2Proof.Machine

namespace Sys2Proof.Machine

/-! SUPPORT. What resets, axle moves and mode entries do, field by field. -/

/-! ## Resets of the engine and the regulators (R83) -/

/-- Both regulators of a pair are GRIPPING. -/
def gripsBoth (grip : PerAxle GripRegulator) : Bool := grip.front.state == .gripping && grip.rear.state == .gripping

theorem bothGripping_eq (s : State) : bothGripping s = gripsBoth s.grip := rfl

theorem resetRegulator_eq (a : Axle) (s : State) :
    resetRegulator a s =
      { s with
        grip := s.grip.set a .reset
        table.grip := s.table.grip.set a none
        report.gripLimiting := if gripsBoth (s.grip.set a .reset) then false else s.report.gripLimiting } := by
  simp only [resetRegulator, bothGripping_eq]
  split
  next h => simp only [h, if_true]
  next h => simp only [h, if_false, Bool.false_eq_true]

theorem resetOrDefer_of_idle {s : State} (rs : List DeferredReset) (hidle : s.engine.flight = none) :
    resetOrDefer rs s = rs.foldl applyReset s := by
  simp only [resetOrDefer, hidle]

theorem resetOrDefer_of_flying {s : State} {sn : Snapshot} (rs : List DeferredReset) (hflight : s.engine.flight = some sn) :
    resetOrDefer rs s = { s with engine.deferred := s.engine.deferred ++ rs } := by
  simp only [resetOrDefer, hflight]

theorem driveResets_of_idle {s : State} (hidle : s.engine.flight = none) :
    resetOrDefer driveResets s =
      { s with
        engine.previous := ⟨0, 0⟩
        grip := ⟨.reset, .reset⟩
        table.grip := ⟨none, none⟩
        report.gripLimiting := false } := by
  rw [resetOrDefer_of_idle _ hidle]
  simp [driveResets, applyReset, resetRegulator_eq, zeroPrevious, PerAxle.set, gripsBoth, GripRegulator.reset]

@[simp] theorem applyReset_table_frame (s : State) (r : DeferredReset) :
    (applyReset s r).table.driveline = s.table.driveline ∧ (applyReset s r).table.inverter = s.table.inverter ∧
    (applyReset s r).table.axle = s.table.axle ∧ (applyReset s r).table.stability = s.table.stability ∧
    (applyReset s r).table.supply = s.table.supply := by
  cases r <;> simp [applyReset, resetRegulator_eq]

@[simp] theorem applyReset_engine_frame (s : State) (r : DeferredReset) :
    (applyReset s r).engine.flight = s.engine.flight ∧ (applyReset s r).engine.pendingPass = s.engine.pendingPass ∧
    (applyReset s r).engine.timer = s.engine.timer ∧ (applyReset s r).engine.lastStart = s.engine.lastStart ∧
    (applyReset s r).engine.firstPass = s.engine.firstPass ∧ (applyReset s r).engine.passNumber = s.engine.passNumber ∧
    (applyReset s r).engine.result = s.engine.result ∧ (applyReset s r).engine.deferred = s.engine.deferred := by
  cases r <;> simp [applyReset, resetRegulator_eq, zeroPrevious]

@[simp] theorem applyReset_report_frame (s : State) (r : DeferredReset) :
    (applyReset s r).report.statusTimer = s.report.statusTimer ∧ (applyReset s r).report.placement = s.report.placement ∧
    (applyReset s r).report.alerts = s.report.alerts ∧ (applyReset s r).report.powerRun = s.report.powerRun ∧
    (applyReset s r).report.leading = s.report.leading ∧ (applyReset s r).report.request = s.report.request ∧
    (applyReset s r).report.slotOne = s.report.slotOne ∧ (applyReset s r).report.slotTwo = s.report.slotTwo ∧
    (applyReset s r).report.newestSlot = s.report.newestSlot ∧ (applyReset s r).report.query = s.report.query ∧
    (applyReset s r).report.counters = s.report.counters ∧ (applyReset s r).report.sta = s.report.sta ∧
    (applyReset s r).report.stb = s.report.stb := by
  cases r <;> simp [applyReset, resetRegulator_eq]

/-- What each reset leaves, a list of resets leaves. -/
theorem foldl_applyReset_keeps {α : Type} (f : State → α) (h : ∀ s r, f (applyReset s r) = f s) (rs : List DeferredReset)
    (s : State) : f (rs.foldl applyReset s) = f s := by
  induction rs generalizing s with
  | nil => rfl
  | cons r rs ih => rw [List.foldl_cons, ih, h]

@[simp] theorem foldl_applyReset_table_frame (rs : List DeferredReset) (s : State) :
    (rs.foldl applyReset s).table.driveline = s.table.driveline ∧
    (rs.foldl applyReset s).table.inverter = s.table.inverter ∧ (rs.foldl applyReset s).table.axle = s.table.axle ∧
    (rs.foldl applyReset s).table.stability = s.table.stability ∧ (rs.foldl applyReset s).table.supply = s.table.supply := by
  refine ⟨?_, ?_, ?_, ?_, ?_⟩
  · exact foldl_applyReset_keeps (·.table.driveline) (by simp) rs s
  · exact foldl_applyReset_keeps (·.table.inverter) (by simp) rs s
  · exact foldl_applyReset_keeps (·.table.axle) (by simp) rs s
  · exact foldl_applyReset_keeps (·.table.stability) (by simp) rs s
  · exact foldl_applyReset_keeps (·.table.supply) (by simp) rs s

/-- The engine but for its previous commands. -/
theorem foldl_applyReset_engine (rs : List DeferredReset) (s : State) :
    (rs.foldl applyReset s).engine = { s.engine with previous := (rs.foldl applyReset s).engine.previous } := by
  induction rs generalizing s with
  | nil => rfl
  | cons r rs ih =>
    rw [List.foldl_cons, ih]
    cases r <;> simp [applyReset, resetRegulator_eq, zeroPrevious]

@[simp] theorem foldl_applyReset_engine_frame (rs : List DeferredReset) (s : State) :
    (rs.foldl applyReset s).engine.flight = s.engine.flight ∧
    (rs.foldl applyReset s).engine.pendingPass = s.engine.pendingPass ∧
    (rs.foldl applyReset s).engine.timer = s.engine.timer ∧ (rs.foldl applyReset s).engine.lastStart = s.engine.lastStart ∧
    (rs.foldl applyReset s).engine.firstPass = s.engine.firstPass ∧
    (rs.foldl applyReset s).engine.passNumber = s.engine.passNumber ∧
    (rs.foldl applyReset s).engine.result = s.engine.result ∧
    (rs.foldl applyReset s).engine.deferred = s.engine.deferred := by
  rw [foldl_applyReset_engine]
  simp

/-- The report unit but for GRIP LIMITING. -/
theorem foldl_applyReset_report (rs : List DeferredReset) (s : State) :
    (rs.foldl applyReset s).report = { s.report with gripLimiting := (rs.foldl applyReset s).report.gripLimiting } := by
  induction rs generalizing s with
  | nil => rfl
  | cons r rs ih =>
    rw [List.foldl_cons, ih]
    cases r <;> simp [applyReset, resetRegulator_eq]

@[simp] theorem foldl_applyReset_report_frame (rs : List DeferredReset) (s : State) :
    (rs.foldl applyReset s).report.statusTimer = s.report.statusTimer ∧
    (rs.foldl applyReset s).report.placement = s.report.placement ∧
    (rs.foldl applyReset s).report.alerts = s.report.alerts ∧
    (rs.foldl applyReset s).report.powerRun = s.report.powerRun ∧
    (rs.foldl applyReset s).report.leading = s.report.leading ∧
    (rs.foldl applyReset s).report.request = s.report.request ∧
    (rs.foldl applyReset s).report.slotOne = s.report.slotOne ∧
    (rs.foldl applyReset s).report.slotTwo = s.report.slotTwo ∧
    (rs.foldl applyReset s).report.newestSlot = s.report.newestSlot ∧
    (rs.foldl applyReset s).report.query = s.report.query ∧
    (rs.foldl applyReset s).report.counters = s.report.counters ∧ (rs.foldl applyReset s).report.sta = s.report.sta ∧
    (rs.foldl applyReset s).report.stb = s.report.stb := by
  rw [foldl_applyReset_report]
  simp

@[simp] theorem resetOrDefer_table_frame (rs : List DeferredReset) (s : State) :
    (resetOrDefer rs s).table.driveline = s.table.driveline ∧ (resetOrDefer rs s).table.inverter = s.table.inverter ∧
    (resetOrDefer rs s).table.axle = s.table.axle ∧ (resetOrDefer rs s).table.stability = s.table.stability ∧
    (resetOrDefer rs s).table.supply = s.table.supply := by
  unfold resetOrDefer
  split <;> simp

@[simp] theorem resetOrDefer_engine_frame (rs : List DeferredReset) (s : State) :
    (resetOrDefer rs s).engine.flight = s.engine.flight ∧
    (resetOrDefer rs s).engine.pendingPass = s.engine.pendingPass ∧ (resetOrDefer rs s).engine.timer = s.engine.timer ∧
    (resetOrDefer rs s).engine.lastStart = s.engine.lastStart ∧
    (resetOrDefer rs s).engine.firstPass = s.engine.firstPass ∧
    (resetOrDefer rs s).engine.passNumber = s.engine.passNumber ∧
    (resetOrDefer rs s).engine.result = s.engine.result := by
  unfold resetOrDefer
  split <;> simp

@[simp] theorem resetOrDefer_report_frame (rs : List DeferredReset) (s : State) :
    (resetOrDefer rs s).report.statusTimer = s.report.statusTimer ∧
    (resetOrDefer rs s).report.placement = s.report.placement ∧ (resetOrDefer rs s).report.alerts = s.report.alerts ∧
    (resetOrDefer rs s).report.powerRun = s.report.powerRun ∧ (resetOrDefer rs s).report.leading = s.report.leading ∧
    (resetOrDefer rs s).report.request = s.report.request ∧ (resetOrDefer rs s).report.slotOne = s.report.slotOne ∧
    (resetOrDefer rs s).report.slotTwo = s.report.slotTwo ∧
    (resetOrDefer rs s).report.newestSlot = s.report.newestSlot ∧ (resetOrDefer rs s).report.query = s.report.query ∧
    (resetOrDefer rs s).report.counters = s.report.counters ∧ (resetOrDefer rs s).report.sta = s.report.sta ∧
    (resetOrDefer rs s).report.stb = s.report.stb := by
  unfold resetOrDefer
  split <;> simp

/-! ## Requests and captures -/

@[simp] theorem fillRequest_report_frame (s : State) :
    (fillRequest s).report.statusTimer = s.report.statusTimer ∧ (fillRequest s).report.placement = s.report.placement ∧
    (fillRequest s).report.alerts = s.report.alerts ∧ (fillRequest s).report.powerRun = s.report.powerRun ∧
    (fillRequest s).report.gripLimiting = s.report.gripLimiting ∧ (fillRequest s).report.leading = s.report.leading ∧
    (fillRequest s).report.query = s.report.query ∧ (fillRequest s).report.sta = s.report.sta ∧
    (fillRequest s).report.stb = s.report.stb ∧
    (fillRequest s).report.counters =
      { s.report.counters with missedCaptures := (fillRequest s).report.counters.missedCaptures } := by
  unfold fillRequest
  split
  · simp
  · split
    · simp [countMissedCapture]
    next i _ => cases i <;> simp [fillSlot]

@[simp] theorem fillIfStill_report_frame (s : State) :
    (fillIfStill s).report.statusTimer = s.report.statusTimer ∧ (fillIfStill s).report.placement = s.report.placement ∧
    (fillIfStill s).report.alerts = s.report.alerts ∧ (fillIfStill s).report.powerRun = s.report.powerRun ∧
    (fillIfStill s).report.gripLimiting = s.report.gripLimiting ∧ (fillIfStill s).report.leading = s.report.leading ∧
    (fillIfStill s).report.query = s.report.query ∧ (fillIfStill s).report.sta = s.report.sta ∧
    (fillIfStill s).report.stb = s.report.stb := by
  unfold fillIfStill
  split <;> simp

@[simp] theorem setRequest_report_frame (src : TriggerSource) (s : State) :
    (setRequest src s).report.statusTimer = s.report.statusTimer ∧
    (setRequest src s).report.placement = s.report.placement ∧ (setRequest src s).report.alerts = s.report.alerts ∧
    (setRequest src s).report.powerRun = s.report.powerRun ∧
    (setRequest src s).report.gripLimiting = s.report.gripLimiting ∧
    (setRequest src s).report.leading = s.report.leading ∧ (setRequest src s).report.slotOne = s.report.slotOne ∧
    (setRequest src s).report.slotTwo = s.report.slotTwo ∧ (setRequest src s).report.newestSlot = s.report.newestSlot ∧
    (setRequest src s).report.query = s.report.query ∧ (setRequest src s).report.counters = s.report.counters ∧
    (setRequest src s).report.sta = s.report.sta ∧ (setRequest src s).report.stb = s.report.stb := by
  unfold setRequest
  split <;> simp

@[simp] theorem takeTrigger_report_frame (src : TriggerSource) (s : State) :
    (takeTrigger src s).report.statusTimer = s.report.statusTimer ∧
    (takeTrigger src s).report.placement = s.report.placement ∧ (takeTrigger src s).report.alerts = s.report.alerts ∧
    (takeTrigger src s).report.powerRun = s.report.powerRun ∧
    (takeTrigger src s).report.gripLimiting = s.report.gripLimiting ∧
    (takeTrigger src s).report.leading = s.report.leading ∧ (takeTrigger src s).report.query = s.report.query ∧
    (takeTrigger src s).report.sta = s.report.sta ∧ (takeTrigger src s).report.stb = s.report.stb := by
  unfold takeTrigger
  split <;> simp

theorem requestPass_of_still {s : State} (hstill : s.modes.mode.runsPasses = false) : requestPass s = s := by
  simp [requestPass, hstill]

/-- With a pass in flight a request raises the pending flag alone, in a mode that runs passes. -/
theorem requestPass_engine_of_flying {s : State} {sn : Snapshot} (hflight : s.engine.flight = some sn) :
    (requestPass s).engine = { s.engine with pendingPass := s.modes.mode.runsPasses || s.engine.pendingPass } := by
  cases hruns : s.modes.mode.runsPasses
  · rw [requestPass_of_still hruns]
    simp
  · rw [requestPass_of_flying hruns hflight]
    simp

/-! ## Axle moves -/

theorem changeAxle_of_staying {a : Axle} {v : Supervisor} {s : State}
    (h : v.state = .offline → (s.axles.get a).state = .offline) :
    changeAxle a v s = writeAxleCell a (setSupervisor a v s) := by
  simp only [changeAxle]
  exact if_neg fun ⟨hoff, hon⟩ => hon (h hoff)

theorem changeAxle_of_leaving {a : Axle} {v : Supervisor} {s : State} (hoff : v.state = .offline)
    (hon : (s.axles.get a).state ≠ .offline) :
    changeAxle a v s = resetOrDefer [.regulator a] (writeAxleCell a (setSupervisor a v s)) := by
  simp only [changeAxle]
  exact if_pos ⟨hoff, hon⟩

@[simp] theorem changeAxle_axles (a : Axle) (v : Supervisor) (s : State) :
    (changeAxle a v s).axles = s.axles.set a v := by
  simp only [changeAxle]
  split <;> simp [setSupervisor]

@[simp] theorem changeAxle_table_frame (a : Axle) (v : Supervisor) (s : State) :
    (changeAxle a v s).table.driveline = s.table.driveline ∧ (changeAxle a v s).table.inverter = s.table.inverter ∧
    (changeAxle a v s).table.axle = s.table.axle.set a (axleCell s.par a v.state (s.records.status.get a).accepting) ∧
    (changeAxle a v s).table.stability = s.table.stability ∧ (changeAxle a v s).table.supply = s.table.supply := by
  simp only [changeAxle]
  split <;> simp [writeAxleCell, setSupervisor, State.par]

@[simp] theorem changeAxle_engine_frame (a : Axle) (v : Supervisor) (s : State) :
    (changeAxle a v s).engine.flight = s.engine.flight ∧ (changeAxle a v s).engine.pendingPass = s.engine.pendingPass ∧
    (changeAxle a v s).engine.timer = s.engine.timer ∧ (changeAxle a v s).engine.previous = s.engine.previous ∧
    (changeAxle a v s).engine.lastStart = s.engine.lastStart ∧ (changeAxle a v s).engine.firstPass = s.engine.firstPass ∧
    (changeAxle a v s).engine.passNumber = s.engine.passNumber ∧ (changeAxle a v s).engine.result = s.engine.result := by
  simp only [changeAxle]
  split
  · cases hflight : s.engine.flight with
    | none => simp [resetOrDefer_of_idle, hflight, applyReset, resetRegulator_eq]
    | some sn => simp [resetOrDefer_of_flying (sn := sn), hflight]
  · simp

@[simp] theorem changeAxle_report_frame (a : Axle) (v : Supervisor) (s : State) :
    (changeAxle a v s).report.statusTimer = s.report.statusTimer ∧
    (changeAxle a v s).report.placement = s.report.placement ∧ (changeAxle a v s).report.alerts = s.report.alerts ∧
    (changeAxle a v s).report.powerRun = s.report.powerRun ∧ (changeAxle a v s).report.leading = s.report.leading ∧
    (changeAxle a v s).report.request = s.report.request ∧ (changeAxle a v s).report.slotOne = s.report.slotOne ∧
    (changeAxle a v s).report.slotTwo = s.report.slotTwo ∧ (changeAxle a v s).report.newestSlot = s.report.newestSlot ∧
    (changeAxle a v s).report.query = s.report.query ∧ (changeAxle a v s).report.counters = s.report.counters ∧
    (changeAxle a v s).report.sta = s.report.sta ∧ (changeAxle a v s).report.stb = s.report.stb := by
  simp only [changeAxle]
  split <;> simp

@[simp] theorem writeContent_report_frame (i : StreamId) (tow : Bool) (e : IntakeEntry) (s : State) :
    (writeContent i tow e s).report.statusTimer = s.report.statusTimer ∧
    (writeContent i tow e s).report.placement = s.report.placement ∧
    (writeContent i tow e s).report.alerts = s.report.alerts ∧
    (writeContent i tow e s).report.powerRun = s.report.powerRun ∧
    (writeContent i tow e s).report.leading = s.report.leading ∧
    (writeContent i tow e s).report.request = s.report.request ∧
    (writeContent i tow e s).report.slotOne = s.report.slotOne ∧
    (writeContent i tow e s).report.slotTwo = s.report.slotTwo ∧
    (writeContent i tow e s).report.newestSlot = s.report.newestSlot ∧
    (writeContent i tow e s).report.query = s.report.query ∧
    (writeContent i tow e s).report.counters = s.report.counters ∧
    (writeContent i tow e s).report.sta = s.report.sta ∧
    (writeContent i tow e s).report.stb = s.report.stb := by
  cases i <;> simp [writeContent, superviseAxle, setCaps]

@[simp] theorem writeContent_engine_frame (i : StreamId) (tow : Bool) (e : IntakeEntry) (s : State) :
    (writeContent i tow e s).engine.flight = s.engine.flight ∧
    (writeContent i tow e s).engine.pendingPass = s.engine.pendingPass ∧
    (writeContent i tow e s).engine.timer = s.engine.timer ∧
    (writeContent i tow e s).engine.previous = s.engine.previous ∧
    (writeContent i tow e s).engine.lastStart = s.engine.lastStart ∧
    (writeContent i tow e s).engine.firstPass = s.engine.firstPass ∧
    (writeContent i tow e s).engine.passNumber = s.engine.passNumber ∧
    (writeContent i tow e s).engine.result = s.engine.result := by
  cases i <;> simp [writeContent, superviseAxle, setCaps]

@[simp] theorem writeFallback_report_frame (i : StreamId) (tow : Bool) (s : State) :
    (writeFallback i tow s).report.statusTimer = s.report.statusTimer ∧
    (writeFallback i tow s).report.placement = s.report.placement ∧
    (writeFallback i tow s).report.alerts = s.report.alerts ∧
    (writeFallback i tow s).report.powerRun = s.report.powerRun ∧
    (writeFallback i tow s).report.leading = s.report.leading ∧
    (writeFallback i tow s).report.request = s.report.request ∧
    (writeFallback i tow s).report.slotOne = s.report.slotOne ∧
    (writeFallback i tow s).report.slotTwo = s.report.slotTwo ∧
    (writeFallback i tow s).report.newestSlot = s.report.newestSlot ∧
    (writeFallback i tow s).report.query = s.report.query ∧
    (writeFallback i tow s).report.counters = s.report.counters ∧
    (writeFallback i tow s).report.sta = s.report.sta ∧
    (writeFallback i tow s).report.stb = s.report.stb := by
  cases i <;> simp [writeFallback, loseAxle]

@[simp] theorem writeFallback_engine_frame (i : StreamId) (tow : Bool) (s : State) :
    (writeFallback i tow s).engine.flight = s.engine.flight ∧
    (writeFallback i tow s).engine.pendingPass = s.engine.pendingPass ∧
    (writeFallback i tow s).engine.timer = s.engine.timer ∧
    (writeFallback i tow s).engine.previous = s.engine.previous ∧
    (writeFallback i tow s).engine.lastStart = s.engine.lastStart ∧
    (writeFallback i tow s).engine.firstPass = s.engine.firstPass ∧
    (writeFallback i tow s).engine.passNumber = s.engine.passNumber ∧
    (writeFallback i tow s).engine.result = s.engine.result := by
  cases i <;> simp [writeFallback, loseAxle]

/-- An axle that stands down goes to STANDBY, so no regulator is reset. -/
theorem standDown_eq (a : Axle) (s : State) :
    standDown a s =
      if (s.axles.get a).state.inService then
        writeAxleCell a (setSupervisor a { s.axles.get a with state := .standby } s)
      else s := by
  simp only [standDown]
  split
  · exact changeAxle_of_staying nofun
  · rfl

@[simp] theorem standDown_whole_frame (a : Axle) (s : State) :
    (standDown a s).engine = s.engine ∧ (standDown a s).grip = s.grip ∧ (standDown a s).report = s.report ∧
    (standDown a s).table.driveline = s.table.driveline ∧ (standDown a s).table.inverter = s.table.inverter ∧
    (standDown a s).table.stability = s.table.stability ∧ (standDown a s).table.grip = s.table.grip ∧
    (standDown a s).table.supply = s.table.supply := by
  rw [standDown_eq]
  split <;> simp [writeAxleCell]

/-- An axle's supervisor after it stood down. -/
def Supervisor.stoodDown (v : Supervisor) : Supervisor := if v.state.inService then { v with state := .standby } else v

@[simp] theorem standDown_axles (a : Axle) (s : State) :
    (standDown a s).axles = s.axles.set a (s.axles.get a).stoodDown := by
  rw [standDown_eq]
  unfold Supervisor.stoodDown
  split
  · rfl
  · cases a <;> rfl

@[simp] theorem standDown_axleRow (a b : Axle) (s : State) :
    (standDown a s).table.axle.get b =
      if b = a ∧ (s.axles.get a).state.inService = true then some (symmetric 0) else s.table.axle.get b := by
  rw [standDown_eq]
  by_cases hserves : (s.axles.get a).state.inService = true
  · simp only [hserves, if_true, writeAxleCell, setSupervisor, PerAxle.get_set_self, and_true, PerAxle.get_set]
    rfl
  · simp [hserves]

/-! ## Mode entries -/

@[simp] theorem Mode.runsPasses_values :
    Mode.driving.runsPasses = true ∧ Mode.fading.runsPasses = true ∧ Mode.supplyDown.runsPasses = true ∧
    Mode.start.runsPasses = false ∧ Mode.dozing.runsPasses = false ∧ Mode.supplyHalted.runsPasses = false ∧
    Mode.safe.runsPasses = false := by decide

@[simp] theorem enterMode_modes (new : Mode) (cause : SafeCause) (s : State) :
    (enterMode new cause s).modes =
      { mode := new, cause := cause, restorePending := s.modes.restorePending && new != .safe } := by
  simp [enterMode, writeMode]

@[simp] theorem setSupplyCeilings_table (s : State) :
    (setSupplyCeilings s).table =
      { s.table with supply := s.engine.previous.map fun v => some (symmetric (magnitude v)) } := rfl

/-- Into FADING: a pass is requested (R134). -/
theorem enterMode_fading (cause : SafeCause) (s : State) :
    enterMode .fading cause s = requestPass (writeMode .fading cause s) := rfl

/-- From DOZING into DRIVING: the engine is reset, or notes the reset, and the first pass is marked (R133). -/
theorem enterMode_driving_of_dozing {s : State} (cause : SafeCause) (h : s.modes.mode = .dozing) :
    enterMode .driving cause s =
      { resetOrDefer driveResets (writeMode .driving cause s) with engine.firstPass := true } := by
  have hfills : fillIfStill { resetOrDefer driveResets (writeMode .driving cause s) with engine.firstPass := true } =
      { resetOrDefer driveResets (writeMode .driving cause s) with engine.firstPass := true } := by
    simp [fillIfStill, writeMode, Mode.fillsAtOnce, Mode.runsPasses]
  simp only [enterMode, h, tellEngine, tellAxles, tellLink, tellCaptures, entryRequests, requestPassIf]
  exact hfills

/-- From another mode into DRIVING: the previous commands, the ceilings and the grip states are kept (R133). -/
theorem enterMode_driving_of_other {s : State} (cause : SafeCause) (h : s.modes.mode ≠ .dozing) :
    enterMode .driving cause s = writeMode .driving cause s := by
  simp only [enterMode, tellEngine, if_neg h]
  rfl

/-- Into SUPPLY DOWN: an IDLE engine's SUPPLY cells stand at the previous commands; the trigger, and a pass (R61, R140, R172). -/
theorem enterMode_supplyDown (cause : SafeCause) (s : State) :
    enterMode .supplyDown cause s =
      requestPass (takeTrigger .supplyDown
        (if s.engine.flight.isNone then setSupplyCeilings (writeMode .supplyDown cause s)
         else writeMode .supplyDown cause s)) := rfl

/-- The engine and the axles as a mode without passes finds them: the pass timer is stopped, and the axles in service stand by. -/
def stoodStill (old new : Mode) (cause : SafeCause) (s : State) : State :=
  tellLink old new (standDown .rear (standDown .front (tellEngine old new (writeMode new cause s))))

/-- Into a mode without passes: a waiting capture request is filled with no pass in flight (R143, R172). -/
theorem enterMode_still {new : Mode} (cause : SafeCause) (s : State) (h : new.runsPasses = false) :
    enterMode new cause s = fillIfStill (stoodStill s.modes.mode new cause s) := by
  have hstill : (stoodStill s.modes.mode new cause s).modes.mode.runsPasses = false := by
    simpa [stoodStill, writeMode] using h
  have hdown : new ≠ .supplyDown := by
    rintro rfl
    cases h
  have haxles (v : State) : tellAxles new v = standDown .rear (standDown .front v) := by simp [tellAxles, h]
  have hcaptures (v : State) : tellCaptures new v = fillIfStill v := by simp [tellCaptures, hdown]
  simp only [enterMode, haxles, hcaptures]
  exact requestPassIf_of_still _ (by simpa [stoodStill] using hstill)

/-- The SUPPLY row after an entry into a mode without passes. -/
def supplyAfterEntry (old new : Mode) (supply : PerAxle (Option Bounds)) : PerAxle (Option Bounds) :=
  if new = .supplyHalted ∧ old = .supplyDown then ⟨none, none⟩ else supply

theorem tellEngine_of_still {new : Mode} (old : Mode) (s : State) (h : new.runsPasses = false) :
    tellEngine old new s =
      { s with engine.timer := none, table.supply := supplyAfterEntry old new s.table.supply } := by
  cases new with
  | supplyHalted => by_cases hold : old = .supplyDown <;> simp [tellEngine, stopPassTimer, clearSupplyCells, supplyAfterEntry, hold]
  | start | dozing | safe => simp [tellEngine, stopPassTimer, supplyAfterEntry]
  | driving | fading | supplyDown => cases h

@[simp] theorem stoodStill_frame {old new : Mode} (cause : SafeCause) (s : State) (h : new.runsPasses = false) :
    (stoodStill old new cause s).engine = { s.engine with timer := none } ∧ (stoodStill old new cause s).grip = s.grip ∧
    (stoodStill old new cause s).report = s.report ∧
    (stoodStill old new cause s).table.driveline = s.table.driveline ∧
    (stoodStill old new cause s).table.inverter = s.table.inverter ∧
    (stoodStill old new cause s).table.stability = s.table.stability ∧
    (stoodStill old new cause s).table.grip = s.table.grip ∧
    (stoodStill old new cause s).table.supply = supplyAfterEntry old new s.table.supply ∧
    (∀ a, (stoodStill old new cause s).axles.get a = (s.axles.get a).stoodDown) ∧
    (∀ a, (stoodStill old new cause s).table.axle.get a =
      if (s.axles.get a).state.inService then some (symmetric 0) else s.table.axle.get a) ∧
    (stoodStill old new cause s).modes =
      { mode := new, cause := cause, restorePending := s.modes.restorePending && new != .safe } := by
  simp only [stoodStill, tellLink_frame, tellEngine_of_still old _ h]
  refine ⟨by simp, by simp, by simp, by simp, by simp, by simp, by simp, by simp, fun a => ?_, fun a => ?_, by simp [writeMode]⟩
  · cases a <;> simp [PerAxle.get, PerAxle.set]
  · cases a <;> simp [PerAxle.get_set]

@[simp] theorem tellEngine_table_frame (old new : Mode) (s : State) :
    (tellEngine old new s).table.driveline = s.table.driveline ∧
    (tellEngine old new s).table.inverter = s.table.inverter ∧ (tellEngine old new s).table.axle = s.table.axle ∧
    (tellEngine old new s).table.stability = s.table.stability := by
  unfold tellEngine
  repeat' split
  all_goals simp [stopPassTimer, setSupplyCeilings, clearSupplyCells]

@[simp] theorem tellEngine_engine_frame (old new : Mode) (s : State) :
    (tellEngine old new s).engine.flight = s.engine.flight ∧
    (tellEngine old new s).engine.pendingPass = s.engine.pendingPass ∧
    (tellEngine old new s).engine.lastStart = s.engine.lastStart ∧
    (tellEngine old new s).engine.passNumber = s.engine.passNumber ∧
    (tellEngine old new s).engine.result = s.engine.result := by
  unfold tellEngine
  repeat' split
  all_goals simp [stopPassTimer]

@[simp] theorem tellEngine_report_frame (old new : Mode) (s : State) :
    (tellEngine old new s).report.statusTimer = s.report.statusTimer ∧
    (tellEngine old new s).report.placement = s.report.placement ∧
    (tellEngine old new s).report.alerts = s.report.alerts ∧
    (tellEngine old new s).report.powerRun = s.report.powerRun ∧
    (tellEngine old new s).report.leading = s.report.leading ∧
    (tellEngine old new s).report.request = s.report.request ∧
    (tellEngine old new s).report.slotOne = s.report.slotOne ∧
    (tellEngine old new s).report.slotTwo = s.report.slotTwo ∧
    (tellEngine old new s).report.newestSlot = s.report.newestSlot ∧
    (tellEngine old new s).report.query = s.report.query ∧
    (tellEngine old new s).report.counters = s.report.counters ∧ (tellEngine old new s).report.sta = s.report.sta ∧
    (tellEngine old new s).report.stb = s.report.stb := by
  unfold tellEngine
  repeat' split
  all_goals simp

@[simp] theorem tellAxles_whole_frame (new : Mode) (s : State) :
    (tellAxles new s).engine = s.engine ∧ (tellAxles new s).grip = s.grip ∧ (tellAxles new s).report = s.report ∧
    (tellAxles new s).table.driveline = s.table.driveline ∧ (tellAxles new s).table.inverter = s.table.inverter ∧
    (tellAxles new s).table.stability = s.table.stability ∧ (tellAxles new s).table.grip = s.table.grip ∧
    (tellAxles new s).table.supply = s.table.supply := by
  unfold tellAxles
  split <;> simp

@[simp] theorem tellCaptures_report_frame (new : Mode) (s : State) :
    (tellCaptures new s).report.statusTimer = s.report.statusTimer ∧
    (tellCaptures new s).report.placement = s.report.placement ∧
    (tellCaptures new s).report.alerts = s.report.alerts ∧ (tellCaptures new s).report.powerRun = s.report.powerRun ∧
    (tellCaptures new s).report.gripLimiting = s.report.gripLimiting ∧
    (tellCaptures new s).report.leading = s.report.leading ∧ (tellCaptures new s).report.query = s.report.query ∧
    (tellCaptures new s).report.sta = s.report.sta ∧ (tellCaptures new s).report.stb = s.report.stb := by
  unfold tellCaptures
  split <;> simp

@[simp] theorem enterMode_table_frame (new : Mode) (cause : SafeCause) (s : State) :
    (enterMode new cause s).table.driveline = s.table.driveline ∧
    (enterMode new cause s).table.inverter = s.table.inverter ∧
    (enterMode new cause s).table.stability = s.table.stability := by
  simp [enterMode]

@[simp] theorem enterMode_report_frame (new : Mode) (cause : SafeCause) (s : State) :
    (enterMode new cause s).report.statusTimer = s.report.statusTimer ∧
    (enterMode new cause s).report.placement = s.report.placement ∧
    (enterMode new cause s).report.alerts = s.report.alerts ∧
    (enterMode new cause s).report.powerRun = s.report.powerRun ∧
    (enterMode new cause s).report.leading = s.report.leading ∧
    (enterMode new cause s).report.query = s.report.query ∧ (enterMode new cause s).report.sta = s.report.sta ∧
    (enterMode new cause s).report.stb = s.report.stb := by
  simp [enterMode]

theorem enterMode_link (new : Mode) (cause : SafeCause) (s : State) :
    (enterMode new cause s).link =
      if new = .supplyHalted then { s.link with quiet := true }
      else if new = .safe ∧ s.modes.mode = .supplyHalted then (leaveListen s).link
      else s.link := by
  simp only [enterMode, requestPassIf_frame, tellCaptures_frame, tellLink]
  split
  · simp
  · split
    · simp [leaveListen]
    · simp

end Sys2Proof.Machine

namespace Sys2Proof.Machine

/-! What a pass in flight keeps (O59), and where a command for torque can come from (O58). -/

/-! ## A pass in flight (R6, R83) -/

/-- A pass that is in flight at `s` is in flight at `u`, and what it computes from stands as it was. -/
def Undisturbed (s u : State) : Prop :=
  ∀ sn, s.engine.flight = some sn →
    u.engine.flight = some sn ∧ u.engine.previous = s.engine.previous ∧ u.grip = s.grip ∧
      u.engine.passNumber = s.engine.passNumber ∧ u.engine.result = s.engine.result ∧
      u.engine.lastStart = s.engine.lastStart

theorem Undisturbed.trans {s v u : State} (h₁ : Undisturbed s v) (h₂ : Undisturbed v u) : Undisturbed s u := by
  intro sn hflight
  obtain ⟨hv, hprevious, hgrip, hnumber, hresult, hstart⟩ := h₁ sn hflight
  obtain ⟨hu, hprevious', hgrip', hnumber', hresult', hstart'⟩ := h₂ sn hv
  exact ⟨hu, hprevious'.trans hprevious, hgrip'.trans hgrip, hnumber'.trans hnumber, hresult'.trans hresult,
    hstart'.trans hstart⟩

theorem undisturbed_of_eq {s u : State} (hengine : u.engine = s.engine) (hgrip : u.grip = s.grip) : Undisturbed s u := by
  intro sn hflight
  simp [hengine, hgrip, hflight]

theorem Undisturbed.of_same {s v u : State} (h : Undisturbed v u) (hengine : v.engine = s.engine) (hgrip : v.grip = s.grip) :
    Undisturbed s u := (undisturbed_of_eq hengine hgrip).trans h

theorem undisturbed_requestPass (s : State) : Undisturbed s (requestPass s) := by
  intro sn hflight
  simp [requestPass_engine_of_flying hflight, hflight]

theorem undisturbed_requestPassIf (b : Bool) (s : State) : Undisturbed s (requestPassIf b s) := by
  cases b
  · exact undisturbed_of_eq rfl rfl
  · exact undisturbed_requestPass s

/-- With a pass in flight a reset is deferred (R83). -/
theorem undisturbed_resetOrDefer (rs : List DeferredReset) (s : State) : Undisturbed s (resetOrDefer rs s) := by
  intro sn hflight
  simp [resetOrDefer_of_flying rs hflight, hflight]

theorem undisturbed_changeAxle (a : Axle) (v : Supervisor) (s : State) : Undisturbed s (changeAxle a v s) := by
  simp only [changeAxle]
  split
  · exact (undisturbed_resetOrDefer _ _).of_same rfl rfl
  · exact undisturbed_of_eq rfl rfl

theorem undisturbed_tellEngine (old new : Mode) (s : State) : Undisturbed s (tellEngine old new s) := by
  cases new with
  | driving =>
    simp only [tellEngine]
    split
    · refine (undisturbed_resetOrDefer driveResets s).trans fun sn hflight => ?_
      simp_all
    · exact undisturbed_of_eq rfl rfl
  | fading => exact undisturbed_of_eq rfl rfl
  | supplyDown =>
    simp only [tellEngine]
    split <;> exact undisturbed_of_eq rfl rfl
  | start | dozing | supplyHalted | safe =>
    intro sn hflight
    rw [tellEngine_of_still old s rfl]
    simp [hflight]

theorem undisturbed_enterMode (new : Mode) (cause : SafeCause) (s : State) : Undisturbed s (enterMode new cause s) := by
  refine Undisturbed.trans ?_ (undisturbed_requestPassIf _ _)
  have htold := (undisturbed_of_eq (s := s) (u := writeMode new cause s) rfl rfl).trans
    (undisturbed_tellEngine s.modes.mode new _)
  exact htold.trans (undisturbed_of_eq (by simp) (by simp))

theorem undisturbed_writeContent (i : StreamId) (tow : Bool) (e : IntakeEntry) (s : State) :
    Undisturbed s (writeContent i tow e s) := by
  cases i with
  | frontStatus | rearStatus => exact (undisturbed_changeAxle _ _ _).of_same rfl rfl
  | demand | power | reference | stability | tow => exact undisturbed_of_eq (by simp [writeContent, setCaps]) (by simp [writeContent, setCaps])

theorem undisturbed_writeFallback (i : StreamId) (tow : Bool) (s : State) : Undisturbed s (writeFallback i tow s) := by
  cases i with
  | frontStatus | rearStatus => exact (undisturbed_changeAxle _ _ _).of_same rfl rfl
  | demand | power | reference | stability | tow => exact undisturbed_of_eq (by simp [writeFallback]) (by simp [writeFallback])

/-- No operation but those of a pass end and the warm restart disturbs a pass in flight. -/
theorem Act.undisturbed {c : Instr} {v w : State} (h : Act c v w) (hend : ∀ t, c ≠ .passEnd t) (hrestart : ¬ restartsAt c v) : Undisturbed v w := by
  cases h
  case count op hop =>
    obtain ⟨counters, heq⟩ := counterOps_eq hop v
    rw [heq]
    exact undisturbed_of_eq rfl rfl
  case enter => exact undisturbed_enterMode _ _ v
  case reset => exact undisturbed_resetOrDefer driveResets v
  case request => exact undisturbed_requestPass v
  case stopTimer =>
    intro sn hflight
    simp [stopPassTimer, hflight]
  case used => exact (undisturbed_writeContent _ _ _ _).of_same rfl rfl
  case lose_stream => exact (undisturbed_writeFallback _ _ _).of_same rfl rfl
  case restart hat => exact absurd hat hrestart
  case store hpass _ | countPass hpass | activate hpass | applyDeferred hpass | land hpass _ _ | pending hpass _ |
      command hpass _ =>
    obtain ⟨t, rfl⟩ := hpass
    exact absurd rfl (hend t)
  case acceptBlock => exact (undisturbed_enterMode _ _ _).of_same (by simp) (by simp)
  case failStart => exact (undisturbed_enterMode _ _ _).of_same rfl rfl
  all_goals exact undisturbed_of_eq (by simp) (by simp)

/-- The restore event moves no mode but that of a halted part. -/
theorem Act.mode_of_restoreEvent {t : Time} {v w : State} (h : Act (.restoreEvent t) v w)
    (hhalted : v.modes.mode ≠ .supplyHalted) : w.modes.mode ≠ .supplyHalted := by
  cases h
  case count op hop =>
    obtain ⟨counters, heq⟩ := counterOps_eq hop v
    rw [heq]
    exact hhalted
  case enter new cause henters =>
    obtain ⟨hmoves, hstart, hhalt, hdown, hcause⟩ := henters
    cases hmode : v.modes.mode <;> cases new <;> simp_all [commandMovesMode]
  case restart hat =>
    rcases hat with ⟨⟨t, hc⟩, -⟩ | ⟨-, hmode⟩
    · cases hc
    · exact absurd hmode hhalted
  case acceptBlock hread _ _ => obtain ⟨_, _, hc⟩ := hread; cases hc
  case failStart hread _ => obtain ⟨_, _, hc⟩ := hread; cases hc
  all_goals simpa

theorem afterEffect_undisturbed {c : Instr} (hc : c ≠ .powerOnReset) (hend : ∀ t, c ≠ .passEnd t) {s : State}
    (hrestart : ∀ t, c = .restoreEvent t → s.modes.mode ≠ .supplyHalted) : Undisturbed s (afterEffect c s) := by
  have hkept := afterEffect_keeps hc (s := s)
    (P := fun v => Undisturbed s v ∧ ∀ t, c = .restoreEvent t → v.modes.mode ≠ .supplyHalted)
    (fun v w hact ⟨hv, hmode⟩ => by
      refine ⟨hv.trans (hact.undisturbed hend ?_), fun t ht => ?_⟩
      · rintro (⟨⟨t, ht⟩, -⟩ | ⟨⟨t, ht⟩, hhalted⟩)
        · exact hend t ht
        · exact hmode t ht hhalted
      · subst ht
        exact hact.mode_of_restoreEvent (hmode t rfl))
    ⟨undisturbed_of_eq rfl rfl, hrestart⟩
  exact hkept.1

/-- Settles O59: every operation but the pass end's and the warm restart leaves a pass in flight undisturbed. -/
theorem aPassInFlightIsUndisturbed : Obligations.APassInFlightIsUndisturbed := by
  unfold Obligations.APassInFlightIsUndisturbed
  intro c s u sn hflight hexec hc hend hrestart
  rw [(exec_next_iff hc).1 hexec]
  simpa using afterEffect_undisturbed hc hend hrestart sn hflight

end Sys2Proof.Machine

namespace Sys2Proof.Machine

/-! The mode moves by the tables of chapter 8 alone (O57). -/

/-! ## One operation moves the mode by one row -/

/-- An operation keeps the mode and its cause, or moves the mode by a row of the command; while the parameter block is read the
part is in START. -/
theorem Act.mode {c : Instr} {v w : State} (h : Act c v w) (hstart : v.port.reading = true → v.modes.mode = .start) :
    (w.modes.mode = v.modes.mode ∧ w.modes.cause = v.modes.cause ∨ commandMovesMode c v.modes.mode w.modes.mode = true) ∧
      (w.port.reading = true → v.port.reading = true ∧ w.modes.mode = .start) := by
  cases h
  case count op hop =>
    obtain ⟨counters, heq⟩ := counterOps_eq hop v
    rw [heq]
    exact ⟨.inl ⟨rfl, rfl⟩, fun h => ⟨h, hstart h⟩⟩
  case enter new cause henters =>
    refine ⟨.inr (by simpa using henters.moves), fun h => ?_⟩
    exact absurd (hstart (by simpa using h)) henters.notStart
  case restart hat =>
    rcases hat with ⟨⟨t, rfl⟩, hmode, -⟩ | ⟨⟨t, rfl⟩, hmode⟩
    all_goals
      refine ⟨.inr (by simp [hmode, restartBlocks, commandMovesMode]), fun h => ?_⟩
      have hstarts := hstart (by simpa using h)
      rw [hmode] at hstarts
      cases hstarts
  case acceptBlock words hread hwords hreading =>
    obtain ⟨t, bytes, rfl⟩ := hread
    refine ⟨.inr ?_, fun h => ?_⟩
    · simp only [Machine.acceptBlock, enterMode_modes, hstart hreading]
      split <;> rfl
    · simp [Machine.acceptBlock, acceptTables, MemoryPort.endAttempt] at h
  case failStart hread hreading =>
    obtain ⟨t, bytes, rfl⟩ := hread
    refine ⟨.inr ?_, fun h => ?_⟩
    · simp only [Machine.failStart, enterMode_modes, hstart hreading]
      rfl
    · simp [Machine.failStart, MemoryPort.endAttempt] at h
  all_goals exact ⟨.inl (by simp), fun h => ⟨by simp_all, by simp_all⟩⟩

/-- Outside the decode no command has two rows that follow one another. -/
theorem commandMovesMode_once {c : Instr} (hdecode : ∀ t, c ≠ .decode t) {old mid new : Mode}
    (h : commandMovesMode c old mid = true) : commandMovesMode c mid new = false := by
  unfold commandMovesMode at h
  split at h
  case h_4 t | h_5 t | h_6 t => exact absurd rfl (hdecode t)
  case h_23 => cases h
  all_goals cases new <;> rfl

theorem commandMovesMode_safe (c : Instr) (new : Mode) : commandMovesMode c .safe new = false := by
  cases c with
  | filterTimerExpiry t l => cases l <;> rfl
  | _ => rfl

theorem afterEffect_mode {c : Instr} (hc : c ≠ .powerOnReset) (hdecode : ∀ t, c ≠ .decode t) {s : State}
    (hstart : s.port.reading = true → s.modes.mode = .start) :
    (afterEffect c s).modes.mode = s.modes.mode ∨
      commandMovesMode c s.modes.mode (afterEffect c s).modes.mode = true := by
  have hkept := afterEffect_keeps hc (s := s)
    (P := fun v => (v.port.reading = true → v.modes.mode = .start) ∧
      (v.modes.mode = s.modes.mode ∨ commandMovesMode c s.modes.mode v.modes.mode = true))
    (fun v w hact ⟨hv, hmode⟩ => by
      obtain ⟨hmoved, hreads⟩ := hact.mode hv
      refine ⟨fun h => (hreads h).2, ?_⟩
      rcases hmoved with ⟨hsame, -⟩ | hrow
      · rwa [hsame]
      · rcases hmode with hsame | hbefore
        · rw [hsame] at hrow
          exact .inr hrow
        · simp [commandMovesMode_once hdecode hbefore] at hrow)
    ⟨hstart, .inl rfl⟩
  exact hkept.2

/-- SAFE and its cause stand until the next power-on reset (R131). -/
theorem afterEffect_safe {c : Instr} (hc : c ≠ .powerOnReset) {s : State} (hsafe : s.modes.mode = .safe)
    (hreading : s.port.reading = false) :
    (afterEffect c s).modes.mode = .safe ∧ (afterEffect c s).modes.cause = s.modes.cause := by
  have hkept := afterEffect_keeps hc (s := s)
    (P := fun v => v.port.reading = false ∧ v.modes.mode = .safe ∧ v.modes.cause = s.modes.cause)
    (fun v w hact ⟨hv, hmode, hcause⟩ => by
      obtain ⟨hmoved, hreads⟩ := hact.mode (by simp [hv])
      rcases hmoved with ⟨hsame, hkept⟩ | hrow
      · exact ⟨Bool.eq_false_iff.2 fun h => by simp [hv] at hreads; simp [h] at hreads, hsame.trans hmode, hkept.trans hcause⟩
      · simp [hmode, commandMovesMode_safe] at hrow)
    ⟨hreading, hsafe, rfl⟩
  exact hkept.2

/-! ## A decode moves the mode once -/

theorem fadeCause_of_driving {s : State} (h : s.modes.mode = .driving) :
    fadeCause s = requestPass (writeMode .fading .none s) := by
  rw [fadeCause, if_pos h, enterMode_fading]

theorem fadeCause_of_other {s : State} (h : s.modes.mode ≠ .driving) : fadeCause s = s := if_neg h

theorem fadeCause_mode (s : State) :
    (fadeCause s).modes.mode = if s.modes.mode = .driving then .fading else s.modes.mode := by
  by_cases h : s.modes.mode = .driving
  · rw [fadeCause_of_driving h, if_pos h]
    simp [writeMode]
  · rw [fadeCause_of_other h, if_neg h]

theorem handAxleChange_mode (a : Axle) (old : AxleState) {s v : State} (hkept : v.modes = s.modes) :
    (handAxleChange a old v).modes.mode = s.modes.mode ∨
      s.modes.mode = .driving ∧ (handAxleChange a old v).modes.mode = .fading := by
  have hfade : (tellAxleChange v).modes.mode = v.modes.mode ∨
      v.modes.mode = .driving ∧ (tellAxleChange v).modes.mode = .fading := by
    unfold tellAxleChange
    split
    · rw [fadeCause_mode]
      split
      next h => exact .inr ⟨h, rfl⟩
      next => exact .inl rfl
    · exact .inl rfl
  rw [hkept] at hfade
  simp only [handAxleChange]
  split
  · exact .inl (by rw [hkept])
  · split <;> simpa using hfade

theorem useContent_mode (t : Time) (i : StreamId) (tow : Bool) (e : IntakeEntry) (s : State) :
    (useContent i tow e s).modes.mode = s.modes.mode ∨
      commandMovesMode (.decode t) s.modes.mode (useContent i tow e s).modes.mode = true := by
  have hfade {u : State} (h : u.modes.mode = s.modes.mode ∨ s.modes.mode = .driving ∧ u.modes.mode = .fading) :
      u.modes.mode = s.modes.mode ∨ commandMovesMode (.decode t) s.modes.mode u.modes.mode = true := by
    rcases h with h | ⟨hd, hf⟩
    · exact .inl h
    · rw [hd, hf]
      exact .inr rfl
  cases i with
  | demand =>
    simp only [useContent, useDemand, requestPass_frame, tellDemand]
    split
    · split
      next hwake =>
        simp only [mayWake, Bool.and_eq_true, Bool.or_eq_true, beq_iff_eq] at hwake
        rcases hwake.1.1.1 with h | h <;> simp [h, commandMovesMode]
      next => exact .inl rfl
    · refine hfade ?_
      rw [fadeCause_mode]
      split
      next h => exact .inr ⟨h, rfl⟩
      next => exact .inl rfl
  | frontStatus => exact hfade (handAxleChange_mode .front _ (by simp))
  | rearStatus => exact hfade (handAxleChange_mode .rear _ (by simp))
  | power | reference | stability | tow => exact .inl (by simp [useContent])

/-- An entry that moves the mode is a frame whose content is used, which leaves its stream FRESH. -/
theorem treatEntry_mode (t : Time) (e : IntakeEntry) (s : State) :
    (treatEntry e s).modes.mode = s.modes.mode ∨
      commandMovesMode (.decode t) s.modes.mode (treatEntry e s).modes.mode = true ∧
        ∃ i, e.role = .stream i ∧ ((treatEntry e s).streams.get i).state = .fresh := by
  unfold treatEntry
  split
  · exact .inl (by simp)
  · split
    · exact .inl (by simp)
    · unfold handEntry
      cases hrole : e.role with
      | query => exact .inl (by simp)
      | alertSeen => exact .inl (by simp)
      | stream i =>
        simp only [takeSupervised]
        split
        next hused =>
          rcases useContent_mode t i (currentTow (countClamp e s)) e
            (setStream i (((countClamp e s).streams.get i).afterFrame e (judgeFrame ((countClamp e s).streams.get i) e))
              (countClamp e s)) with h | h
          · exact .inl (by simpa using h)
          · refine .inr ⟨by simpa using h, i, rfl, ?_⟩
            have hused' : judgeFrame (s.streams.get i) e = .used := by simpa using hused
            simp [hused', setStream, StreamRecord.afterFrame, StreamRecord.afterUse]
        next => exact .inl (by simp)

theorem expireWindow_mode (i : StreamId) (d : Time) (s : State) :
    (expireWindow i d s).modes.mode = s.modes.mode ∨
      (s.streams.get i).state = .late ∧ s.modes.mode = .driving ∧ (expireWindow i d s).modes.mode = .fading := by
  simp only [expireWindow]
  split
  next hlate =>
    simp only [hlate, true_and]
    cases i with
    | demand =>
      simp only [enterLost, takeTrigger_frame, fadeCause_mode]
      split
      next h => exact .inr ⟨h, rfl⟩
      next => exact .inl rfl
    | frontStatus => exact handAxleChange_mode .front _ (by simp)
    | rearStatus => exact handAxleChange_mode .rear _ (by simp)
    | power | reference | stability | tow => exact .inl (by simp [enterLost])
  next => exact .inl (by simp)

/-- A window that closes at the end of a decode moves the mode only for a stream that is not FRESH. -/
theorem closeWindow_mode (e : IntakeEntry) (before s : State) :
    (closeWindow e before s).modes.mode = s.modes.mode ∨
      (∃ i, e.role = .stream i ∧ (s.streams.get i).state = .late) ∧ s.modes.mode = .driving ∧
        (closeWindow e before s).modes.mode = .fading := by
  unfold closeWindow
  split
  next i hrole =>
    split
    · exact .inl rfl
    · split
      · rcases expireWindow_mode i _ s with h | ⟨hlate, hmodes⟩
        · exact .inl h
        · exact .inr ⟨⟨i, hrole, hlate⟩, hmodes⟩
      · exact .inl rfl
  · exact .inl rfl
  · exact .inl rfl

theorem decodeHead_mode (t : Time) (s : State) :
    (decodeHead s).modes.mode = s.modes.mode ∨
      commandMovesMode (.decode t) s.modes.mode (decodeHead s).modes.mode = true := by
  unfold decodeHead
  split
  · exact .inl rfl
  next e rest _ =>
    rcases closeWindow_mode e s (closeHolds e (treatEntry e { s with intake := rest })) with hclose | ⟨⟨i, hrole, hlate⟩, hdriving, hfading⟩
    · rw [hclose]
      rcases treatEntry_mode t e { s with intake := rest } with htreat | ⟨hrow, -⟩
      · exact .inl (by simpa using htreat)
      · exact .inr (by simpa using hrow)
    · rcases treatEntry_mode t e { s with intake := rest } with htreat | ⟨-, j, hrole', hfresh⟩
      · have : s.modes.mode = .driving := by simpa [htreat] using hdriving
        rw [hfading, this]
        exact .inr rfl
      · cases hrole.symm.trans hrole'
        simp [hfresh] at hlate

/-- Settles O57: one row for each operation, and no command but a decode has rows that follow one another. -/
theorem modesMoveByTheirTablesAlone : Obligations.ModesMoveByTheirTablesAlone := by
  unfold Obligations.ModesMoveByTheirTablesAlone
  intro c s u hsound hc hexec
  rw [(exec_next_iff hc).1 hexec]
  simp only [settle_frame]
  refine ⟨?_, afterEffect_safe hc⟩
  by_cases hdecode : ∃ t, c = .decode t
  · obtain ⟨t, rfl⟩ := hdecode
    exact decodeHead_mode t { s with now := t }
  · exact afterEffect_mode hc (fun t ht => hdecode ⟨t, ht⟩) fun h => (hsound h).1

end Sys2Proof.Machine

namespace Sys2Proof.Machine

/-! No command for torque is placed in a mode that runs no pass (O58). -/

/-! ## What the link controller carries -/

/-- Each frame for torque that `u` carries, `s` carried. -/
def TorqueFrom (s u : LinkController) : Prop := ∀ f, f.asksTorque = true → u.carries f → s.carries f

theorem TorqueFrom.refl (l : LinkController) : TorqueFrom l l := fun _ _ h => h

theorem TorqueFrom.trans {s v u : LinkController} (h₁ : TorqueFrom s v) (h₂ : TorqueFrom v u) : TorqueFrom s u :=
  fun f hf h => h₁ f hf (h₂ f hf h)

/-- Every frame of `u` stood in the same place at `s`, or asks for no torque. -/
theorem TorqueFrom.of_places {s u : LinkController}
    (hmail : ∀ k f, u.mailboxes.get k = some f → f.asksTorque = true → s.mailboxes.get k = some f)
    (htransmit : u.transmitting = s.transmitting ∨ u.transmitting = none) : TorqueFrom s u := by
  rintro f hf (⟨k, hk⟩ | ht)
  · exact .inl ⟨k, hmail k f hk hf⟩
  · rcases htransmit with h | h
    · exact .inr (h ▸ ht)
    · rw [h] at ht
      cases ht

theorem torqueFrom_of_same {s u : LinkController} (hmail : u.mailboxes = s.mailboxes)
    (htransmit : u.transmitting = s.transmitting) : TorqueFrom s u :=
  .of_places (fun _ _ h _ => hmail ▸ h) (.inl htransmit)

theorem torqueFrom_of_noMail {s u : LinkController} (hmail : u.mailboxes = noMail)
    (htransmit : u.transmitting = s.transmitting ∨ u.transmitting = none) : TorqueFrom s u := by
  refine .of_places (fun k f h _ => ?_) htransmit
  rw [hmail] at h
  cases k <;> cases h

theorem torqueFrom_placeFrame (entering : Bool) {f : OutFrame} (h : f.asksTorque = false) (s : State) :
    TorqueFrom s.link (placeFrame entering f s).link := by
  rw [placeFrame_link]
  split
  · exact .refl _
  · refine .of_places (fun k g hg hasks => ?_) (.inl rfl)
    rw [PerKind.get_set] at hg
    split at hg
    · cases hg
      simp [h] at hasks
    · exact hg

theorem torqueFrom_sendReply (r : Reply) (s : State) : TorqueFrom s.link (sendReply r s).link := by
  unfold sendReply
  split
  · exact .refl _
  · split
    · exact .refl _
    next body rest _ hrefused =>
      have htaken := torqueFrom_placeFrame false (f := replyFrame s r body) rfl
        { s with report.query := { busy := some r, refused := 0 }, draws := s.draws + 1 }
      unfold placeFrame at htaken
      split at htaken
      next h => exact absurd h hrefused
      next => exact htaken

theorem torqueFrom_startLowest (s : State) : TorqueFrom s.link (startLowest s).link := by
  unfold startLowest
  split
  · exact .refl _
  · split
    · exact .refl _
    next k _ =>
      rintro f - (⟨j, hj⟩ | ht)
      · simp only [setMailbox, PerKind.get_set] at hj
        split at hj
        · cases hj
        · exact .inl ⟨j, hj⟩
      · exact .inl ⟨k, ht⟩

theorem torqueFrom_endQuietPhase (s : State) : TorqueFrom s.link (endQuietPhase s).link := by
  rw [endQuietPhase_link]
  split
  · exact torqueFrom_of_noMail rfl (.inl rfl)
  · exact .refl _

theorem returnFrame_link (f : OutFrame) (s : State) :
    (returnFrame f s).link =
      if (s.link.mailboxes.get f.kind).isSome then s.link
      else { s.link with mailboxes := s.link.mailboxes.set f.kind (some f) } := by
  unfold returnFrame
  split <;> simp [setMailbox]

/-- The frame that returns was in transmission. -/
theorem torqueFrom_returnFrame {f : OutFrame} {l : LinkController} {s : State} (hf : l.transmitting = some f)
    (hmail : s.link.mailboxes = l.mailboxes) (htransmit : s.link.transmitting = none) :
    TorqueFrom l (returnFrame f s).link := by
  rw [returnFrame_link]
  split
  · exact .of_places (fun k g hg _ => hmail ▸ hg) (.inr htransmit)
  · rintro g - (⟨k, hk⟩ | ht)
    · rw [PerKind.get_set, hmail] at hk
      split at hk
      · exact .inr (hf.trans hk)
      · exact .inl ⟨k, hk⟩
    · rw [htransmit] at ht
      cases ht

theorem torqueFrom_enterMuted (s : State) : TorqueFrom s.link (enterMuted s).link := by
  refine torqueFrom_of_noMail rfl (.inl ?_)
  simp only [enterMuted]
  split <;> rfl

theorem torqueFrom_moveCleanRun (f : WireFrame) (s : State) : TorqueFrom s.link (moveCleanRun f s).link := by
  have hlengthen : TorqueFrom s.link (lengthenRun s).link := by
    unfold lengthenRun leaveMuted
    split
    · split
      · exact torqueFrom_of_noMail rfl (.inl rfl)
      · exact .refl _
    · exact .refl _
  unfold moveCleanRun
  split
  · split
    · exact hlengthen
    · split <;> exact .refl _
  · exact .refl _

theorem torqueFrom_enterMode (new : Mode) (cause : SafeCause) (s : State) :
    TorqueFrom s.link (enterMode new cause s).link := by
  rw [enterMode_link]
  split
  · exact .refl _
  · split
    · exact torqueFrom_of_same rfl rfl
    · exact .refl _

/-- Outside the pass end of a mode that runs passes no operation places a command for torque. -/
theorem Act.torqueFrom {c : Instr} {v w : State} (h : Act c v w) (hstill : (∃ t, c = .passEnd t) → v.modes.mode.runsPasses = false) :
    TorqueFrom v.link w.link := by
  cases h
  case count op hop =>
    obtain ⟨counters, heq⟩ := counterOps_eq hop v
    rw [heq]
    exact .refl _
  case reply => exact torqueFrom_sendReply _ v
  case statusTimer =>
    unfold expireStatusTimer
    split
    · exact .refl _
    · split
      · exact torqueFrom_placeFrame _ rfl (numberStatus _)
      · exact .refl _
  case splitReport => exact torqueFrom_placeFrame _ rfl _
  case command hpass hruns => simp [hstill hpass] at hruns
  case offer => exact torqueFrom_startLowest v
  case watch => exact torqueFrom_of_same rfl rfl
  case endQuiet => exact torqueFrom_endQuietPhase v
  case lose f hf => exact torqueFrom_returnFrame hf rfl rfl
  case abort f hf => exact torqueFrom_returnFrame hf rfl rfl
  case complete => exact .of_places (fun _ _ hg _ => hg) (.inr rfl)
  case mute => exact torqueFrom_enterMuted v
  case cleanRun => exact torqueFrom_moveCleanRun _ v
  case invalid =>
    simp only [discardInvalid]
    split <;> exact .refl _
  case enter => exact torqueFrom_enterMode _ _ v
  case restart =>
    rw [restartReport_link]
    exact torqueFrom_of_noMail (by simp [restartLink, leaveListen]) (.inr (by simp [restartLink, leaveListen]))
  case acceptBlock words _ _ _ =>
    exact (torqueFrom_of_same rfl rfl).trans
      (torqueFrom_enterMode _ _ (acceptLink (blockParams words) (acceptTables (blockParams words) v)))
  case failStart =>
    unfold Machine.failStart
    refine TorqueFrom.trans ?_ (torqueFrom_enterMode _ _ _)
    exact torqueFrom_of_same rfl rfl
  all_goals exact torqueFrom_of_same (by simp) (by simp)

/-- A pass end in a mode without passes moves no mode. -/
theorem Act.still_of_passEnd {t : Time} {v w : State} (h : Act (.passEnd t) v w) (hstill : v.modes.mode.runsPasses = false) :
    w.modes.mode = v.modes.mode := by
  cases h
  case count op hop =>
    obtain ⟨counters, heq⟩ := counterOps_eq hop v
    rw [heq]
  case enter new cause henters =>
    have hmoves := henters.moves
    cases hmode : v.modes.mode with
    | driving | fading | supplyDown => simp [hmode, Mode.runsPasses] at hstill
    | start | dozing | supplyHalted | safe => rw [hmode] at hmoves; cases new <;> cases hmoves
  case restart hat =>
    rcases hat with ⟨-, hmode, -⟩ | ⟨⟨t, hc⟩, -⟩
    · simp [hmode, Mode.runsPasses] at hstill
    · cases hc
  case acceptBlock hread _ _ => obtain ⟨_, _, hc⟩ := hread; cases hc
  case failStart hread _ => obtain ⟨_, _, hc⟩ := hread; cases hc
  all_goals simp

theorem afterEffect_torqueFrom {c : Instr} (hc : c ≠ .powerOnReset) {s : State} (hstill : s.modes.mode.runsPasses = false) :
    TorqueFrom s.link (afterEffect c s).link := by
  have hkept := afterEffect_keeps hc (s := s)
    (P := fun v => TorqueFrom s.link v.link ∧ ((∃ t, c = .passEnd t) → v.modes.mode.runsPasses = false))
    (fun v w hact ⟨hv, hmode⟩ => by
      refine ⟨hv.trans (hact.torqueFrom hmode), fun hpass => ?_⟩
      have hv := hmode hpass
      obtain ⟨t, rfl⟩ := hpass
      rwa [hact.still_of_passEnd hv])
    ⟨.refl _, fun _ => hstill⟩
  exact hkept.1

/-- The report unit places no AXLE COMMAND. -/
theorem settle_torqueFrom (before s : State) : TorqueFrom s.link (settle before s).link := by
  have hleading (e : Bool) : TorqueFrom s.link (findLeading e before (weighAlerts before s)).link := by
    simp only [findLeading]
    repeat' split
    · exact .refl _
    · exact .refl _
    · exact (TorqueFrom.refl _).trans (torqueFrom_placeFrame e rfl _)
  have hsettled : TorqueFrom s.link (alertsSettled before s).link := hleading _
  have hchanges (e : Bool) : TorqueFrom s.link (reportChanges e before (alertsSettled before s)).link := by
    refine hsettled.trans ?_
    rw [reportChanges_eq]
    split
    · exact torqueFrom_placeFrame e rfl (numberStatus _)
    · exact .refl _
  rw [settle_eq]
  split
  · exact (hchanges true).trans (torqueFrom_endQuietPhase _)
  · exact hchanges false

/-- Settles O58: only a pass end of a mode that runs passes places an AXLE COMMAND. -/
theorem noTorqueIsCommandedOutsideDrive : Obligations.NoTorqueIsCommandedOutsideDrive := by
  unfold Obligations.NoTorqueIsCommandedOutsideDrive
  intro c s u f hexec hstill hasks hcarried
  by_cases hc : c = .powerOnReset
  · subst hc
    cases hexec
    rcases hcarried with ⟨k, hk⟩ | ht
    · cases k <;> cases hk
    · cases ht
  · rw [(exec_next_iff hc).1 hexec] at hcarried
    exact (afterEffect_torqueFrom hc hstill).trans (settle_torqueFrom _ _) f hasks hcarried

end Sys2Proof.Machine

namespace Sys2Proof.Machine

/-! Every step keeps the control of the part sound (O52). -/

/-! ## START and the memory port (R165) -/

/-- A STATUS that is placed or delivered changes no stream state. -/
@[simp] theorem placeStatus_stream_state (entering : Bool) (s : State) (i : StreamId) :
    ((placeStatus entering s).streams.get i).state = (s.streams.get i).state := by
  rw [placeStatus_streams]
  simp

@[simp] theorem expireStatusTimer_stream_state (s : State) (i : StreamId) :
    ((expireStatusTimer s).streams.get i).state = (s.streams.get i).state := by
  unfold expireStatusTimer
  split
  · rfl
  · split <;> simp

theorem statusDelivered_streams (q : BitVec 32) (s : State) :
    (statusDelivered q s).streams = s.streams.map fun r => { r with flag := r.flag.delivered q } := by
  unfold statusDelivered
  split
  · rfl
  · split <;> rfl

@[simp] theorem statusDelivered_stream_state (q : BitVec 32) (s : State) (i : StreamId) :
    ((statusDelivered q s).streams.get i).state = (s.streams.get i).state := by
  rw [statusDelivered_streams]
  simp

@[simp] theorem commandDelivered_axle_state (a b : Axle) (e : DelayEntry) (s : State) :
    ((commandDelivered a e s).axles.get b).state = (s.axles.get b).state := by
  simp only [commandDelivered, setSupervisor, PerAxle.get_set]
  split
  next h => rw [h]
  next => rfl

theorem lengthenRun_quiet (s : State) : (lengthenRun s).link.quiet = true → s.link.quiet = true := by
  unfold lengthenRun leaveMuted
  split
  · split
    · exact nofun
    · exact id
  · exact id

theorem moveCleanRun_quiet (f : WireFrame) (s : State) : (moveCleanRun f s).link.quiet = true → s.link.quiet = true := by
  unfold moveCleanRun
  split
  · split
    · exact lengthenRun_quiet s
    · split <;> exact id
  · exact id

theorem endQuietPhase_quiet (s : State) : (endQuietPhase s).link.quiet = true → s.link.quiet = true := by
  rw [endQuietPhase_link]
  split
  · exact nofun
  · exact id

/-! ## The link controller, field by field -/

@[simp] theorem placeFrame_link_frame (entering : Bool) (f : OutFrame) (s : State) :
    (placeFrame entering f s).link.quiet = s.link.quiet ∧ (placeFrame entering f s).link.state = s.link.state ∧
    (placeFrame entering f s).link.bus = s.link.bus ∧ (placeFrame entering f s).link.echoCount = s.link.echoCount ∧
    (placeFrame entering f s).link.cleanRun = s.link.cleanRun ∧
    (placeFrame entering f s).link.transmitting = s.link.transmitting ∧
    (placeFrame entering f s).link.conflicts = s.link.conflicts ∧
    (placeFrame entering f s).link.identity = s.link.identity := by
  rw [placeFrame_link]
  split <;> simp

@[simp] theorem placeStatus_link_frame (entering : Bool) (s : State) :
    (placeStatus entering s).link.quiet = s.link.quiet ∧ (placeStatus entering s).link.state = s.link.state ∧
    (placeStatus entering s).link.bus = s.link.bus ∧ (placeStatus entering s).link.echoCount = s.link.echoCount ∧
    (placeStatus entering s).link.cleanRun = s.link.cleanRun ∧
    (placeStatus entering s).link.transmitting = s.link.transmitting ∧
    (placeStatus entering s).link.conflicts = s.link.conflicts ∧
    (placeStatus entering s).link.identity = s.link.identity := by
  simp [placeStatus]

@[simp] theorem expireStatusTimer_link_frame (s : State) :
    (expireStatusTimer s).link.quiet = s.link.quiet ∧ (expireStatusTimer s).link.state = s.link.state ∧
    (expireStatusTimer s).link.bus = s.link.bus ∧ (expireStatusTimer s).link.echoCount = s.link.echoCount ∧
    (expireStatusTimer s).link.cleanRun = s.link.cleanRun ∧
    (expireStatusTimer s).link.transmitting = s.link.transmitting ∧
    (expireStatusTimer s).link.conflicts = s.link.conflicts ∧
    (expireStatusTimer s).link.identity = s.link.identity := by
  unfold expireStatusTimer
  split
  · simp
  · split <;> simp

@[simp] theorem takePlacement_link (f : OutFrame) (s : State) :
    (takePlacement f s).link = { s.link with mailboxes := s.link.mailboxes.set f.kind (some f) } := by
  unfold takePlacement
  split <;> simp [setMailbox]

@[simp] theorem sendReply_link_frame (r : Reply) (s : State) :
    (sendReply r s).link.quiet = s.link.quiet ∧ (sendReply r s).link.state = s.link.state ∧
    (sendReply r s).link.bus = s.link.bus ∧ (sendReply r s).link.echoCount = s.link.echoCount ∧
    (sendReply r s).link.cleanRun = s.link.cleanRun ∧ (sendReply r s).link.transmitting = s.link.transmitting ∧
    (sendReply r s).link.conflicts = s.link.conflicts ∧ (sendReply r s).link.identity = s.link.identity := by
  unfold sendReply
  split
  · simp
  · split <;> simp

@[simp] theorem placeCommand_link_frame (a : Axle) (tenths : Int) (code : StateCode) (bound enable : Bool) (s : State) :
    (placeCommand a tenths code bound enable s).link.quiet = s.link.quiet ∧
    (placeCommand a tenths code bound enable s).link.state = s.link.state ∧
    (placeCommand a tenths code bound enable s).link.bus = s.link.bus ∧
    (placeCommand a tenths code bound enable s).link.echoCount = s.link.echoCount ∧
    (placeCommand a tenths code bound enable s).link.cleanRun = s.link.cleanRun ∧
    (placeCommand a tenths code bound enable s).link.transmitting = s.link.transmitting ∧
    (placeCommand a tenths code bound enable s).link.conflicts = s.link.conflicts ∧
    (placeCommand a tenths code bound enable s).link.identity = s.link.identity := by
  simp [placeCommand]

@[simp] theorem placeReport_link_frame (out : PassOut) (s : State) :
    (placeReport out s).link.quiet = s.link.quiet ∧ (placeReport out s).link.state = s.link.state ∧
    (placeReport out s).link.bus = s.link.bus ∧ (placeReport out s).link.echoCount = s.link.echoCount ∧
    (placeReport out s).link.cleanRun = s.link.cleanRun ∧
    (placeReport out s).link.transmitting = s.link.transmitting ∧
    (placeReport out s).link.conflicts = s.link.conflicts ∧ (placeReport out s).link.identity = s.link.identity := by
  simp [placeReport]

@[simp] theorem watchBus_link (levels : List BusLevel) (s : State) :
    (watchBus levels s).link = { s.link with bus := s.link.bus.reads levels } := rfl

@[simp] theorem returnFrame_link_frame (f : OutFrame) (s : State) :
    (returnFrame f s).link.quiet = s.link.quiet ∧ (returnFrame f s).link.state = s.link.state ∧
    (returnFrame f s).link.bus = s.link.bus ∧ (returnFrame f s).link.echoCount = s.link.echoCount ∧
    (returnFrame f s).link.cleanRun = s.link.cleanRun ∧ (returnFrame f s).link.transmitting = s.link.transmitting ∧
    (returnFrame f s).link.conflicts = s.link.conflicts ∧ (returnFrame f s).link.identity = s.link.identity := by
  rw [returnFrame_link]
  split <;> simp

@[simp] theorem abortFrame_link_frame (f : OutFrame) (s : State) :
    (abortFrame f s).link.quiet = s.link.quiet ∧ (abortFrame f s).link.state = s.link.state ∧
    (abortFrame f s).link.bus = s.link.busReleased ∧
    (abortFrame f s).link.echoCount = saturatingUp s.link.echoCount Config.echoLimit ∧
    (abortFrame f s).link.cleanRun = s.link.cleanRun ∧ (abortFrame f s).link.transmitting = none ∧
    (abortFrame f s).link.conflicts = s.link.conflicts ∧ (abortFrame f s).link.identity = s.link.identity := by
  simp [abortFrame]

@[simp] theorem startLowest_link_frame (s : State) :
    (startLowest s).link.quiet = s.link.quiet ∧ (startLowest s).link.state = s.link.state ∧
    (startLowest s).link.echoCount = s.link.echoCount ∧ (startLowest s).link.cleanRun = s.link.cleanRun ∧
    (startLowest s).link.conflicts = s.link.conflicts ∧ (startLowest s).link.identity = s.link.identity := by
  unfold startLowest
  split
  · simp
  · split <;> simp [setMailbox]

@[simp] theorem endQuietPhase_link_frame (s : State) :
    (endQuietPhase s).link.bus = s.link.bus ∧ (endQuietPhase s).link.echoCount = s.link.echoCount ∧
    (endQuietPhase s).link.cleanRun = s.link.cleanRun ∧ (endQuietPhase s).link.transmitting = s.link.transmitting ∧
    (endQuietPhase s).link.conflicts = s.link.conflicts ∧ (endQuietPhase s).link.identity = s.link.identity := by
  rw [endQuietPhase_link]
  split <;> simp

theorem enterMuted_link (s : State) :
    (enterMuted s).link = { s.link with state := .muted, mailboxes := noMail, cleanRun := 0 } := by
  simp only [enterMuted]
  split <;> simp

@[simp] theorem discardInvalid_link_frame (s : State) :
    (discardInvalid s).link.quiet = s.link.quiet ∧ (discardInvalid s).link.state = s.link.state ∧
    (discardInvalid s).link.bus = s.link.bus ∧ (discardInvalid s).link.echoCount = s.link.echoCount ∧
    (discardInvalid s).link.mailboxes = s.link.mailboxes ∧
    (discardInvalid s).link.transmitting = s.link.transmitting ∧
    (discardInvalid s).link.conflicts = s.link.conflicts ∧ (discardInvalid s).link.identity = s.link.identity := by
  simp only [discardInvalid]
  split <;> simp

@[simp] theorem moveCleanRun_link_frame (f : WireFrame) (s : State) :
    (moveCleanRun f s).link.bus = s.link.bus ∧ (moveCleanRun f s).link.transmitting = s.link.transmitting ∧
    (moveCleanRun f s).link.conflicts = s.link.conflicts ∧ (moveCleanRun f s).link.identity = s.link.identity := by
  unfold moveCleanRun lengthenRun leaveMuted
  repeat' split
  all_goals simp

/-- An event that sets no quiet mark of its own leaves the mark and the state of the link; one that sets it may end the phase. -/
theorem settle_link_state (before s : State) :
    (settle before s).link.quiet = s.link.quiet ∧ (settle before s).link.state = s.link.state ∨
      s.link.quiet = true ∧ (settle before s).link.quiet = false ∧ (settle before s).link.state = .listen := by
  cases h : marksQuiet before s
  · obtain ⟨hlink, -⟩ := settle_sameLink h
    exact .inl ⟨by rw [hlink], by rw [hlink]⟩
  · obtain ⟨v, hv, -, -, hlink⟩ := settle_link_of_marksQuiet h
    have hquiet : s.link.quiet = true := by simp_all [marksQuiet]
    rw [hlink]
    split
    · exact .inr ⟨hquiet, rfl, rfl⟩
    · exact .inl ⟨by rw [hv.1], by rw [hv.1]⟩

/-- Nothing that START rests on has changed. -/
theorem State.StartSound.of_same {s u : State} (hs : s.StartSound) (hport : u.port = s.port) (hmodes : u.modes = s.modes)
    (hparams : u.params = s.params) (hrecognition : u.recognition = s.recognition) (hintake : u.intake = s.intake)
    (hquiet : u.link.quiet = true → s.link.quiet = true)
    (haxles : ∀ a, (u.axles.get a).state = (s.axles.get a).state)
    (hstates : ∀ i, (u.streams.get i).state = (s.streams.get i).state) : u.StartSound := by
  intro hreading
  obtain ⟨hmode, hnone, hempty, hidle, hloud, hfront, hrear, hunheard⟩ := hs (hport ▸ hreading)
  refine ⟨hmodes ▸ hmode, hparams ▸ hnone, hrecognition ▸ hempty, hintake ▸ hidle, ?_, (haxles .front).trans hfront,
    (haxles .rear).trans hrear, fun i => (hstates i).trans (hunheard i)⟩
  exact Bool.eq_false_iff.2 fun h => by simp [hquiet h] at hloud

/-- Outside a decode every operation keeps what holds while the parameter block is read. -/
theorem Act.startSound {c : Instr} {v w : State} (h : Act c v w) (hdecode : ∀ t, c ≠ .decode t) (hv : v.StartSound) :
    w.StartSound := by
  have hnot {p : Prop} (hd : ∃ t, c = .decode t) : p := by
    obtain ⟨t, ht⟩ := hd
    exact absurd ht (hdecode t)
  cases h
  case count op hop =>
    obtain ⟨counters, heq⟩ := counterOps_eq hop v
    rw [heq]
    exact hv
  case pop hd _ => exact hnot hd
  case malformed hd => exact hnot hd
  case unused hd _ => exact hnot hd
  case used hd _ _ => exact hnot hd
  case endQuiet =>
    exact hv.of_same (by simp) (by simp) (by simp) (by simp) (by simp) (endQuietPhase_quiet v) (by simp) (by simp)
  case cleanRun f =>
    exact hv.of_same (by simp) (by simp) (by simp) (by simp) (by simp) (moveCleanRun_quiet f v) (by simp) (by simp)
  case queue f =>
    intro hreading
    have hsound := hv (by simpa using hreading)
    have ⟨_, _, hrecognition, _⟩ := hsound
    simpa [admitFrame, recognise, hrecognition] using hsound
  case mute =>
    exact hv.of_same (by simp) (by simp) (by simp) (by simp) (by simp) (by simp [enterMuted_link]) (by simp) (by simp)
  case keepRestore hmode =>
    intro hreading
    have hstart := (hv hreading).1
    rw [hmode] at hstart
    cases hstart
  case enter new cause henters =>
    intro hreading
    exact absurd (hv (by simpa using hreading)).1 henters.notStart
  case restart hat =>
    intro hreading
    have hstart := (hv (by simpa using hreading)).1
    rcases hat with ⟨-, hmode, -⟩ | ⟨-, hmode⟩ <;> simp [hmode] at hstart
  case activate a hpass =>
    intro hreading
    have hsound := hv (by simpa using hreading)
    have hkept : activateAxle a v = v := by
      have ⟨hmode, _⟩ := hsound
      simp [activateAxle, hmode]
    rwa [hkept]
  case expire i d hd hstate =>
    intro hreading
    have hsound := hv (by simpa using hreading)
    have ⟨_, _, _, _, _, _, _, hstates⟩ := hsound
    have hkept : setStream i ((v.streams.get i).expired d) v = v := by
      rw [StreamRecord.expired, hstates i]
      exact setStream_get_self i v
    rwa [hkept]
  case lose_stream i d hd hlate =>
    intro hreading
    obtain ⟨-, -, -, -, -, -, -, hstates⟩ := hv (by simpa using hreading)
    simp [hstates i] at hlate
  case reread hread hreading hfew =>
    intro _
    exact hv hreading
  case acceptBlock =>
    intro hreading
    simp [Machine.acceptBlock, acceptTables, MemoryPort.endAttempt] at hreading
  case failStart =>
    intro hreading
    simp [Machine.failStart, MemoryPort.endAttempt] at hreading
  all_goals exact hv.of_same (by simp) (by simp) (by simp) (by simp) (by simp) (by simp) (by simp) (by simp)

theorem decodeHead_of_empty {s : State} (h : s.intake = []) : decodeHead s = s := by
  simp only [decodeHead, h]

/-- Every event keeps what holds while the parameter block is read: no entry waits, so a decode does nothing. -/
theorem afterEffect_startSound {c : Instr} (hc : c ≠ .powerOnReset) {s : State} (hs : s.StartSound) :
    (afterEffect c s).StartSound := by
  by_cases hdecode : ∃ t, c = .decode t
  · obtain ⟨t, rfl⟩ := hdecode
    intro hreading
    have hsound := hs (by simpa [afterEffect, commandEffect] using hreading)
    have ⟨_, _, _, hintake, _⟩ := hsound
    rw [afterEffect, commandEffect, decodeHead_of_empty (by exact hintake)]
    exact hsound
  · exact afterEffect_keeps hc (fun v w hact hv => hact.startSound (fun t ht => hdecode ⟨t, ht⟩) hv) hs

theorem settle_startSound (before : State) {s : State} (hs : s.StartSound) : (settle before s).StartSound := by
  refine hs.of_same (by simp) (by simp) (by simp) (by simp) (by simp) (fun h => ?_) (by simp) (by simp)
  rcases settle_link_state before s with ⟨hquiet, -⟩ | ⟨hquiet, -⟩
  · rwa [hquiet] at h
  · exact hquiet

/-! ## The SAFE cause and the restore-pending flag (R131) -/

theorem Act.modeSound {c : Instr} {v w : State} (h : Act c v w)
    (hstart : (∃ t bytes, c = .readAttemptEnd t bytes) → v.StartSound) (hv : v.ModeSound) : w.ModeSound := by
  obtain ⟨hcause, hrestore⟩ := hv
  cases h
  case count op hop =>
    obtain ⟨counters, heq⟩ := counterOps_eq hop v
    rw [heq]
    exact ⟨hcause, hrestore⟩
  case enter new cause henters =>
    simp only [State.ModeSound, enterMode_modes]
    refine ⟨henters.causeOfSafe, fun hpending => ?_⟩
    obtain ⟨hpending, hnew⟩ := Bool.and_eq_true_iff.1 hpending
    rcases henters.fromSupplyDown (hrestore hpending) with hsafe | ⟨hnone, -⟩
    · simp [hsafe] at hnew
    · simp [hnone] at hpending
  case restart => simp [State.ModeSound, restartBlocks]
  case keepRestore hmode => exact ⟨hcause, fun _ => hmode⟩
  case acceptBlock words hread hwords hreading =>
    have hmode := (hstart hread hreading).1
    have hpending : v.modes.restorePending = false := Bool.eq_false_iff.2 fun h => by simp [hrestore h] at hmode
    simp [State.ModeSound, Machine.acceptBlock, hpending]
  case failStart => simp [State.ModeSound, Machine.failStart]
  all_goals exact ⟨by simpa using hcause, by simpa using hrestore⟩

/-! ## The quiet mark and LISTEN (R158, R159) -/

/-- The mark and LISTEN stand in the modes that R158 and R159 name. -/
theorem State.LinkSound.of_same {s u : State} (hs : s.LinkSound) (hmode : u.modes.mode = s.modes.mode)
    (hquiet : u.link.quiet = true → s.link.quiet = true)
    (hlisten : u.link.state = .listen → s.link.state = .listen ∨ s.link.quiet = true) : u.LinkSound := by
  obtain ⟨hhalted, hsilent⟩ := hs
  refine ⟨fun h => hmode ▸ hhalted (hquiet h), fun h => hmode ▸ ?_⟩
  rcases hlisten h with h | h
  · exact hsilent h
  · exact .inr (hhalted h)

theorem moveCleanRun_listen (f : WireFrame) (s : State) (h : (moveCleanRun f s).link.state = .listen) :
    s.link.state = .listen ∨ s.link.quiet = true := by
  unfold moveCleanRun lengthenRun leaveMuted at h
  by_cases hquiet : s.link.quiet = true
  · exact .inr hquiet
  · left
    simp only [hquiet, if_false, Bool.false_eq_true] at h
    repeat' split at h
    all_goals simp_all

theorem endQuietPhase_listen (s : State) (h : (endQuietPhase s).link.state = .listen) :
    s.link.state = .listen ∨ s.link.quiet = true := by
  rw [endQuietPhase_link] at h
  split at h
  next hover =>
    simp only [quietPhaseOver, Bool.and_eq_true] at hover
    exact .inr hover.1.1.1
  next => exact .inl h

theorem Act.linkSound {c : Instr} {v w : State} (h : Act c v w)
    (hstart : (∃ t bytes, c = .readAttemptEnd t bytes) → v.StartSound) (hv : v.LinkSound) : w.LinkSound := by
  cases h
  case count op hop =>
    obtain ⟨counters, heq⟩ := counterOps_eq hop v
    rw [heq]
    exact hv
  case endQuiet => exact hv.of_same (by simp) (endQuietPhase_quiet v) (endQuietPhase_listen v)
  case cleanRun f => exact hv.of_same (by simp) (moveCleanRun_quiet f v) (moveCleanRun_listen f v)
  case mute => exact hv.of_same (by simp) (by simp [enterMuted_link]) (by simp [enterMuted_link])
  case enter new cause henters =>
    obtain ⟨hhalted, hsilent⟩ := hv
    simp only [State.LinkSound, enterMode_modes, enterMode_link]
    by_cases hnew : new = .supplyHalted
    · simp [hnew]
    · by_cases hmode : v.modes.mode = .supplyHalted
      · have hsafe := henters.fromHalted hmode
        refine ⟨by simp [hsafe, hmode, leaveListen], fun h => ?_⟩
        simp [hsafe, hmode, leaveListen] at h
        split at h
        · cases h
        next hlisten => exact absurd h hlisten
      · simp only [hnew, hmode, and_false, if_false]
        refine ⟨fun h => absurd (hhalted h) hmode, fun h => ?_⟩
        rcases hsilent h with h | h
        · exact absurd h henters.notStart
        · exact absurd h hmode
  case restart =>
    refine ⟨by simp [restartLink, leaveListen], fun h => ?_⟩
    simp only [restartReport_link, restartLink, leaveListen] at h
    split at h
    · cases h
    next hlisten => exact absurd h hlisten
  case acceptBlock words hread hwords hreading =>
    simp only [State.LinkSound, Machine.acceptBlock, enterMode_modes, enterMode_link]
    by_cases hok : v.supply.judgement = .ok <;> simp [hok, acceptLink]
  case failStart hread hreading =>
    obtain ⟨-, -, -, -, hquiet, -⟩ := hstart hread hreading
    obtain ⟨hmode, -⟩ := hstart hread hreading
    simp [State.LinkSound, Machine.failStart, enterMode_link, hmode, hquiet]
  all_goals exact hv.of_same (by simp) (by simp) (by simp +contextual)

theorem settle_linkSound (before : State) {s : State} (hs : s.LinkSound) : (settle before s).LinkSound := by
  rcases settle_link_state before s with ⟨hquiet, hstate⟩ | ⟨hmark, hquiet, hstate⟩
  · exact hs.of_same (by simp) (by simp [hquiet]) (by simp +contextual [hstate])
  · exact hs.of_same (by simp) (by simp [hquiet]) (fun _ => .inr hmark)

/-! ## The pass timer, the pending flag and the deferred resets (R3, R4, R8) -/

/-- What the operations of an event keep of the engine. Within a pass end the pending flag outlives the flight, until step 8. -/
def EngineKept (c : Instr) (s : State) : Prop :=
  (s.modes.mode.runsPasses = false → s.engine.timer = none) ∧
    (s.engine.flight = none → (s.engine.pendingPass = false ∨ ∃ t, c = .passEnd t) ∧ s.engine.deferred = [])

theorem EngineKept.of_same {c : Instr} {s u : State} (hs : EngineKept c s) (hmode : u.modes.mode = s.modes.mode)
    (hengine : u.engine = s.engine) : EngineKept c u := by
  unfold EngineKept at hs ⊢
  rwa [hmode, hengine]

theorem engineKept_requestPass {c : Instr} {s : State} (hs : EngineKept c s) : EngineKept c (requestPass s) := by
  cases hruns : s.modes.mode.runsPasses
  · rwa [requestPass_of_still hruns]
  · cases hflight : s.engine.flight with
    | none =>
      rw [requestPass_of_idle hruns hflight]
      simp [EngineKept, startPass, hruns]
    | some sn =>
      rw [requestPass_of_flying hruns hflight]
      simp [EngineKept, hruns, hflight]

theorem engineKept_resetOrDefer {c : Instr} {s : State} (rs : List DeferredReset) (hs : EngineKept c s) :
    EngineKept c (resetOrDefer rs s) := by
  obtain ⟨htimer, hidle⟩ := hs
  refine ⟨by simpa using htimer, fun hflight => ?_⟩
  have hnone : s.engine.flight = none := by simpa using hflight
  simpa [resetOrDefer_of_idle rs hnone] using hidle hnone

theorem engineKept_changeAxle {c : Instr} {s : State} (a : Axle) (v : Supervisor) (hs : EngineKept c s) :
    EngineKept c (changeAxle a v s) := by
  simp only [changeAxle]
  split
  · exact engineKept_resetOrDefer _ (hs.of_same rfl rfl)
  · exact hs.of_same rfl rfl

theorem engineKept_enterMode {c : Instr} {s : State} (new : Mode) (cause : SafeCause) (hs : EngineKept c s) :
    EngineKept c (enterMode new cause s) := by
  obtain ⟨-, hidle⟩ := hs
  have hwritten (h : new.runsPasses = true) : EngineKept c (writeMode new cause s) :=
    ⟨by simp [writeMode, h], hidle⟩
  cases new with
  | fading => exact engineKept_requestPass (hwritten rfl)
  | supplyDown =>
    rw [enterMode_supplyDown]
    refine engineKept_requestPass ((hwritten rfl).of_same ?_ ?_)
    all_goals split <;> simp
  | driving =>
    by_cases hmode : s.modes.mode = .dozing
    · rw [enterMode_driving_of_dozing cause hmode]
      exact engineKept_resetOrDefer driveResets (hwritten rfl)
    · rw [enterMode_driving_of_other cause hmode]
      exact hwritten rfl
  | start | dozing | supplyHalted | safe =>
    rw [enterMode_still cause s rfl]
    simpa [EngineKept] using hidle

theorem engineKept_startPending {c : Instr} {s : State} (hs : EngineKept c s) : EngineKept c (startPending s) := by
  obtain ⟨htimer, hidle⟩ := hs
  unfold startPending
  split
  · split
    next hruns => simp [EngineKept, startPass, hruns]
    next => exact ⟨htimer, fun hflight => ⟨.inl rfl, (hidle hflight).2⟩⟩
  · exact ⟨htimer, hidle⟩

theorem Act.engineKept {c : Instr} {v w : State} (h : Act c v w) (hv : EngineKept c v) : EngineKept c w := by
  cases h
  case count op hop =>
    obtain ⟨counters, heq⟩ := counterOps_eq hop v
    rw [heq]
    exact hv
  case request => exact engineKept_requestPass hv
  case stopTimer =>
    obtain ⟨-, hidle⟩ := hv
    exact ⟨fun _ => rfl, hidle⟩
  case reset => exact engineKept_resetOrDefer driveResets hv
  case enter => exact engineKept_enterMode _ _ hv
  case restart => simp [EngineKept, restartBlocks, Engine.restarted]
  case store sn hpass hflight => simpa [EngineKept, storeResults] using hv
  case countPass sn out hpass => exact hv
  case activate a hpass =>
    unfold activateAxle
    split
    · exact engineKept_changeAxle _ _ hv
    · exact hv
  case applyDeferred hpass =>
    obtain ⟨htimer, hidle⟩ := hv
    simp only [EngineKept, Machine.applyDeferred, foldl_applyReset_engine_frame, foldl_applyReset_frame, and_true]
    exact ⟨htimer, fun hflight => (hidle hflight).1⟩
  case land hpass hdeferred hsupply => exact ⟨hv.1, fun _ => ⟨.inr hpass, hdeferred⟩⟩
  case pending => exact engineKept_startPending hv
  case used i e hd hpass hj =>
    cases i with
    | frontStatus | rearStatus => exact engineKept_changeAxle _ _ (hv.of_same rfl rfl)
    | demand | power | reference | stability | tow => exact hv.of_same (by simp) (by simp [writeContent, setCaps])
  case lose_stream i d hd hlate =>
    cases i with
    | frontStatus | rearStatus => exact engineKept_changeAxle _ _ (hv.of_same rfl rfl)
    | demand | power | reference | stability | tow => exact hv.of_same (by simp) (by simp [writeFallback])
  case acceptBlock => exact engineKept_enterMode _ _ (hv.of_same (by simp) (by simp))
  case failStart => exact engineKept_enterMode _ _ (hv.of_same rfl rfl)
  all_goals exact hv.of_same (by simp) (by simp)

/-- No request is pending at an IDLE engine. -/
def NonePending (s : State) : Prop := s.engine.flight = none → s.engine.pendingPass = false

theorem nonePending_requestPassIf (b : Bool) {s : State} (hs : NonePending s) : NonePending (requestPassIf b s) := by
  unfold requestPassIf
  split
  · cases hruns : s.modes.mode.runsPasses
    · rwa [requestPass_of_still hruns]
    · intro hflight
      cases hbefore : s.engine.flight with
      | none => simp [requestPass_of_idle hruns hbefore, startPass]
      | some sn => simp [requestPass_of_flying hruns hbefore, hbefore] at hflight
  · exact hs

/-- Step 8 starts a pending pass or drops it. -/
theorem nonePending_startPending (s : State) : NonePending (startPending s) := by
  intro _
  unfold startPending
  split
  · split <;> rfl
  next h => simpa using h

theorem nonePending_endPass {s : State} (hs : NonePending s) : NonePending (endPass s) := by
  unfold endPass
  split
  · exact hs
  · exact nonePending_requestPassIf _ (nonePending_requestPassIf _ (nonePending_startPending _))

theorem afterEffect_engineSound {c : Instr} (hc : c ≠ .powerOnReset) {s : State} (hs : s.EngineSound) :
    (afterEffect c s).EngineSound := by
  obtain ⟨htimer, hidle⟩ := hs
  obtain ⟨htimer', hidle'⟩ := afterEffect_keeps (P := EngineKept c) hc (fun v w hact hv => hact.engineKept hv)
    (s := s) ⟨htimer, fun h => ⟨.inl (hidle h).1, (hidle h).2⟩⟩
  refine ⟨htimer', fun hflight => ⟨?_, (hidle' hflight).2⟩⟩
  rcases (hidle' hflight).1 with hnone | ⟨t, rfl⟩
  · exact hnone
  · exact nonePending_endPass (s := { s with now := t }) (fun h => (hidle h).1) hflight

/-! ## Every step -/

theorem afterEffect_modeSound {c : Instr} (hc : c ≠ .powerOnReset) {s : State} (hstart : s.StartSound) (hmode : s.ModeSound)
    (hlink : s.LinkSound) : (afterEffect c s).ModeSound ∧ (afterEffect c s).LinkSound := by
  have hkept := afterEffect_keeps hc (s := s)
    (P := fun v => ((∃ t bytes, c = .readAttemptEnd t bytes) → v.StartSound) ∧ v.ModeSound ∧ v.LinkSound)
    (fun v w hact ⟨hv, hmode, hlink⟩ => by
      refine ⟨fun hread => hact.startSound ?_ (hv hread), hact.modeSound hv hmode, hact.linkSound hv hlink⟩
      rintro t rfl
      obtain ⟨_, _, hc⟩ := hread
      cases hc)
    ⟨fun _ => hstart, hmode, hlink⟩
  exact hkept.2

/-- What holds of the control of a part that is sound. -/
def State.ControlSound (s : State) : Prop := s.StartSound ∧ s.ModeSound ∧ s.LinkSound ∧ s.EngineSound

theorem event_controlSound {c : Instr} (hc : c ≠ .powerOnReset) {s : State} (hs : s.ControlSound) :
    (settle s (afterEffect c s)).ControlSound := by
  obtain ⟨hstart, hmode, hlink, hengine⟩ := hs
  obtain ⟨hmode', hlink'⟩ := afterEffect_modeSound hc hstart hmode hlink
  exact ⟨settle_startSound s (afterEffect_startSound hc hstart), by simpa [State.ModeSound] using hmode',
    settle_linkSound s hlink', by simpa [State.EngineSound] using afterEffect_engineSound hc hengine⟩

theorem powerOnReset_controlSound (s : State) : (powerOnReset s).ControlSound := by
  refine ⟨fun _ => ⟨rfl, rfl, rfl, rfl, rfl, rfl, rfl, fun i => ?_⟩, ⟨nofun, nofun⟩, ⟨nofun, fun _ => .inl rfl⟩,
    ⟨fun _ => rfl, fun _ => ⟨rfl, rfl⟩⟩⟩
  cases i <;> rfl

/-- Settles O52: each operation of an event keeps the control sound, and so does the report unit at its end. -/
theorem everyStepKeepsControlSound : Obligations.EveryStepKeepsControlSound := by
  unfold Obligations.EveryStepKeepsControlSound
  intro s u hstart hmode hlink hengine hstep
  exact step_keeps (P := State.ControlSound) (Q := State.ControlSound) hstep id (fun _ h => h)
    (fun v _ => powerOnReset_controlSound v) (fun _ _ hc hv => event_controlSound hc hv) ⟨hstart, hmode, hlink, hengine⟩

end Sys2Proof.Machine

namespace Sys2Proof.Machine

/-! Every step keeps the queues, the counts and the delay lines within their bounds (O53). -/

/-! ## The queues -/

@[simp] theorem enterMode_link_frame (new : Mode) (cause : SafeCause) (s : State) :
    (enterMode new cause s).link.bus = s.link.bus ∧ (enterMode new cause s).link.echoCount = s.link.echoCount ∧
    (enterMode new cause s).link.cleanRun = s.link.cleanRun ∧
    (enterMode new cause s).link.mailboxes = s.link.mailboxes ∧
    (enterMode new cause s).link.transmitting = s.link.transmitting ∧
    (enterMode new cause s).link.conflicts = s.link.conflicts ∧
    (enterMode new cause s).link.identity = s.link.identity := by
  rw [enterMode_link]
  split
  · simp
  · split <;> simp [leaveListen]

/-- A gap has not reached its end. -/
def BusPhase.Bounded (b : BusPhase) : Prop := ∀ n, b = .gap n → n < 8

theorem BusPhase.after_bounded {b : BusPhase} (l : BusLevel) (h : b.Bounded) : (b.after l).Bounded := by
  intro n hn
  cases b with
  | gap m =>
    cases l with
    | dominant => cases hn
    | recessive =>
      by_cases hend : Config.gapBits ≤ m + 1
      · simp [BusPhase.after, hend] at hn
      · simp only [BusPhase.after, hend, if_false, BusPhase.gap.injEq] at hn
        simp only [Config.gapBits] at hend
        omega
  | busy | aborted => exact h n hn
  | free => cases l <;> cases hn

theorem BusPhase.reads_bounded (levels : List BusLevel) {b : BusPhase} (h : b.Bounded) : (b.reads levels).Bounded := by
  unfold BusPhase.reads
  induction levels generalizing b with
  | nil => exact h
  | cons l levels ih => exact ih (BusPhase.after_bounded l h)

theorem busReleased_bounded {l : LinkController} (h : l.bus.Bounded) : l.busReleased.Bounded := by
  unfold LinkController.busReleased
  split
  · exact nofun
  · exact h

theorem startLowest_bus_bounded {s : State} (h : s.link.bus.Bounded) : (startLowest s).link.bus.Bounded := by
  unfold startLowest
  split
  · exact h
  · split
    · exact h
    · exact nofun

theorem moveCleanRun_bounded (f : WireFrame) {s : State} (hecho : s.link.echoCount ≤ 16) (hrun : s.link.cleanRun < 128) :
    (moveCleanRun f s).link.echoCount ≤ 16 ∧ (moveCleanRun f s).link.cleanRun < 128 := by
  have hlengthen : (lengthenRun s).link.echoCount ≤ 16 ∧ (lengthenRun s).link.cleanRun < 128 := by
    unfold lengthenRun leaveMuted
    split
    · split <;> simp
    next h => exact ⟨hecho, Nat.lt_of_not_le h⟩
  unfold moveCleanRun
  split
  · split
    · exact hlengthen
    · split
      · exact ⟨hecho, by simp⟩
      · exact ⟨hecho, hrun⟩
  · exact ⟨hecho, hrun⟩

theorem discardInvalid_cleanRun {s : State} (hrun : s.link.cleanRun < 128) : (discardInvalid s).link.cleanRun < 128 := by
  simp only [discardInvalid]
  split
  · simp
  · exact hrun

theorem admitFrame_bounded (f : WireFrame) {s : State} (h : s.intake.length ≤ 8) : (admitFrame f s).intake.length ≤ 8 := by
  unfold admitFrame
  split
  · exact h
  · split
    next hroom =>
      simp only [List.length_append, List.length_singleton]
      exact hroom
    next => exact h

/-- Nothing that the queues' bounds rest on has changed. -/
theorem State.QueuesBounded.of_same {s u : State} (hs : s.QueuesBounded) (hintake : u.intake = s.intake)
    (hbus : u.link.bus = s.link.bus) (hecho : u.link.echoCount = s.link.echoCount)
    (hrun : u.link.cleanRun = s.link.cleanRun) (hconflicts : u.link.conflicts = s.link.conflicts)
    (hattempts : u.port.attempts = s.port.attempts) : u.QueuesBounded := by
  unfold State.QueuesBounded at hs ⊢
  rwa [hintake, hbus, hecho, hrun, hconflicts, hattempts]

theorem Act.queuesBounded {c : Instr} {v w : State} (h : Act c v w) (hv : v.QueuesBounded) : w.QueuesBounded := by
  have ⟨hintake, hbus, hecho, hrun, hconflicts, hattempts⟩ := hv
  cases h
  case count op hop =>
    obtain ⟨counters, heq⟩ := counterOps_eq hop v
    rw [heq]
    exact hv
  case watch levels => exact ⟨hintake, BusPhase.reads_bounded levels hbus, hecho, hrun, hconflicts, hattempts⟩
  case offer =>
    exact ⟨by simpa, startLowest_bus_bounded hbus, by simpa, by simpa, by simpa, by simpa⟩
  case gap => exact ⟨hintake, by simp, hecho, hrun, hconflicts, hattempts⟩
  case abort f hf =>
    obtain ⟨-, -, hbus', hecho', hrun', -, hconflicts', -⟩ := abortFrame_link_frame f v
    refine ⟨by simpa, hbus' ▸ busReleased_bounded hbus, hecho' ▸ saturatingUp_le _ _, hrun' ▸ hrun, hconflicts' ▸ hconflicts,
      by simpa⟩
  case complete => exact ⟨hintake, by simp, by simp; omega, hrun, hconflicts, hattempts⟩
  case mute =>
    exact ⟨by simpa, by simpa [enterMuted_link], by simpa [enterMuted_link], by simp [enterMuted_link],
      by simpa [enterMuted_link], by simpa⟩
  case cleanRun f =>
    obtain ⟨hecho', hrun'⟩ := moveCleanRun_bounded f hecho hrun
    exact ⟨by simpa, by simpa, hecho', hrun', by simpa, by simpa⟩
  case invalid => exact ⟨by simpa, by simpa, by simpa, discardInvalid_cleanRun hrun, by simpa, by simpa⟩
  case conflict => exact ⟨hintake, hbus, hecho, hrun, by simp, hattempts⟩
  case queue f => exact ⟨admitFrame_bounded f hintake, by simpa, by simpa, by simpa, by simpa, by simpa⟩
  case restart =>
    refine ⟨by simp [restartBlocks], ?_, by simpa [restartLink, leaveListen], by simpa [restartLink, leaveListen],
      by simpa [restartLink, leaveListen], by simpa⟩
    rw [restartReport_link]
    exact busReleased_bounded (l := v.link) hbus
  case pop e rest hd hhead =>
    refine ⟨?_, hbus, hecho, hrun, hconflicts, hattempts⟩
    rw [hhead, List.length_cons] at hintake
    show rest.length ≤ 8
    omega
  case reread hread hreading hfew => exact ⟨hintake, hbus, hecho, hrun, hconflicts, hfew⟩
  case acceptBlock =>
    exact hv.of_same (by simp) (by simp [Machine.acceptBlock, acceptLink]) (by simp [Machine.acceptBlock, acceptLink])
      (by simp [Machine.acceptBlock, acceptLink]) (by simp [Machine.acceptBlock, acceptLink])
      (by simp [Machine.acceptBlock, acceptTables, MemoryPort.endAttempt])
  case failStart =>
    exact hv.of_same (by simp) (by simp [Machine.failStart]) (by simp [Machine.failStart]) (by simp [Machine.failStart])
      (by simp [Machine.failStart]) (by simp [Machine.failStart, MemoryPort.endAttempt])
  all_goals exact hv.of_same (by simp) (by simp) (by simp) (by simp) (by simp) (by simp)

/-! ## The counts -/

theorem countUp_le (n : Nat) : countUp n ≤ 65535 := saturatingUp_le n _

/-- The report unit's counts stand within their bounds. -/
def ReportUnit.Bounded (r : ReportUnit) : Prop :=
  r.counters.Bounded ∧ r.powerRun ≤ 20 ∧ r.query.refused ≤ 65535 ∧ ∀ q, r.request = some q → q.merged ≤ 255

theorem counterOps_bounded {op : State → State} (h : op ∈ counterOps) {s : State} (hs : s.report.Bounded) :
    (op s).report.Bounded := by
  obtain ⟨⟨h1, h2, h3, h4, h5, h6, h7, h8⟩, hrest⟩ := hs
  simp only [counterOps, List.mem_cons, List.not_mem_nil, or_false] at h
  rcases h with rfl | rfl | rfl | rfl | rfl | rfl | rfl | rfl
  · exact ⟨⟨countUp_le _, h2, h3, h4, h5, h6, h7, h8⟩, hrest⟩
  · exact ⟨⟨h1, countUp_le _, h3, h4, h5, h6, h7, h8⟩, hrest⟩
  · exact ⟨⟨h1, h2, countUp_le _, h4, h5, h6, h7, h8⟩, hrest⟩
  · exact ⟨⟨h1, h2, h3, countUp_le _, h5, h6, h7, h8⟩, hrest⟩
  · exact ⟨⟨h1, h2, h3, h4, countUp_le _, h6, h7, h8⟩, hrest⟩
  · exact ⟨⟨h1, h2, h3, h4, h5, countUp_le _, h7, h8⟩, hrest⟩
  · exact ⟨⟨h1, h2, h3, h4, h5, h6, countUp_le _, h8⟩, hrest⟩
  · exact ⟨⟨h1, h2, h3, h4, h5, h6, h7, countUp_le _⟩, hrest⟩

theorem reportBounded_fillRequest {s : State} (hs : s.report.Bounded) : (fillRequest s).report.Bounded := by
  have hdropped : ({ s with report.request := none } : State).report.Bounded := by
    obtain ⟨hcounters, hrun, hrefused, -⟩ := hs
    exact ⟨hcounters, hrun, hrefused, nofun⟩
  unfold fillRequest
  split
  · exact hs
  · split
    · exact counterOps_bounded (op := countMissedCapture) (by simp [counterOps]) hdropped
    next i _ => cases i <;> exact hdropped

theorem reportBounded_fillIfStill {s : State} (hs : s.report.Bounded) : (fillIfStill s).report.Bounded := by
  unfold fillIfStill
  split
  · exact reportBounded_fillRequest hs
  · exact hs

theorem reportBounded_setRequest (src : TriggerSource) {s : State} (hs : s.report.Bounded) :
    (setRequest src s).report.Bounded := by
  obtain ⟨hcounters, hrun, hrefused, -⟩ := hs
  unfold setRequest
  split
  · exact ⟨hcounters, hrun, hrefused, by rintro q ⟨⟩; exact Nat.zero_le _⟩
  · exact ⟨hcounters, hrun, hrefused, by rintro q ⟨⟩; exact saturatingUp_le _ _⟩

theorem reportBounded_takeTrigger (src : TriggerSource) {s : State} (hs : s.report.Bounded) :
    (takeTrigger src s).report.Bounded := by
  unfold takeTrigger
  split
  · exact reportBounded_fillIfStill (reportBounded_setRequest src hs)
  · exact hs

/-- Nothing that the report unit's bounds rest on has changed. -/
theorem ReportUnit.Bounded.of_same {r q : ReportUnit} (hr : r.Bounded) (hcounters : q.counters = r.counters)
    (hrun : q.powerRun = r.powerRun) (hquery : q.query = r.query) (hrequest : q.request = r.request) : q.Bounded := by
  unfold ReportUnit.Bounded at hr ⊢
  rwa [hcounters, hrun, hquery, hrequest]

theorem reportBounded_enterMode (new : Mode) (cause : SafeCause) {s : State} (hs : s.report.Bounded) :
    (enterMode new cause s).report.Bounded := by
  have htold : (tellLink s.modes.mode new (tellAxles new (tellEngine s.modes.mode new (writeMode new cause s)))).report.Bounded :=
    hs.of_same (by simp) (by simp) (by simp) (by simp)
  have hcaptured : (tellCaptures new (tellLink s.modes.mode new
      (tellAxles new (tellEngine s.modes.mode new (writeMode new cause s))))).report.Bounded := by
    unfold tellCaptures
    split
    · exact reportBounded_takeTrigger _ htold
    · exact reportBounded_fillIfStill htold
  simpa [enterMode] using hcaptured

theorem reportBounded_discardOlder (k : OwnKind) {s : State} (hs : s.report.Bounded) : (discardOlder k s).report.Bounded := by
  unfold discardOlder
  split
  · exact counterOps_bounded (op := countSuperseded) (by simp [counterOps]) hs
  · exact hs

theorem reportBounded_takePlacement (f : OutFrame) {s : State} (hs : s.report.Bounded) :
    (takePlacement f s).report.Bounded := by
  unfold takePlacement
  split
  · exact reportBounded_discardOlder f.kind hs
  · exact hs

theorem reportBounded_placeFrame (entering : Bool) (f : OutFrame) {s : State} (hs : s.report.Bounded) :
    (placeFrame entering f s).report.Bounded := by
  unfold placeFrame
  split
  · exact hs
  · exact reportBounded_takePlacement f hs

theorem reportBounded_returnFrame (f : OutFrame) {s : State} (hs : s.report.Bounded) : (returnFrame f s).report.Bounded := by
  unfold returnFrame
  split
  · exact reportBounded_discardOlder f.kind hs
  · exact hs

theorem reportBounded_sendReply (r : Reply) {s : State} (hs : s.report.Bounded) : (sendReply r s).report.Bounded := by
  obtain ⟨hcounters, hrun, hrefused, hrequest⟩ := hs
  unfold sendReply
  split
  · exact ⟨hcounters, hrun, hrefused, hrequest⟩
  · split
    · exact ⟨hcounters, hrun, hrefused, hrequest⟩
    · exact reportBounded_takePlacement _ (s := { s with report.query := _, draws := _ })
        ⟨hcounters, hrun, Nat.zero_le _, hrequest⟩

theorem Act.reportBounded {c : Instr} {v w : State} (h : Act c v w) (hv : v.report.Bounded) : w.report.Bounded := by
  have ⟨hcounters, hrun, hrefused, hrequest⟩ := hv
  cases h
  case count op hop => exact counterOps_bounded hop hv
  case fill => exact reportBounded_fillRequest hv
  case trigger src => exact reportBounded_setRequest src hv
  case release i => cases i <;> exact hv
  case note n =>
    unfold noteAlert
    split <;> exact hv
  case refuse => exact ⟨hcounters, hrun, countUp_le _, hrequest⟩
  case reply r => exact reportBounded_sendReply r hv
  case statusTimer =>
    unfold expireStatusTimer
    split
    · exact hv
    · split
      · exact hv.of_same (by simp [placeStatus_report]) (by simp [placeStatus_report]) (by simp [placeStatus_report])
          (by simp [placeStatus_report])
      · exact hv
  case splitReport out => exact reportBounded_placeFrame false _ (s := { v with issuer := _ }) hv
  case command => exact reportBounded_placeFrame false _ (s := { v with issuer := _ }) hv
  case lose f hf => exact reportBounded_returnFrame f (s := { v with link := _ }) hv
  case abort f hf =>
    exact reportBounded_returnFrame f (counterOps_bounded (op := countEchoFault) (by simp [counterOps]) (s := { v with link := _ }) hv)
  case statusSent q =>
    have hreport : (statusDelivered q v).report = v.report := by simp
    rwa [hreport]
  case mute =>
    simp only [enterMuted]
    split <;> exact ⟨hcounters, hrun, hrefused, hrequest⟩
  case invalid =>
    have hcounted := counterOps_bounded (op := countBadCheck) (by simp [counterOps]) hv
    simp only [discardInvalid]
    split <;> exact hcounted
  case queue f =>
    unfold admitFrame
    split
    · exact hv
    · split
      · exact hv
      · exact counterOps_bounded (op := countOverflow) (by simp [counterOps]) hv
  case reset => exact hv.of_same (by simp) (by simp) (by simp) (by simp)
  case enter new cause _ => exact reportBounded_enterMode new cause hv
  case restart => exact ⟨hcounters, Nat.zero_le _, Nat.zero_le _, hrequest⟩
  case countPass sn out hpass =>
    refine ⟨hcounters, ?_, hrefused, hrequest⟩
    simp only [Machine.countPass]
    split
    · exact saturatingUp_le _ _
    · exact Nat.zero_le _
  case activate a hpass =>
    unfold activateAxle
    split
    · exact hv.of_same (by simp) (by simp) (by simp) (by simp)
    · exact hv
  case applyDeferred =>
    exact hv.of_same (by simp [Machine.applyDeferred]) (by simp [Machine.applyDeferred])
      (by simp [Machine.applyDeferred]) (by simp [Machine.applyDeferred])
  case used => exact hv.of_same (by simp) (by simp) (by simp) (by simp)
  case lose_stream => exact hv.of_same (by simp) (by simp) (by simp) (by simp)
  case acceptBlock words _ _ _ =>
    exact reportBounded_enterMode _ _ (s := acceptLink (blockParams words) (acceptTables (blockParams words) v))
      ⟨hcounters, hrun, hrefused, hrequest⟩
  case failStart =>
    exact reportBounded_enterMode _ _ (s := { v with port := _, link := _, report := _ })
      ⟨hcounters, hrun, hrefused, hrequest⟩
  all_goals simpa using hv

/-- The exception record's count stands within its bound. -/
def State.ExceptionBounded (s : State) : Prop := ∀ h, s.exception = some h → h.further ≤ 255

theorem Act.exceptionBounded {c : Instr} {v w : State} (h : Act c v w) (hv : v.ExceptionBounded) : w.ExceptionBounded := by
  cases h
  case count op hop =>
    obtain ⟨counters, heq⟩ := counterOps_eq hop v
    rw [heq]
    exact hv
  case exception e =>
    unfold takeException
    split
    · rintro h ⟨⟩
      exact Nat.zero_le _
    · rintro h ⟨⟩
      exact saturatingUp_le _ _
  case emptyException => exact nofun
  all_goals simpa [State.ExceptionBounded] using hv

/-! ## The streams -/

theorem afterFrame_bounded {r : StreamRecord} (e : IntakeEntry) (hr : r.Bounded) :
    (r.afterFrame e (judgeFrame r e)).Bounded := by
  obtain ⟨hqualifying, hrepeats, hmalformed⟩ := hr
  cases hj : judgeFrame r e with
  | used => exact ⟨Nat.zero_le _, hrepeats, hmalformed⟩
  | repeated => exact ⟨hqualifying, countUp_le _, hmalformed⟩
  | restarts => exact ⟨by simp [StreamRecord.afterFrame], hrepeats, hmalformed⟩
  | qualifies =>
    refine ⟨?_, hrepeats, hmalformed⟩
    unfold judgeFrame at hj
    repeat' split at hj
    case isTrue.isFalse htarget =>
      simp only [Config.qualifyingTarget] at htarget
      show r.qualifying + 1 ≤ 3
      omega
    all_goals cases hj

theorem expired_bounded {r : StreamRecord} (d : Time) (hr : r.Bounded) : (r.expired d).Bounded := by
  obtain ⟨hqualifying, hrepeats, hmalformed⟩ := hr
  unfold StreamRecord.expired
  split
  · exact ⟨hqualifying, hrepeats, hmalformed⟩
  · exact ⟨hqualifying, hrepeats, hmalformed⟩
  · exact ⟨Nat.zero_le _, hrepeats, hmalformed⟩
  · exact ⟨Nat.zero_le _, hrepeats, hmalformed⟩

/-- Every stream's counts stand within their bounds. -/
def State.StreamsBounded (s : State) : Prop := ∀ i, (s.streams.get i).Bounded

theorem streamsBounded_setStream {s : State} (hs : s.StreamsBounded) (i : StreamId) {r : StreamRecord} (hr : r.Bounded) :
    (setStream i r s).StreamsBounded := by
  intro j
  simp only [setStream, PerStream.get_set]
  split
  · exact hr
  · exact hs j

theorem streamsBounded_map {s u : State} {f : StreamRecord → StreamRecord} (hs : s.StreamsBounded)
    (heq : u.streams = s.streams.map f) (hf : ∀ r, StreamRecord.Bounded r → (f r).Bounded) : u.StreamsBounded := by
  intro i
  rw [heq, PerStream.get_map]
  exact hf _ (hs i)

theorem State.StreamsBounded.of_same {s u : State} (hs : s.StreamsBounded) (heq : u.streams = s.streams) :
    u.StreamsBounded := by
  unfold State.StreamsBounded at hs ⊢
  rwa [heq]

theorem configureStreams_get (p : Params) (streams : PerStream StreamRecord) (i : StreamId) :
    (configureStreams p streams).get i = (streams.get i).configured i (p.windows.get i) := by
  cases i <;> rfl

theorem Act.streamsBounded {c : Instr} {v w : State} (h : Act c v w) (hv : v.StreamsBounded) : w.StreamsBounded := by
  cases h
  case count op hop =>
    obtain ⟨counters, heq⟩ := counterOps_eq hop v
    rw [heq]
    exact hv
  case statusTimer =>
    unfold expireStatusTimer
    split
    · exact hv
    · split
      · exact streamsBounded_map hv (placeStatus_streams _ _) fun _ hr => hr
      · exact hv
  case statusSent q => exact streamsBounded_map hv (statusDelivered_streams q v) fun _ hr => hr
  case restart =>
    refine streamsBounded_map (f := StreamRecord.restarted) hv (by simp [restartBlocks]) ?_
    exact fun r ⟨_, hrepeats, hmalformed⟩ => ⟨Nat.zero_le _, hrepeats, hmalformed⟩
  case malformed r hd =>
    unfold countMalformed
    split
    next i =>
      obtain ⟨hqualifying, hrepeats, -⟩ := hv i
      exact streamsBounded_setStream hv i ⟨hqualifying, hrepeats, countUp_le _⟩
    · exact hv
    · exact hv
  case unused i e hd hj => exact streamsBounded_setStream hv i (afterFrame_bounded e (hv i))
  case used i e hd hpass hj =>
    have hused : ((v.streams.get i).afterUse e).Bounded := by
      have := afterFrame_bounded e (hv i)
      rwa [hj] at this
    exact (streamsBounded_setStream hv i hused).of_same (by simp)
  case expire i d hd hlate => exact streamsBounded_setStream hv i (expired_bounded d (hv i))
  case lose_stream i d hd hlate => exact (streamsBounded_setStream hv i (expired_bounded d (hv i))).of_same (by simp)
  case acceptBlock words _ _ _ =>
    intro i
    obtain ⟨hqualifying, hrepeats, hmalformed⟩ := hv i
    simp only [Machine.acceptBlock, enterMode_frame, acceptLink_streams, acceptTables, configureStreams_get]
    exact ⟨hqualifying, hrepeats, hmalformed⟩
  all_goals exact hv.of_same (by simp)

/-! ## The supervisors -/

theorem enterDelayLine_sound (e : DelayEntry) {line : List DelayEntry} (h : delayLineSound line) :
    delayLineSound (enterDelayLine e line) := by
  refine ⟨List.length_take_le _ _, List.Pairwise.sublist (List.take_sublist _ _) ?_⟩
  refine List.pairwise_cons.2 ⟨fun x hx => ?_, h.2.sublist List.filter_sublist⟩
  exact (bne_iff_ne.1 (List.mem_filter.1 hx).2).symm

theorem trackingAfter_le (p : Params) {v : Supervisor} (f : AxleStatus) (h : v.tracking ≤ 16) :
    trackingAfter p v f ≤ 16 := by
  unfold trackingAfter
  repeat' split
  · omega
  · exact saturatingUp_le _ _
  · exact saturatingUp_le _ _
  · exact h

theorem superviseFrame_bounded (p : Params) (mode : Mode) (f : AxleStatus) {v : Supervisor} (h : v.Bounded) :
    (superviseFrame p mode f v).Bounded := by
  have ⟨htracking, hsince, hline⟩ := h
  have htracked (st : AxleState) : Supervisor.Bounded { v with tracking := trackingAfter p v f, state := st } :=
    ⟨trackingAfter_le p f htracking, hsince, hline⟩
  unfold superviseFrame
  repeat' split
  all_goals first
    | exact h
    | exact htracked _
    | exact ⟨Nat.zero_le _, hsince, hline⟩

theorem stoodDown_bounded {v : Supervisor} (h : v.Bounded) : v.stoodDown.Bounded := by
  unfold Supervisor.stoodDown
  split <;> exact h

/-- Every axle's counts and delay line stand within their bounds. -/
def State.AxlesBounded (s : State) : Prop := ∀ a, (s.axles.get a).Bounded

theorem State.AxlesBounded.of_same {s u : State} (hs : s.AxlesBounded) (heq : u.axles = s.axles) : u.AxlesBounded := by
  unfold State.AxlesBounded at hs ⊢
  rwa [heq]

theorem axlesBounded_set {s u : State} (hs : s.AxlesBounded) (a : Axle) {v : Supervisor} (hv : v.Bounded)
    (heq : u.axles = s.axles.set a v) : u.AxlesBounded := by
  intro b
  rw [heq, PerAxle.get_set]
  split
  · exact hv
  · exact hs b

@[simp] theorem tellEngine_axles (old new : Mode) (s : State) : (tellEngine old new s).axles = s.axles := by simp

theorem enterMode_axles (new : Mode) (cause : SafeCause) (s : State) (a : Axle) :
    (enterMode new cause s).axles.get a = if new.runsPasses then s.axles.get a else (s.axles.get a).stoodDown := by
  simp only [enterMode, requestPassIf_frame, tellCaptures_frame, tellLink_frame, tellAxles]
  split
  · simp
  · cases a <;> simp [PerAxle.get_set]

theorem axlesBounded_enterMode (new : Mode) (cause : SafeCause) {s : State} (hs : s.AxlesBounded) :
    (enterMode new cause s).AxlesBounded := by
  intro a
  rw [enterMode_axles]
  split
  · exact hs a
  · exact stoodDown_bounded (hs a)

theorem Act.axlesBounded {c : Instr} {v w : State} (h : Act c v w) (hv : v.AxlesBounded) : w.AxlesBounded := by
  cases h
  case count op hop =>
    obtain ⟨counters, heq⟩ := counterOps_eq hop v
    rw [heq]
    exact hv
  case commandSent a e =>
    obtain ⟨htracking, hsince, hline⟩ := hv a
    refine axlesBounded_set hv a ?_ rfl
    exact ⟨htracking, saturatingUp_le _ _, enterDelayLine_sound e hline⟩
  case enter new cause _ => exact axlesBounded_enterMode new cause hv
  case restart =>
    intro a
    simp only [restartReport_axles, restartLink_axles, restartBlocks]
    cases a <;> exact ⟨Nat.zero_le _, Nat.zero_le _, Nat.zero_le _, .nil⟩
  case activate a hpass =>
    unfold activateAxle
    split
    · exact axlesBounded_set hv a ⟨Nat.zero_le _, Nat.zero_le _, Nat.zero_le _, .nil⟩ (changeAxle_axles _ _ _)
    · exact hv
  case used i e hd hpass hj =>
    cases i with
    | frontStatus => exact axlesBounded_set hv .front (superviseFrame_bounded _ _ _ (hv .front)) (changeAxle_axles _ _ _)
    | rearStatus => exact axlesBounded_set hv .rear (superviseFrame_bounded _ _ _ (hv .rear)) (changeAxle_axles _ _ _)
    | demand | power | reference | stability | tow => exact hv.of_same (by simp [writeContent, setCaps])
  case lose_stream i d hd hlate =>
    have hlost (a : Axle) : Supervisor.Bounded
        (if (v.axles.get a).state = .faulted then v.axles.get a else { v.axles.get a with state := .offline }) := by
      split <;> exact hv a
    cases i with
    | frontStatus => exact axlesBounded_set hv .front (hlost .front) (changeAxle_axles _ _ _)
    | rearStatus => exact axlesBounded_set hv .rear (hlost .rear) (changeAxle_axles _ _ _)
    | demand | power | reference | stability | tow => exact hv.of_same (by simp [writeFallback])
  case acceptBlock => exact axlesBounded_enterMode _ _ (hv.of_same (by simp))
  case failStart => exact axlesBounded_enterMode _ _ (s := { v with port := _, link := _, report := _ }) hv
  all_goals exact hv.of_same (by simp)

/-! ## Every step -/

/-- The bounds of O53. -/
def State.Bounded (s : State) : Prop :=
  s.QueuesBounded ∧ s.report.Bounded ∧ s.ExceptionBounded ∧ s.StreamsBounded ∧ s.AxlesBounded

theorem bounded_iff (s : State) :
    s.Bounded ↔ s.QueuesBounded ∧ s.CountsBounded ∧ ∀ a, (s.axles.get a).Bounded := by
  constructor
  · rintro ⟨hqueues, ⟨hcounters, hrun, hrefused, hrequest⟩, hexception, hstreams, haxles⟩
    exact ⟨hqueues, ⟨hcounters, hrun, hrefused, hexception, hrequest, hstreams⟩, haxles⟩
  · rintro ⟨hqueues, ⟨hcounters, hrun, hrefused, hexception, hrequest, hstreams⟩, haxles⟩
    exact ⟨hqueues, ⟨hcounters, hrun, hrefused, hrequest⟩, hexception, hstreams, haxles⟩

theorem event_bounded {c : Instr} (hc : c ≠ .powerOnReset) {s : State} (hs : s.Bounded) :
    (settle s (afterEffect c s)).Bounded := by
  obtain ⟨hqueues, hreport, hexception, hstreams, haxles⟩ := hs
  have hqueues' := afterEffect_keeps (P := State.QueuesBounded) hc (fun _ _ hact => hact.queuesBounded) (s := s) hqueues
  have hreport' := afterEffect_keeps (P := fun v => v.report.Bounded) hc (fun _ _ hact => hact.reportBounded) (s := s) hreport
  have hexception' := afterEffect_keeps (P := State.ExceptionBounded) hc (fun _ _ hact => hact.exceptionBounded) (s := s) hexception
  have hstreams' := afterEffect_keeps (P := State.StreamsBounded) hc (fun _ _ hact => hact.streamsBounded) (s := s) hstreams
  have haxles' := afterEffect_keeps (P := State.AxlesBounded) hc (fun _ _ hact => hact.axlesBounded) (s := s) haxles
  refine ⟨hqueues'.of_same (by simp) (by simp) (by simp) (by simp) (by simp) (by simp),
    hreport'.of_same (by simp) (by simp) (by simp) (by simp), by simpa [State.ExceptionBounded] using hexception',
    fun i => ?_, haxles'.of_same (by simp)⟩
  obtain ⟨hqualifying, hrepeats, hmalformed⟩ := hstreams' i
  exact ⟨by simpa, by simpa, by simpa⟩

theorem powerOnReset_bounded {s : State} (hs : s.Bounded) : (powerOnReset s).Bounded := by
  obtain ⟨⟨-, hbus, -⟩, -⟩ := hs
  have hsound := resetWith_sound s.pending s.draws s.filters.hold.line s.filters.mark.line s.supply.sense
    s.link.busReleased (busReleased_bounded hbus) _ rfl
  obtain ⟨-, -, -, -, hqueues, hcounts, haxles, -⟩ := hsound
  exact (bounded_iff _).2 ⟨hqueues, hcounts, haxles⟩

/-- Settles O53: each operation of an event keeps the bounds, and the report unit at its end moves no bounded count. -/
theorem everyStepKeepsTheBounds : Obligations.EveryStepKeepsTheBounds := by
  unfold Obligations.EveryStepKeepsTheBounds
  intro s u hqueues hcounts haxles hstep
  refine (bounded_iff u).1 ?_
  exact step_keeps (P := State.Bounded) (Q := State.Bounded) hstep id (fun _ h => h)
    (fun _ hv => powerOnReset_bounded hv) (fun _ _ hc hv => event_bounded hc hv)
    ((bounded_iff s).2 ⟨hqueues, hcounts, haxles⟩)

end Sys2Proof.Machine

namespace Sys2Proof.Machine

/-! Every step keeps the records at their fallbacks and rows 1 to 4 at what their rules name (O54). -/

/-- The records and the rows 1 to 4, rule by rule: what O54 states, and the state it states it of. -/
structure Follows (s : State) : Prop where
  demand : s.streams.demand.state.believed = false → s.records.demand = .fallback
  status : ∀ a, (s.streams.get (statusStream a)).state.believed = false → s.records.status.get a = .fallback
  power : ∀ p, s.params = some p → s.streams.power.state.believed = false →
    s.records.power = ⟨p.fallbackDischarge, p.fallbackCharge⟩
  reference : s.streams.reference.state.believed = false → s.records.reference = .fallback
  towUnheard : s.streams.tow.state = .unheard → s.records.towPresent = false
  towLost : s.streams.tow.state = .lost → s.records.towPresent = true
  inverter : ∀ a, (s.table.inverter.get a).isSome = (s.streams.get (statusStream a)).state.believed
  stabilityUnheard : s.streams.stability.state = .unheard → s.table.stability = ⟨none, none⟩
  driveline : ∀ p, s.params = some p → ∀ a,
    s.table.driveline.get a = some (symmetric (drivelineLimit p (currentTow s) a))
  axle : ∀ p, s.params = some p → ∀ a,
    s.table.axle.get a = (s.axles.get a).state.cell (p.derateCap.get a) (s.records.status.get a).accepting
  stabilityLost : ∀ p, s.params = some p → s.streams.stability.state = .lost → ∀ a,
    s.table.stability.get a = some { cap := p.stabilityFallback.get a, expiry := none }

theorem follows_iff (s : State) : Follows s ↔ s.RecordsFollow ∧ s.TableFollows := by
  constructor
  · rintro ⟨hdemand, hstatus, hpower, hreference, hunheard, hlost, hinverter, hempty, hdriveline, haxle, hcaps⟩
    exact ⟨⟨hdemand, hstatus, hpower, hreference, hunheard, hlost⟩, hinverter, hempty,
      fun p hp => ⟨hdriveline p hp, haxle p hp, hcaps p hp⟩⟩
  · rintro ⟨⟨hdemand, hstatus, hpower, hreference, hunheard, hlost⟩, hinverter, hempty, hrows⟩
    exact ⟨hdemand, hstatus, hpower, hreference, hunheard, hlost, hinverter, hempty, fun p hp => (hrows p hp).1,
      fun p hp => (hrows p hp).2.1, fun p hp => (hrows p hp).2.2⟩

theorem axleCell_eq_cell (p : Params) (a : Axle) (st : AxleState) (accepting : Bool) :
    axleCell p a st accepting = st.cell (p.derateCap.get a) accepting := by
  cases st <;> cases accepting <;> rfl

theorem par_of_params {s : State} {p : Params} (h : s.params = some p) : s.par = p := by simp [State.par, h]

/-- Nothing that the records and the rows follow has changed: the stream states, and the table but for GRIP and SUPPLY. -/
theorem Follows.of_same {s u : State} (hs : Follows s) (hparams : u.params = s.params)
    (hstates : ∀ i, (u.streams.get i).state = (s.streams.get i).state) (hrecords : u.records = s.records)
    (hdriveline : u.table.driveline = s.table.driveline) (hinverter : u.table.inverter = s.table.inverter)
    (haxle : u.table.axle = s.table.axle) (hcaps : u.table.stability = s.table.stability)
    (haxles : ∀ a, (u.axles.get a).state = (s.axles.get a).state) : Follows u := by
  have htow : currentTow u = currentTow s := by
    have := hstates .tow
    simp only [PerStream.get] at this
    simp only [currentTow, this, hrecords]
  obtain ⟨h1, h2, h3, h4, h5, h6, h7, h8, h9, h10, h11⟩ := hs
  have hdemand := hstates .demand
  have hpower := hstates .power
  have hreference := hstates .reference
  have hstability := hstates .stability
  have htowState := hstates .tow
  simp only [PerStream.get] at hdemand hpower hreference hstability htowState
  constructor
  · rwa [hdemand, hrecords]
  · intro a
    rw [hstates, hrecords]
    exact h2 a
  · rwa [hparams, hpower, hrecords]
  · rwa [hreference, hrecords]
  · rwa [htowState, hrecords]
  · rwa [htowState, hrecords]
  · intro a
    rw [hstates, hinverter]
    exact h7 a
  · rwa [hstability, hcaps]
  · rwa [hparams, hdriveline, htow]
  · intro p hp a
    rw [haxle, haxles, hrecords]
    exact h10 p (hparams ▸ hp) a
  · rwa [hparams, hstability, hcaps]

/-! ## The axles -/

/-- The AXLE row after a move writes the moved axle's cell (R55). -/
theorem changeAxle_axleRow_follows {s v₀ : State} (a : Axle) (v : Supervisor) {p : Params} (hp : s.params = some p)
    (hv₀ : v₀.params = s.params) (haxles : v₀.axles = s.axles) (hrow : v₀.table.axle = s.table.axle)
    (hothers : ∀ b, b ≠ a → v₀.records.status.get b = s.records.status.get b)
    (hs : ∀ b, s.table.axle.get b = (s.axles.get b).state.cell (p.derateCap.get b) (s.records.status.get b).accepting)
    (b : Axle) : (changeAxle a v v₀).table.axle.get b =
      ((changeAxle a v v₀).axles.get b).state.cell (p.derateCap.get b) ((changeAxle a v v₀).records.status.get b).accepting := by
  have hpar : v₀.par = p := par_of_params (hv₀.trans hp)
  simp only [changeAxle_table_frame, changeAxle_axles, changeAxle_frame, PerAxle.get_set, hrow, haxles, hpar, axleCell_eq_cell]
  by_cases hb : b = a
  · simp [hb]
  · simp only [hb, if_false, hothers b hb]
    exact hs b

theorem follows_changeAxle {s : State} (hs : Follows s) (a : Axle) (v : Supervisor) : Follows (changeAxle a v s) := by
  refine { hs with
    demand := by simpa using hs.demand, status := by simpa using hs.status, power := by simpa using hs.power,
    reference := by simpa using hs.reference, towUnheard := by simpa using hs.towUnheard,
    towLost := by simpa using hs.towLost, inverter := by simpa using hs.inverter,
    stabilityUnheard := by simpa using hs.stabilityUnheard, driveline := by simpa [currentTow] using hs.driveline,
    axle := ?_, stabilityLost := by simpa using hs.stabilityLost }
  intro p hp
  have hp' : s.params = some p := by simpa using hp
  exact changeAxle_axleRow_follows a v hp' rfl rfl rfl (fun _ _ => rfl) (hs.axle p hp')

theorem statusStream_ne (a : Axle) :
    statusStream a ≠ .demand ∧ statusStream a ≠ .power ∧ statusStream a ≠ .reference ∧ statusStream a ≠ .stability ∧
      statusStream a ≠ .tow := by
  cases a <;> decide

theorem statusStream_inj {a b : Axle} : statusStream a = statusStream b ↔ a = b := by
  cases a <;> cases b <;> decide

/-- What another stream's record does not change. -/
theorem setStream_other {i j : StreamId} (h : j ≠ i) (r : StreamRecord) (s : State) :
    (setStream i r s).streams.get j = s.streams.get j := by
  simp [setStream, PerStream.get_set, h]

theorem setStream_status_frame (a : Axle) (r : StreamRecord) (s : State) :
    (setStream (statusStream a) r s).streams.demand = s.streams.demand ∧
    (setStream (statusStream a) r s).streams.power = s.streams.power ∧
    (setStream (statusStream a) r s).streams.reference = s.streams.reference ∧
    (setStream (statusStream a) r s).streams.stability = s.streams.stability ∧
    (setStream (statusStream a) r s).streams.tow = s.streams.tow := by
  cases a <;> exact ⟨rfl, rfl, rfl, rfl, rfl⟩

/-- A status stream's record and INVERTER cell, written together, and the axle they move (R41, R52, R53). -/
def writeStatus (a : Axle) (r : StreamRecord) (f : AxleStatus) (cell : Option Bounds) (s : State) : State :=
  { setStream (statusStream a) r s with
    records.status := s.records.status.set a f
    table.inverter := s.table.inverter.set a cell }

theorem follows_writeStatus {s : State} (hs : Follows s) (a : Axle) {r : StreamRecord} {f : AxleStatus}
    {cell : Option Bounds} (hf : r.state.believed = false → f = .fallback) (hcell : cell.isSome = r.state.believed)
    (v : Supervisor) : Follows (changeAxle a v (writeStatus a r f cell s)) := by
  obtain ⟨hdemand, hpower, hreference, hstability, htow⟩ := setStream_status_frame a r s
  constructor
  · simpa [writeStatus, hdemand] using hs.demand
  · intro b hb
    by_cases hab : b = a
    · subst hab
      simp [writeStatus, setStream] at hb ⊢
      exact hf hb
    · have hne : statusStream b ≠ statusStream a := fun h => hab (statusStream_inj.1 h)
      simp [writeStatus, setStream, PerStream.get_set, PerAxle.get_set, hab, hne] at hb ⊢
      exact hs.status b hb
  · simpa [writeStatus, hpower] using hs.power
  · simpa [writeStatus, hreference] using hs.reference
  · simpa [writeStatus, htow] using hs.towUnheard
  · simpa [writeStatus, htow] using hs.towLost
  · intro b
    by_cases hab : b = a
    · subst hab
      simpa [writeStatus, setStream] using hcell
    · have hne : statusStream b ≠ statusStream a := fun h => hab (statusStream_inj.1 h)
      simpa [writeStatus, setStream, PerStream.get_set, PerAxle.get_set, hab, hne] using hs.inverter b
  · simpa [writeStatus, hstability] using hs.stabilityUnheard
  · simpa [writeStatus, currentTow, htow] using hs.driveline
  · intro p hp
    have hp' : s.params = some p := by simpa [writeStatus] using hp
    refine changeAxle_axleRow_follows a v hp' rfl rfl rfl (fun b hb => ?_) (hs.axle p hp')
    simp [writeStatus, PerAxle.get_set, hb]
  · simpa [writeStatus, hstability] using hs.stabilityLost

/-! ## The streams -/

/-- The DRIVELINE row follows the tow state as a rewrite finds it (R51). -/
theorem rewriteDriveline_follows {s v : State} (hparams : v.params = s.params) (hrow : v.table.driveline = s.table.driveline)
    (hs : ∀ p, s.params = some p → ∀ a, s.table.driveline.get a = some (symmetric (drivelineLimit p (currentTow s) a)))
    {p : Params} (hp : s.params = some p) (a : Axle) :
    (rewriteDriveline (currentTow s) v).table.driveline.get a =
      some (symmetric (drivelineLimit p (currentTow v) a)) := by
  unfold rewriteDriveline
  split
  next hsame =>
    rw [hrow, hsame]
    exact hs p hp a
  next =>
    have hpar : v.par = p := par_of_params (hparams.trans hp)
    simp [hpar]

@[simp] theorem rewriteDriveline_table_frame (tow : Bool) (s : State) :
    (rewriteDriveline tow s).table.inverter = s.table.inverter ∧ (rewriteDriveline tow s).table.axle = s.table.axle ∧
    (rewriteDriveline tow s).table.stability = s.table.stability ∧ (rewriteDriveline tow s).table.grip = s.table.grip ∧
    (rewriteDriveline tow s).table.supply = s.table.supply := by
  unfold rewriteDriveline
  split <;> simp

@[simp] theorem currentTow_rewriteDriveline (tow : Bool) (s : State) :
    currentTow (rewriteDriveline tow s) = currentTow s := by simp [currentTow]

/-- The TOW stream and its record change together, and the DRIVELINE row with them. -/
theorem follows_tow {s : State} (hs : Follows s) {r : StreamRecord} {tow : Bool} (hheard : r.state ≠ .unheard)
    (hlost : r.state = .lost → tow = true) :
    Follows (rewriteDriveline (currentTow s) { setStream .tow r s with records.towPresent := tow }) := by
  constructor
  · simpa [setStream, PerStream.set] using hs.demand
  · intro a
    have : statusStream a ≠ .tow := (statusStream_ne a).2.2.2.2
    simpa [setStream_other this] using hs.status a
  · simpa [setStream, PerStream.set] using hs.power
  · simpa [setStream, PerStream.set] using hs.reference
  · intro h
    exact absurd (by simpa [setStream, PerStream.set] using h) hheard
  · intro h
    simpa using hlost (by simpa [setStream, PerStream.set] using h)
  · intro a
    have : statusStream a ≠ .tow := (statusStream_ne a).2.2.2.2
    simpa [setStream_other this] using hs.inverter a
  · simpa [setStream, PerStream.set] using hs.stabilityUnheard
  · intro p hp a
    rw [currentTow_rewriteDriveline]
    refine rewriteDriveline_follows ?_ ?_ hs.driveline (by simpa using hp) a <;> rfl
  · simpa using hs.axle
  · simpa [setStream, PerStream.set] using hs.stabilityLost

/-- A frame that is used freshens its stream. -/
theorem afterUse_state (r : StreamRecord) (e : IntakeEntry) : (r.afterUse e).state = .fresh := rfl

theorem not_believed_afterUse {r : StreamRecord} {e : IntakeEntry} (h : (r.afterUse e).state.believed = false) : False :=
  Bool.noConfusion (show true = false from h)

theorem afterFrame_state_of_unused {r : StreamRecord} {e : IntakeEntry} {j : FrameJudgement} (h : j ≠ .used) :
    (r.afterFrame e j).state = r.state := by
  cases j with
  | used => exact absurd rfl h
  | repeated | qualifies | restarts => rfl

theorem expired_state_of_late {r : StreamRecord} (d : Time) (h : r.state = .late) : (r.expired d).state = .lost := by
  simp [StreamRecord.expired, h]

/-- A stream that supervises no axle: the status records and the INVERTER row stand. -/
theorem follows_status_of_other {s : State} (hs : Follows s) {i : StreamId} (hi : ∀ a, statusStream a ≠ i) (r : StreamRecord)
    (a : Axle) :
    (((setStream i r s).streams.get (statusStream a)).state.believed = false → s.records.status.get a = .fallback) ∧
      (s.table.inverter.get a).isSome = ((setStream i r s).streams.get (statusStream a)).state.believed := by
  rw [setStream_other (hi a)]
  exact ⟨hs.status a, hs.inverter a⟩

theorem follows_used {s : State} (hs : Follows s) (i : StreamId) (e : IntakeEntry) :
    Follows (writeContent i (currentTow s) e (setStream i ((s.streams.get i).afterUse e) s)) := by
  cases i with
  | demand =>
    have hother := follows_status_of_other hs (fun a => (statusStream_ne a).1) ((s.streams.get .demand).afterUse e)
    exact { hs with demand := fun h => (not_believed_afterUse h).elim, status := fun a => (hother a).1, inverter := fun a => (hother a).2 }
  | frontStatus => exact follows_writeStatus hs .front (fun h => (not_believed_afterUse h).elim) rfl _
  | rearStatus => exact follows_writeStatus hs .rear (fun h => (not_believed_afterUse h).elim) rfl _
  | power =>
    have hother := follows_status_of_other hs (fun a => (statusStream_ne a).2.1) ((s.streams.get .power).afterUse e)
    exact { hs with power := fun _ _ h => (not_believed_afterUse h).elim, status := fun a => (hother a).1, inverter := fun a => (hother a).2 }
  | reference =>
    have hother := follows_status_of_other hs (fun a => (statusStream_ne a).2.2.1) ((s.streams.get .reference).afterUse e)
    exact { hs with reference := fun h => (not_believed_afterUse h).elim, status := fun a => (hother a).1, inverter := fun a => (hother a).2 }
  | stability =>
    have hother := follows_status_of_other hs (fun a => (statusStream_ne a).2.2.2.1) ((s.streams.get .stability).afterUse e)
    exact { hs with
      stabilityUnheard := fun h => StreamState.noConfusion (show StreamState.fresh = .unheard from h)
      stabilityLost := fun _ _ h => StreamState.noConfusion (show StreamState.fresh = .lost from h)
      status := fun a => (hother a).1,
      inverter := fun a => (hother a).2 }
  | tow => exact follows_tow hs (by simp [afterUse_state]) (by simp [afterUse_state])

/-- A stream that is lost has its fallbacks (R36, R53, R59). -/
theorem follows_lost {s : State} (hs : Follows s) (i : StreamId) (d : Time) (hlate : (s.streams.get i).state = .late) :
    Follows (writeFallback i (currentTow s) (setStream i ((s.streams.get i).expired d) s)) := by
  have hlost : ((s.streams.get i).expired d).state = .lost := expired_state_of_late d hlate
  cases i with
  | demand =>
    have hother := follows_status_of_other hs (fun a => (statusStream_ne a).1) ((s.streams.get .demand).expired d)
    exact { hs with demand := fun _ => rfl, status := fun a => (hother a).1, inverter := fun a => (hother a).2 }
  | frontStatus => exact follows_writeStatus hs .front (fun _ => rfl) (by rw [hlost]; rfl) _
  | rearStatus => exact follows_writeStatus hs .rear (fun _ => rfl) (by rw [hlost]; rfl) _
  | power =>
    have hother := follows_status_of_other hs (fun a => (statusStream_ne a).2.1) ((s.streams.get .power).expired d)
    refine { hs with power := fun p hp _ => ?_, status := fun a => (hother a).1, inverter := fun a => (hother a).2 }
    have hpar : s.par = p := par_of_params hp
    rw [← hpar]
    rfl
  | reference =>
    have hother := follows_status_of_other hs (fun a => (statusStream_ne a).2.2.1) ((s.streams.get .reference).expired d)
    exact { hs with reference := fun _ => rfl, status := fun a => (hother a).1, inverter := fun a => (hother a).2 }
  | stability =>
    have hother := follows_status_of_other hs (fun a => (statusStream_ne a).2.2.2.1) ((s.streams.get .stability).expired d)
    refine { hs with
      stabilityUnheard := fun h => ?_, stabilityLost := fun p hp _ a => ?_, status := fun a => (hother a).1,
      inverter := fun a => (hother a).2 }
    · exact StreamState.noConfusion (hlost.symm.trans h)
    · have hpar : s.par = p := par_of_params hp
      simp [writeFallback, fallbackCaps, State.par, ← hpar]
  | tow => exact follows_tow hs (by simp [hlost]) (fun _ => rfl)

/-- A stream that stays as it is, or falls from FRESH to LATE, keeps its record and its cells. -/
theorem follows_kept {s : State} (hs : Follows s) (i : StreamId) {r : StreamRecord}
    (h : r.state = (s.streams.get i).state ∨ (s.streams.get i).state = .fresh ∧ r.state = .late) :
    Follows (setStream i r s) := by
  have hstates (j : StreamId) : ((setStream i r s).streams.get j).state = (s.streams.get j).state ∨
      (s.streams.get j).state = .fresh ∧ ((setStream i r s).streams.get j).state = .late := by
    by_cases hj : j = i
    · subst hj
      simpa [setStream] using h
    · exact .inl (by rw [setStream_other hj])
  have hbelieved (j : StreamId) :
      ((setStream i r s).streams.get j).state.believed = (s.streams.get j).state.believed := by
    rcases hstates j with h | ⟨hfresh, hlate⟩
    · rw [h]
    · rw [hfresh, hlate]
      rfl
  have hedge (j : StreamId) {x : StreamState} (hx : x = .unheard ∨ x = .lost)
      (hj : ((setStream i r s).streams.get j).state = x) : (s.streams.get j).state = x := by
    rcases hstates j with h | ⟨-, hlate⟩
    · rwa [← h]
    · rw [hlate] at hj
      subst hj
      rcases hx with hx | hx <;> cases hx
  have htow : currentTow (setStream i r s) = currentTow s := by
    show towState ((setStream i r s).streams.get .tow).state s.records.towPresent = towState (s.streams.get .tow).state _
    rcases hstates .tow with h | ⟨hfresh, hlate⟩
    · rw [h]
    · rw [hfresh, hlate]
      rfl
  constructor
  · intro h
    exact hs.demand ((hbelieved .demand).symm.trans h)
  · intro a h
    exact hs.status a ((hbelieved _).symm.trans h)
  · intro p hp h
    exact hs.power p hp ((hbelieved .power).symm.trans h)
  · intro h
    exact hs.reference ((hbelieved .reference).symm.trans h)
  · intro h
    exact hs.towUnheard (hedge .tow (.inl rfl) h)
  · intro h
    exact hs.towLost (hedge .tow (.inr rfl) h)
  · intro a
    exact (hs.inverter a).trans (hbelieved _).symm
  · intro h
    exact hs.stabilityUnheard (hedge .stability (.inl rfl) h)
  · rw [htow]
    exact hs.driveline
  · exact hs.axle
  · intro p hp h
    exact hs.stabilityLost p hp (hedge .stability (.inr rfl) h)

/-! ## Mode entries and START -/

@[simp] theorem enterMode_axleRow (new : Mode) (cause : SafeCause) (s : State) (a : Axle) :
    (enterMode new cause s).table.axle.get a =
      if new.runsPasses = false ∧ (s.axles.get a).state.inService = true then some (symmetric 0)
      else s.table.axle.get a := by
  simp only [enterMode, requestPassIf_frame, tellCaptures_frame, tellLink_frame, tellAxles]
  cases hruns : new.runsPasses
  · cases a <;> simp [PerAxle.get_set]
  · simp

theorem follows_enterMode {s : State} (hs : Follows s) (new : Mode) (cause : SafeCause) :
    Follows (enterMode new cause s) := by
  refine { hs with
    demand := by simpa using hs.demand, status := by simpa using hs.status, power := by simpa using hs.power,
    reference := by simpa using hs.reference, towUnheard := by simpa using hs.towUnheard,
    towLost := by simpa using hs.towLost, inverter := by simpa using hs.inverter,
    stabilityUnheard := by simpa using hs.stabilityUnheard, driveline := by simpa [currentTow] using hs.driveline,
    axle := ?_, stabilityLost := by simpa using hs.stabilityLost }
  intro p hp a
  have hp' : s.params = some p := by simpa using hp
  have hrow := hs.axle p hp' a
  have hrecords : (enterMode new cause s).records = s.records := by simp
  rw [enterMode_axleRow, enterMode_axles, hrecords, hrow]
  cases hruns : new.runsPasses
  · cases hstate : (s.axles.get a).state <;> simp [Supervisor.stoodDown, hstate, AxleState.inService] <;> rfl
  · simp

/-- An accepted block fills the tables of a part whose streams are UNHEARD and whose axles are OFFLINE (R51, R54, R164). -/
theorem follows_accept {s : State} (hs : Follows s) (p : Params) (hfront : s.axles.front.state = .offline)
    (hrear : s.axles.rear.state = .offline) (hunheard : ∀ i, (s.streams.get i).state = .unheard) :
    Follows (acceptLink p (acceptTables p s)) := by
  have hstates (i : StreamId) : ((acceptLink p (acceptTables p s)).streams.get i).state = .unheard := by
    simp only [acceptLink_streams, acceptTables, configureStreams_get]
    exact hunheard i
  have htow : currentTow (acceptLink p (acceptTables p s)) = false := by
    simp only [currentTow]
    rw [show (acceptLink p (acceptTables p s)).streams.tow.state = .unheard from hstates .tow]
    rfl
  constructor
  · exact fun _ => hs.demand (by rw [show s.streams.demand.state = .unheard from hunheard .demand]; rfl)
  · exact fun a _ => hs.status a (by rw [hunheard]; rfl)
  · rintro q ⟨⟩ _
    rfl
  · exact fun _ => hs.reference (by rw [show s.streams.reference.state = .unheard from hunheard .reference]; rfl)
  · exact fun _ => hs.towUnheard (hunheard .tow)
  · intro h
    rw [show (acceptLink p (acceptTables p s)).streams.tow.state = .unheard from hstates .tow] at h
    cases h
  · intro a
    rw [hstates]
    exact (hs.inverter a).trans (by rw [hunheard])
  · exact fun _ => hs.stabilityUnheard (hunheard .stability)
  · rintro q ⟨⟩ a
    rw [htow]
    cases a <;> rfl
  · rintro q ⟨⟩ a
    have hoffline : (s.axles.get a).state = .offline := by cases a <;> assumption
    show (acceptedTable p).axle.get a = (s.axles.get a).state.cell _ _
    rw [hoffline]
    cases a <;> rfl
  · intro q _ h
    rw [show (acceptLink p (acceptTables p s)).streams.stability.state = .unheard from hstates .stability] at h
    cases h

theorem follows_restartBlocks (s : State) : Follows (restartBlocks s) := by
  have hstates (i : StreamId) : ((restartBlocks s).streams.get i).state = .unheard := by
    simp [restartBlocks, StreamRecord.restarted]
  constructor
  · exact fun _ => rfl
  · intro a _
    cases a <;> rfl
  · intro p hp _
    have hpar : s.par = p := par_of_params hp
    simp [restartBlocks, unheardRecords, hpar]
  · exact fun _ => rfl
  · exact fun _ => rfl
  · intro h
    rw [show (restartBlocks s).streams.tow.state = .unheard from hstates .tow] at h
    cases h
  · intro a
    rw [hstates]
    cases a <;> rfl
  · exact fun _ => rfl
  · intro p hp a
    have hpar : s.par = p := par_of_params hp
    simp only [restartBlocks, hpar]
    cases a <;> rfl
  · intro p hp a
    cases a <;> rfl
  · intro p _ h
    rw [show (restartBlocks s).streams.stability.state = .unheard from hstates .stability] at h
    cases h

theorem follows_holds {s : State} (hs : Follows s) (due : Time → Bool) :
    Follows { s with table.stability := s.table.stability.map (expireCell due) } := by
  refine { hs with stabilityUnheard := fun h => ?_, stabilityLost := fun p hp h a => ?_ }
  · show s.table.stability.map (expireCell due) = _
    rw [hs.stabilityUnheard h]
    rfl
  · show (s.table.stability.map (expireCell due)).get a = _
    rw [PerAxle.get_map, hs.stabilityLost p hp h a]
    rfl

/-! ## Every step -/

theorem storeResults_rows (sn : Snapshot) (out : PassOut) (s : State) :
    (storeResults sn out s).table.driveline = s.table.driveline ∧ (storeResults sn out s).table.inverter = s.table.inverter ∧
    (storeResults sn out s).table.axle = s.table.axle ∧ (storeResults sn out s).table.stability = s.table.stability := by
  unfold storeResults storeSupply
  repeat' split
  all_goals simp [setSupplyCeilings]

theorem Act.follows {c : Instr} {v w : State} (h : Act c v w)
    (hstart : (∃ t bytes, c = .readAttemptEnd t bytes) → v.StartSound) (hv : Follows v) : Follows w := by
  cases h
  case count op hop =>
    obtain ⟨counters, heq⟩ := counterOps_eq hop v
    rw [heq]
    exact hv.of_same rfl (fun _ => rfl) rfl rfl rfl rfl rfl (fun _ => rfl)
  case enter new cause _ => exact follows_enterMode hv new cause
  case restart =>
    exact (follows_restartBlocks v).of_same (by simp) (by simp) (by simp) (by simp) (by simp) (by simp) (by simp) (by simp)
  case store sn hpass hflight =>
    obtain ⟨hdriveline, hinverter, haxle, hstability⟩ := storeResults_rows sn (passOutcome sn v) v
    exact hv.of_same (by simp) (by simp) (by simp) hdriveline hinverter haxle hstability (by simp)
  case activate a hpass =>
    unfold activateAxle
    split
    · exact follows_changeAxle hv a _
    · exact hv
  case applyDeferred =>
    exact hv.of_same (by simp) (by simp) (by simp) (by simp [Machine.applyDeferred]) (by simp [Machine.applyDeferred])
      (by simp [Machine.applyDeferred]) (by simp [Machine.applyDeferred]) (by simp)
  case malformed r hd =>
    unfold countMalformed
    split
    next i => exact follows_kept hv i (.inl rfl)
    · exact hv
    · exact hv
  case unused i e hd hj => exact follows_kept hv i (.inl (afterFrame_state_of_unused hj))
  case used i e hd hpass hj => exact follows_used hv i e
  case expire i d hd hlate =>
    refine follows_kept hv i ?_
    unfold StreamRecord.expired
    split
    · exact .inl rfl
    next hfresh => exact .inr ⟨hfresh, rfl⟩
    next h => exact absurd h hlate
    · exact .inl rfl
  case lose_stream i d hd hlate => exact follows_lost hv i d hlate
  case holds due => exact follows_holds hv due
  case acceptBlock words hread hwords hreading =>
    obtain ⟨-, -, -, -, -, hfront, hrear, hunheard⟩ := hstart hread hreading
    exact follows_enterMode (follows_accept hv _ hfront hrear hunheard) _ _
  case failStart =>
    refine follows_enterMode (hv.of_same ?_ ?_ ?_ ?_ ?_ ?_ ?_ ?_) _ _
    · rfl
    · exact fun _ => rfl
    · rfl
    · rfl
    · rfl
    · rfl
    · rfl
    · exact fun _ => rfl
  all_goals exact hv.of_same (by simp) (by simp) (by simp) (by simp) (by simp) (by simp) (by simp) (by simp)

theorem event_follows {c : Instr} (hc : c ≠ .powerOnReset) {s : State} (hstart : s.StartSound) (hs : Follows s) :
    Follows (settle s (afterEffect c s)) := by
  have hkept := afterEffect_keeps hc (s := s)
    (P := fun v => ((∃ t bytes, c = .readAttemptEnd t bytes) → v.StartSound) ∧ Follows v)
    (fun v w hact ⟨hv, hfollows⟩ => by
      refine ⟨fun hread => hact.startSound ?_ (hv hread), hact.follows hv hfollows⟩
      rintro t rfl
      obtain ⟨_, _, hc⟩ := hread
      cases hc)
    ⟨fun _ => hstart, hs.of_same rfl (fun _ => rfl) rfl rfl rfl rfl rfl (fun _ => rfl)⟩
  exact hkept.2.of_same (by simp) (by simp) (by simp) (by simp) (by simp) (by simp) (by simp) (by simp)

theorem powerOnReset_invariants (s : State) :
    (powerOnReset s).RecordsFollow ∧ (powerOnReset s).TableFollows ∧ (powerOnReset s).GripFollows ∧
      (powerOnReset s).WindowsSound ∧ (powerOnReset s).LinesFollow ∧ (powerOnReset s).AlertsFollow ∧
      (powerOnReset s).FlagsReported ∧ (powerOnReset s).PassesSound := by
  have hsound := resetWith_sound s.pending s.draws s.filters.hold.line s.filters.mark.line s.supply.sense .free nofun _ rfl
  obtain ⟨-, -, -, -, -, -, -, hrest⟩ := hsound
  exact hrest

/-- Settles O54: each operation of an event keeps the records and the rows where their rules put them. -/
theorem everyStepKeepsRecordsAndTable : Obligations.EveryStepKeepsRecordsAndTable := by
  unfold Obligations.EveryStepKeepsRecordsAndTable
  refine ⟨fun x => by cases x <;> simp [StreamState.believed], fun s u hstart hrecords htable hstep => ?_⟩
  refine (follows_iff u).1 ?_
  refine step_keeps (P := fun v => v.StartSound ∧ Follows v) (Q := Follows) hstep (fun h => h.2) (fun rest h => ?_)
    (fun v _ => (follows_iff _).2 ⟨(powerOnReset_invariants v).1, (powerOnReset_invariants v).2.1⟩)
    (fun c v hc hv => event_follows hc hv.1 hv.2) ⟨hstart, (follows_iff s).2 ⟨hrecords, htable⟩⟩
  exact ⟨h.1, h.2.of_same rfl (fun _ => rfl) rfl rfl rfl rfl rfl (fun _ => rfl)⟩

end Sys2Proof.Machine

namespace Sys2Proof.Machine

/-! SUPPORT. The parameters of an accepted block, and the START condition along an event. -/

/-! ## Along an event, START is sound throughout -/

/-- What the operations of an event keep where START is sound: a decode while the block is read finds no entry and does nothing. -/
theorem afterEffect_keeps_sound {c : Instr} (hc : c ≠ .powerOnReset) {P : State → Prop} {s : State} (hs : s.StartSound)
    (hact : ∀ v w, Act c v w → v.StartSound → P v → P w) (hP : P { s with now := commandTime c }) : P (afterEffect c s) := by
  by_cases hdecode : ∃ t, c = .decode t
  · obtain ⟨t, rfl⟩ := hdecode
    cases hreading : s.port.reading
    · have hkept := afterEffect_keeps hc (s := s) (P := fun v => v.port.reading = false ∧ P v)
        (fun v w h ⟨hv, hPv⟩ => by
          have hsound : v.StartSound := fun h => by simp [hv] at h
          have ⟨_, hconfigured⟩ := h.keeps_configuration
          exact ⟨(hconfigured hv).1, hact v w h hsound hPv⟩)
        ⟨hreading, hP⟩
      exact hkept.2
    · have ⟨_, _, _, hintake, _⟩ := hs hreading
      rw [afterEffect, commandEffect, decodeHead_of_empty (by exact hintake)]
      exact hP
  · have hkept := afterEffect_keeps hc (s := s) (P := fun v => v.StartSound ∧ P v)
      (fun v w h ⟨hv, hPv⟩ => ⟨h.startSound (fun t ht => hdecode ⟨t, ht⟩) hv, hact v w h hv hPv⟩) ⟨hs, hP⟩
    exact hkept.2

/-! ## The ranges and the agreement of an accepted block (R162) -/

theorem blockInRange_mem {ws : List Word16} (h : blockInRange ws = true) {first count lo hi : Nat}
    (hmem : (first, count, lo, hi) ∈ blockRanges) {i : Nat} (hi' : i < count) :
    lo ≤ blockNat ws (first + i) ∧ blockNat ws (first + i) ≤ hi := by
  simp only [blockInRange, Bool.and_eq_true, List.all_eq_true] at h
  have := h.1.1 _ hmem i (List.mem_range.2 hi')
  simpa using this

theorem blockAccepted_iff (ws : List Word16) : blockAccepted ws = true ↔
    blockFormat ws = true ∧ blockSum ws = true ∧ blockInRange ws = true ∧ (blockParams ws).consistent = true := by
  simp [blockAccepted, and_assoc]

theorem consistent_iff (p : Params) : p.consistent = true ↔
    p.shareMin ≤ p.shareMax ∧ (∀ a, p.gripFloor ≤ p.drivelineSolo.get a ∧ p.gripFloor ≤ p.drivelineTow.get a) ∧
      strictlyRising p.bandEdges = true ∧ (p.roles.map fun e => (e.station, e.kind)).Nodup ∧
      ∀ e ∈ p.roles, e.station ≠ p.ownStation := by
  simp only [Params.consistent, Bool.and_eq_true, decide_eq_true_eq, List.all_eq_true, bne_iff_ne, ne_eq]
  constructor
  · rintro ⟨⟨⟨⟨⟨⟨⟨h1, h2⟩, h3⟩, h4⟩, h5⟩, h6⟩, h7⟩, h8⟩
    refine ⟨h1, fun a => ?_, h6, h7, h8⟩
    cases a
    · exact ⟨h2, h4⟩
    · exact ⟨h3, h5⟩
  · rintro ⟨h1, hdriveline, h6, h7, h8⟩
    exact ⟨⟨⟨⟨⟨⟨⟨h1, (hdriveline .front).1⟩, (hdriveline .rear).1⟩, (hdriveline .front).2⟩, (hdriveline .rear).2⟩, h6⟩, h7⟩, h8⟩

theorem blockInt_nonneg (ws : List Word16) (k : Nat) : 0 ≤ blockInt ws k := Int.natCast_nonneg _

theorem blockParams_passSound {ws : List Word16} (h : blockAccepted ws = true) : (blockParams ws).PassSound := by
  obtain ⟨-, -, hrange, hconsistent⟩ := (blockAccepted_iff ws).1 h
  obtain ⟨hshares, hdriveline, -⟩ := (consistent_iff _).1 hconsistent
  have hshare : blockNat ws 57 ≤ 1000 :=
    (blockInRange_mem hrange (first := 56) (count := 2) (lo := 0) (hi := 1000) (by decide) (i := 1) (by decide)).2
  have hlimit (i : Nat) (hi : i < 4) : blockNat ws (27 + i) ≤ 16000 :=
    (blockInRange_mem hrange (first := 27) (count := 4) (lo := 500) (hi := 16000) (by decide) hi).2
  refine ⟨blockInt_nonneg _ _, blockInt_nonneg _ _, blockInt_nonneg _ _, blockInt_nonneg _ _, blockInt_nonneg _ _,
    blockInt_nonneg _ _, blockInt_nonneg _ _, hshares, Int.ofNat_le.2 hshare, fun tow a => ?_⟩
  obtain ⟨hsolo, htow⟩ := hdriveline a
  cases tow
  · refine ⟨hsolo, ?_⟩
    cases a
    · exact Int.ofNat_le.2 (hlimit 0 (by decide))
    · exact Int.ofNat_le.2 (hlimit 1 (by decide))
  · refine ⟨htow, ?_⟩
    cases a
    · exact Int.ofNat_le.2 (hlimit 2 (by decide))
    · exact Int.ofNat_le.2 (hlimit 3 (by decide))

/-! ## The GRIP row stands at the regulators' ceilings (R60) -/

theorem State.GripFollows.of_same {s u : State} (hs : s.GripFollows) (hgrip : u.grip = s.grip)
    (hrow : u.table.grip = s.table.grip) : u.GripFollows := by
  unfold State.GripFollows at hs ⊢
  rwa [hgrip, hrow]

theorem gripFollows_resetRegulator (a : Axle) {s : State} (hs : s.GripFollows) : (resetRegulator a s).GripFollows := by
  intro b
  simp only [resetRegulator_eq, PerAxle.get_set]
  split
  · rfl
  · exact hs b

theorem gripFollows_foldl_applyReset (rs : List DeferredReset) {s : State} (hs : s.GripFollows) :
    (rs.foldl applyReset s).GripFollows := by
  induction rs generalizing s with
  | nil => exact hs
  | cons r rs ih =>
    refine ih ?_
    cases r with
    | previousCommands => exact hs
    | regulator a => exact gripFollows_resetRegulator a hs

theorem gripFollows_resetOrDefer (rs : List DeferredReset) {s : State} (hs : s.GripFollows) :
    (resetOrDefer rs s).GripFollows := by
  unfold resetOrDefer
  split
  · exact gripFollows_foldl_applyReset rs hs
  · exact hs

theorem gripFollows_changeAxle (a : Axle) (v : Supervisor) {s : State} (hs : s.GripFollows) :
    (changeAxle a v s).GripFollows := by
  simp only [changeAxle]
  split
  · exact gripFollows_resetOrDefer _ hs
  · exact hs

/-- A mode entry keeps the regulators and their cells, or resets them together. -/
theorem enterMode_grip (new : Mode) (cause : SafeCause) (s : State) :
    (enterMode new cause s).grip = (tellEngine s.modes.mode new (writeMode new cause s)).grip ∧
      (enterMode new cause s).table.grip = (tellEngine s.modes.mode new (writeMode new cause s)).table.grip := by
  simp [enterMode]

theorem tellEngine_grip (old new : Mode) (s : State) :
    new = .driving ∧ old = .dozing ∧
        (tellEngine old new s).grip = (resetOrDefer driveResets s).grip ∧
        (tellEngine old new s).table.grip = (resetOrDefer driveResets s).table.grip ∨
      (tellEngine old new s).grip = s.grip ∧ (tellEngine old new s).table.grip = s.table.grip := by
  cases new with
  | driving =>
    by_cases h : old = .dozing
    · exact .inl (by simp [tellEngine, h])
    · exact .inr (by simp [tellEngine, h])
  | fading => exact .inr ⟨rfl, rfl⟩
  | supplyDown =>
    simp only [tellEngine]
    split <;> exact .inr ⟨rfl, rfl⟩
  | start | dozing | supplyHalted | safe =>
    rw [tellEngine_of_still old s rfl]
    exact .inr ⟨rfl, rfl⟩

theorem gripFollows_enterMode (new : Mode) (cause : SafeCause) {s : State} (hs : s.GripFollows) :
    (enterMode new cause s).GripFollows := by
  have hwritten : (writeMode new cause s).GripFollows := hs
  obtain ⟨hgrip, hrow⟩ := enterMode_grip new cause s
  rcases tellEngine_grip s.modes.mode new (writeMode new cause s) with ⟨-, -, hreset, hreset'⟩ | ⟨hkept, hkept'⟩
  · exact (gripFollows_resetOrDefer driveResets hwritten).of_same (hgrip.trans hreset) (hrow.trans hreset')
  · exact hwritten.of_same (hgrip.trans hkept) (hrow.trans hkept')

theorem gripStage_ceiling (p : Params) (sn : Snapshot) (elapsed demand vref previous : Int) (reg : GripRegulator) (a : Axle) :
    ∃ g, (gripStage p sn elapsed demand vref previous reg a).ceiling = some g := by
  simp only [gripStage]
  split
  · exact ⟨_, rfl⟩
  · exact ⟨_, rfl⟩

/-- The regulator that a pass stores stands at the ceiling of its result record. -/
theorem computePass_grip (p : Params) (sn : Snapshot) (previous : PerAxle Int) (regs : PerAxle GripRegulator)
    (n : BitVec 32) (a : Axle) : ((computePass p sn previous regs n).grip.get a).ceiling =
      some ((computePass p sn previous regs n).record.gripCeiling.get a) := by
  have hgrip : (computePass p sn previous regs n).grip.get a =
      gripStage p sn (elapsedTime sn) (passDemand sn) (referenceSpeed p sn) (previous.get a) (regs.get a) a := by
    simp [computePass]
  obtain ⟨g, hg⟩ := gripStage_ceiling p sn (elapsedTime sn) (passDemand sn) (referenceSpeed p sn) (previous.get a) (regs.get a) a
  rw [hgrip, computePass_gripCeiling, hg]
  rfl

@[simp] theorem storeResults_grip (sn : Snapshot) (out : PassOut) (s : State) :
    (storeResults sn out s).grip = out.grip ∧
      (storeResults sn out s).table.grip = out.record.gripCeiling.map fun g => some (symmetric g) := by
  unfold storeResults storeSupply
  repeat' split
  all_goals simp [setSupplyCeilings]

theorem Act.gripFollows {c : Instr} {v w : State} (h : Act c v w) (hv : v.GripFollows) : w.GripFollows := by
  cases h
  case count op hop =>
    obtain ⟨counters, heq⟩ := counterOps_eq hop v
    rw [heq]
    exact hv
  case reset => exact gripFollows_resetOrDefer driveResets hv
  case enter new cause _ => exact gripFollows_enterMode new cause hv
  case restart =>
    intro a
    simp only [restartReport_grip, restartReport_table, restartLink_grip, restartLink_table, restartBlocks]
    cases a <;> rfl
  case store sn hpass hflight =>
    intro a
    simp [passOutcome, computePass_grip]
  case activate a hpass =>
    unfold activateAxle
    split
    · exact gripFollows_changeAxle a _ hv
    · exact hv
  case applyDeferred => exact gripFollows_foldl_applyReset _ hv
  case used i e hd hpass hj =>
    cases i with
    | frontStatus | rearStatus => exact gripFollows_changeAxle _ _ hv
    | demand | power | reference | stability => exact hv
    | tow => exact hv.of_same (by simp [writeContent]) (by simp [writeContent, useTow])
  case lose_stream i d hd hlate =>
    cases i with
    | frontStatus | rearStatus => exact gripFollows_changeAxle _ _ hv
    | demand | power | reference | stability => exact hv
    | tow => exact hv.of_same (by simp [writeFallback]) (by simp [writeFallback])
  case acceptBlock => exact gripFollows_enterMode _ _ (hv.of_same (by simp) (by simp [acceptTables]))
  case failStart => exact gripFollows_enterMode _ _ (s := { v with port := _, link := _, report := _ }) hv
  all_goals exact hv.of_same (by simp) (by simp)

end Sys2Proof.Machine

namespace Sys2Proof.Machine

/-! Every step keeps what a pass rests on (O55). -/

/-- The parameters stand where the arithmetic of a pass needs them. -/
def Params.KeepsPasses (p : Params) : Prop :=
  p.PassSound ∧ 0 ≤ p.fallbackCharge ∧
    ∀ a, 0 ≤ p.ratio.get a ∧ 0 ≤ p.derateCap.get a ∧ 0 ≤ p.stabilityFallback.get a

/-- What O55 states, clause by clause. -/
structure PassesKept (s : State) : Prop where
  start : s.port.reading = true → s.engine.flight = none ∧ ∀ a, (s.grip.get a).ceiling = none
  inverter : ∀ a b, s.table.inverter.get a = some b → b.containsZero
  caps : ∀ a c, s.table.stability.get a = some c → 0 ≤ c.cap
  supply : s.modes.mode = .supplyDown → s.engine.flight = none → ∀ a, s.table.supply.get a ≠ none
  flightSupply : ∀ sn, s.engine.flight = some sn → sn.SupplyPresent
  params : ∀ p, s.params = some p → p.KeepsPasses
  charge : ∀ p, s.params = some p → 0 ≤ s.records.power.charge
  floors : ∀ p, s.params = some p → ∀ a g, (s.grip.get a).ceiling = some g → p.gripFloor ≤ g
  flights : ∀ p, s.params = some p → ∀ sn, s.engine.flight = some sn → sn.Sound p ∧ 0 ≤ sn.power.charge

theorem passesKept_iff (s : State) : PassesKept s ↔ s.PassesSound := by
  constructor
  · intro h
    refine ⟨h.start, h.inverter, h.caps, h.supply, h.flightSupply, fun p hp => ?_⟩
    obtain ⟨hsound, hfallback, haxles⟩ := h.params p hp
    exact ⟨hsound, hfallback, h.charge p hp, haxles, h.floors p hp, h.flights p hp⟩
  · rintro ⟨hstart, hinverter, hcaps, hsupply, hflight, hparams⟩
    refine ⟨hstart, hinverter, hcaps, hsupply, hflight, fun p hp => ?_, fun p hp => ?_, fun p hp => ?_, fun p hp => ?_⟩
    all_goals obtain ⟨hsound, hfallback, hcharge, haxles, hfloors, hflights⟩ := hparams p hp
    · exact ⟨hsound, hfallback, haxles⟩
    · exact hcharge
    · exact hfloors
    · exact hflights

/-- Without a block the parameters read as 0, which is as good. -/
theorem PassesKept.par_nonneg {s : State} (hs : PassesKept s) :
    0 ≤ s.par.fallbackCharge ∧
      ∀ a, 0 ≤ s.par.ratio.get a ∧ 0 ≤ s.par.derateCap.get a ∧ 0 ≤ s.par.stabilityFallback.get a := by
  cases hp : s.params with
  | none =>
    simp only [State.par, hp, Option.getD_none]
    exact ⟨le_refl _, fun a => by cases a <;> exact ⟨le_refl _, le_refl _, le_refl _⟩⟩
  | some p =>
    rw [par_of_params hp]
    exact (hs.params p hp).2

/-- Nothing that a pass rests on has changed. -/
theorem PassesKept.of_same {s u : State} (hs : PassesKept s) (hreading : u.port.reading = s.port.reading)
    (hparams : u.params = s.params) (hmode : u.modes.mode = s.modes.mode) (hflight : u.engine.flight = s.engine.flight)
    (hgrip : u.grip = s.grip) (hinverter : u.table.inverter = s.table.inverter)
    (hcaps : u.table.stability = s.table.stability) (hsupply : u.table.supply = s.table.supply)
    (hpower : u.records.power = s.records.power) : PassesKept u := by
  obtain ⟨h1, h2, h3, h4, h5, h6, h7, h8, h9⟩ := hs
  constructor
  · rwa [hreading, hflight, hgrip]
  · rwa [hinverter]
  · rwa [hcaps]
  · rwa [hmode, hflight, hsupply]
  · rwa [hflight]
  · rwa [hparams]
  · rwa [hparams, hpower]
  · rwa [hparams, hgrip]
  · rwa [hparams, hflight]

/-- What the invariants of the table, the regulators and the passes give together. -/
structure PassReady (s : State) : Prop where
  follows : Follows s
  grip : s.GripFollows
  passes : PassesKept s

/-! ## The snapshot of a pass that starts -/

theorem cell_containsZero {derate : Int} (h : 0 ≤ derate) {st : AxleState} {accepting : Bool} {b : Bounds}
    (hb : st.cell derate accepting = some b) : b.containsZero := by
  cases st <;> cases accepting <;> cases hb <;> simp [Bounds.containsZero, h]

/-- The snapshot of a pass that starts is sound: the constraint table gave it. -/
theorem takeSnapshot_sound {s : State} (hs : PassReady s) {p : Params} (hp : s.params = some p) :
    (takeSnapshot s).Sound p ∧ 0 ≤ (takeSnapshot s).power.charge := by
  refine ⟨fun a => ⟨hs.follows.driveline p hp a, hs.passes.inverter a, fun b hb => ?_, hs.passes.caps a, fun b hb => ?_⟩,
    hs.passes.charge p hp⟩
  · obtain ⟨-, -, haxles⟩ := hs.passes.params p hp
    have hcell : s.table.axle.get a = some b := hb
    rw [hs.follows.axle p hp a] at hcell
    exact cell_containsZero (haxles a).2.1 hcell
  · have hrow : s.table.grip.get a = some b := hb
    rw [hs.grip a, Option.map_eq_some_iff] at hrow
    obtain ⟨g, hg, rfl⟩ := hrow
    exact hs.passes.floors p hp a g hg

theorem passesKept_startPass {s : State} (hs : PassReady s) (hreading : s.port.reading = false)
    (hsupply : s.modes.mode = .supplyDown → ∀ a, s.table.supply.get a ≠ none) : PassesKept (startPass s) := by
  refine { hs.passes with
    start := fun h => ?_, supply := fun _ h => ?_, flightSupply := fun sn h => ?_, flights := fun p hp sn h => ?_ }
  · rw [startPass_port, hreading] at h
    cases h
  · cases h
  · cases h
    exact hsupply
  · cases h
    exact takeSnapshot_sound hs hp

theorem passesKept_requestPass {s : State} (hs : PassReady s) (hstart : s.StartSound) : PassesKept (requestPass s) := by
  cases hruns : s.modes.mode.runsPasses
  · rw [requestPass_of_still hruns]
    exact hs.passes
  · have hreading : s.port.reading = false := Bool.eq_false_iff.2 fun h => by simp [(hstart h).1] at hruns
    cases hflight : s.engine.flight with
    | none =>
      rw [requestPass_of_idle hruns hflight]
      exact passesKept_startPass hs hreading fun hmode => hs.passes.supply hmode hflight
    | some sn =>
      rw [requestPass_of_flying hruns hflight]
      exact hs.passes.of_same rfl rfl rfl rfl rfl rfl rfl rfl rfl

/-! ## Resets -/

theorem passesKept_resetRegulator (a : Axle) {s : State} (hs : PassesKept s) : PassesKept (resetRegulator a s) := by
  have hceiling (b : Axle) (g : Int) (h : ((s.grip.set a GripRegulator.reset).get b).ceiling = some g) :
      (s.grip.get b).ceiling = some g := by
    rw [PerAxle.get_set] at h
    split at h
    · cases h
    · exact h
  rw [resetRegulator_eq]
  refine { hs with
    start := fun h => ⟨(hs.start h).1, fun b => ?_⟩, floors := fun p hp b g hg => hs.floors p hp b g (hceiling b g hg) }
  rw [PerAxle.get_set]
  split
  · rfl
  · exact (hs.start h).2 b

theorem passesKept_foldl_applyReset (rs : List DeferredReset) {s : State} (hs : PassesKept s) :
    PassesKept (rs.foldl applyReset s) := by
  induction rs generalizing s with
  | nil => exact hs
  | cons r rs ih =>
    refine ih ?_
    cases r with
    | previousCommands => exact hs.of_same rfl rfl rfl rfl rfl rfl rfl rfl rfl
    | regulator a => exact passesKept_resetRegulator a hs

theorem passesKept_resetOrDefer (rs : List DeferredReset) {s : State} (hs : PassesKept s) :
    PassesKept (resetOrDefer rs s) := by
  unfold resetOrDefer
  split
  · exact passesKept_foldl_applyReset rs hs
  · exact hs.of_same rfl rfl rfl rfl rfl rfl rfl rfl rfl

theorem passesKept_changeAxle (a : Axle) (v : Supervisor) {s : State} (hs : PassesKept s) :
    PassesKept (changeAxle a v s) := by
  have hwritten : PassesKept (writeAxleCell a (setSupervisor a v s)) :=
    hs.of_same rfl rfl rfl rfl rfl rfl rfl rfl rfl
  simp only [changeAxle]
  split
  · exact passesKept_resetOrDefer _ hwritten
  · exact hwritten

/-! ## Mode entries -/

theorem passesKept_writeMode {s : State} (hs : PassesKept s) {new : Mode} (cause : SafeCause) (hnew : new ≠ .supplyDown) :
    PassesKept (writeMode new cause s) :=
  { hs with supply := fun h => absurd h hnew }

theorem PassReady.of_same {s u : State} (hs : PassReady s) (hpasses : PassesKept u) (hparams : u.params = s.params)
    (hstates : ∀ i, (u.streams.get i).state = (s.streams.get i).state) (hrecords : u.records = s.records)
    (hdriveline : u.table.driveline = s.table.driveline) (hinverter : u.table.inverter = s.table.inverter)
    (haxle : u.table.axle = s.table.axle) (hcaps : u.table.stability = s.table.stability)
    (haxles : ∀ a, (u.axles.get a).state = (s.axles.get a).state) (hgrip : u.grip = s.grip)
    (hrow : u.table.grip = s.table.grip) : PassReady u :=
  ⟨hs.follows.of_same hparams hstates hrecords hdriveline hinverter haxle hcaps haxles, hs.grip.of_same hgrip hrow, hpasses⟩

theorem startSound_of_unread {s : State} (h : s.port.reading = false) : s.StartSound := fun hreading => by simp [h] at hreading

/-- At the entry into SUPPLY DOWN an IDLE engine finds its SUPPLY cells (R61). -/
theorem passesKept_supplyEntered {s : State} (hs : PassesKept s) (cause : SafeCause) :
    PassesKept (if s.engine.flight.isNone then setSupplyCeilings (writeMode .supplyDown cause s)
      else writeMode .supplyDown cause s) := by
  split
  · exact { hs with supply := fun _ _ a => by simp }
  next hflying => exact { hs with supply := fun _ h => absurd (Option.isNone_iff_eq_none.2 h) hflying }

theorem stoodStill_inputs (old new : Mode) (cause : SafeCause) (s : State) :
    (stoodStill old new cause s).port = s.port ∧ (stoodStill old new cause s).params = s.params ∧
      (stoodStill old new cause s).records = s.records := by
  simp [stoodStill]

theorem passesKept_stoodStill {s : State} (hs : PassesKept s) {new : Mode} (cause : SafeCause)
    (hstill : new.runsPasses = false) (hnew : new ≠ .supplyDown) :
    PassesKept (stoodStill s.modes.mode new cause s) := by
  obtain ⟨hport, hparams, hrecords⟩ := stoodStill_inputs s.modes.mode new cause s
  obtain ⟨hengine, hgrip, -, -, hinverter, hcaps, -, -, -, -, hmodes⟩ :=
    stoodStill_frame (old := s.modes.mode) cause s hstill
  constructor
  · rw [hport, hengine, hgrip]
    exact hs.start
  · rw [hinverter]
    exact hs.inverter
  · rw [hcaps]
    exact hs.caps
  · rw [hmodes]
    exact fun h => absurd h hnew
  · rw [hengine]
    exact hs.flightSupply
  · rw [hparams]
    exact hs.params
  · rw [hparams, hrecords]
    exact hs.charge
  · rw [hparams, hgrip]
    exact hs.floors
  · rw [hparams, hengine]
    exact hs.flights

theorem passesKept_enterStill {s : State} (hs : PassesKept s) {new : Mode} (cause : SafeCause)
    (hstill : new.runsPasses = false) (hnew : new ≠ .supplyDown) : PassesKept (enterMode new cause s) := by
  rw [enterMode_still cause s hstill]
  refine (passesKept_stoodStill hs cause hstill hnew).of_same ?_ ?_ ?_ ?_ ?_ ?_ ?_ ?_ ?_ <;> simp

theorem passesKept_enterMode {s : State} (hs : PassReady s) (new : Mode) (cause : SafeCause)
    (hreading : new.runsPasses = true → s.port.reading = false) : PassesKept (enterMode new cause s) := by
  cases new with
  | fading =>
    refine passesKept_requestPass (s := writeMode .fading cause s) ?_ (startSound_of_unread (hreading rfl))
    exact hs.of_same (passesKept_writeMode hs.passes cause nofun) rfl (fun _ => rfl) rfl rfl rfl rfl rfl (fun _ => rfl) rfl rfl
  | supplyDown =>
    rw [enterMode_supplyDown]
    refine passesKept_requestPass (hs.of_same ?_ ?_ ?_ ?_ ?_ ?_ ?_ ?_ ?_ ?_ ?_) (startSound_of_unread ?_)
    · exact (passesKept_supplyEntered hs.passes cause).of_same (by simp) (by simp) (by simp) (by simp) (by simp) (by simp)
        (by simp) (by simp) (by simp)
    all_goals split <;> simp [hreading]
  | driving =>
    have hwritten : PassesKept (writeMode .driving cause s) := passesKept_writeMode hs.passes cause (by decide)
    by_cases hmode : s.modes.mode = .dozing
    · rw [enterMode_driving_of_dozing cause hmode]
      exact (passesKept_resetOrDefer driveResets hwritten).of_same rfl rfl rfl rfl rfl rfl rfl rfl rfl
    · rw [enterMode_driving_of_other cause hmode]
      exact hwritten
  | start | dozing | supplyHalted | safe =>
    exact passesKept_enterStill hs.passes cause rfl (by decide)

/-! ## The content of frames -/

theorem clampTo_nonneg {hi v : Int} (h : 0 ≤ hi) : 0 ≤ clampTo 0 hi v := (clampTo_bounds v h).1

/-- An INVERTER cell contains 0: neither capability is negative (R52). -/
theorem inverterCell_containsZero {p : Params} {a : Axle} (h : 0 ≤ p.ratio.get a) (ws : List Word16) :
    (inverterCell p a (statusContent ws)).containsZero := by
  have hdrive : 0 ≤ axleTorque (p.ratio.get a) (statusContent ws).driveCapability :=
    truncDiv_nonneg (mul_nonneg (clampTo_nonneg (by decide)) h) (by decide)
  have hregen : 0 ≤ axleTorque (p.ratio.get a) (statusContent ws).regenCapability :=
    truncDiv_nonneg (mul_nonneg (clampTo_nonneg (by decide)) h) (by decide)
  refine ⟨?_, hdrive⟩
  simp only [inverterCell]
  omega

theorem stabilityCell_cap_nonneg {now : Time} {e : IntakeEntry} {a : Axle} {c : StabilityCap}
    (h : stabilityCell now e a = some c) : 0 ≤ c.cap := by
  simp only [stabilityCell] at h
  split at h
  · cases h
  · cases h
    exact Int.natCast_nonneg _

theorem passesKept_writeStatus {s : State} (hs : PassesKept s) (a : Axle) (r : StreamRecord) (f : AxleStatus)
    {cell : Option Bounds} (hcell : ∀ b, cell = some b → b.containsZero) (v : Supervisor) :
    PassesKept (changeAxle a v (writeStatus a r f cell s)) := by
  refine passesKept_changeAxle a v { hs with inverter := fun b x hx => ?_ }
  have hx' : (s.table.inverter.set a cell).get b = some x := hx
  rw [PerAxle.get_set] at hx'
  split at hx'
  · exact hcell x hx'
  · exact hs.inverter b x hx'

theorem passesKept_setStream {s : State} (hs : PassesKept s) (i : StreamId) (r : StreamRecord) :
    PassesKept (setStream i r s) := hs.of_same rfl rfl rfl rfl rfl rfl rfl rfl rfl

theorem passesKept_used {s : State} (hs : PassesKept s) (i : StreamId) (e : IntakeEntry) (r : StreamRecord) :
    PassesKept (writeContent i (currentTow s) e (setStream i r s)) := by
  obtain ⟨-, haxles⟩ := hs.par_nonneg
  have hset := passesKept_setStream hs i r
  cases i with
  | demand | reference => exact hset.of_same rfl rfl rfl rfl rfl rfl rfl rfl rfl
  | frontStatus =>
    exact passesKept_writeStatus hs .front r _ (by rintro b ⟨⟩; exact inverterCell_containsZero (haxles .front).1 _) _
  | rearStatus =>
    exact passesKept_writeStatus hs .rear r _ (by rintro b ⟨⟩; exact inverterCell_containsZero (haxles .rear).1 _) _
  | power => exact { hset with charge := fun _ _ => clampTo_nonneg (by decide) }
  | stability =>
    refine { hset with caps := fun a c hc => ?_ }
    have hc' : (PerAxle.of fun a => stabilityCell s.now e a).get a = some c := hc
    rw [PerAxle.get_of] at hc'
    exact stabilityCell_cap_nonneg hc'
  | tow =>
    exact hset.of_same (by simp [writeContent]) (by simp) (by simp) (by simp) (by simp [writeContent])
      (by simp [writeContent, useTow]) (by simp [writeContent, useTow]) (by simp [writeContent, useTow])
      (by simp [writeContent, useTow])

theorem passesKept_lost {s : State} (hs : PassesKept s) (i : StreamId) (r : StreamRecord) :
    PassesKept (writeFallback i (currentTow s) (setStream i r s)) := by
  obtain ⟨hcharge, haxles⟩ := hs.par_nonneg
  have hset := passesKept_setStream hs i r
  cases i with
  | demand | reference => exact hset.of_same rfl rfl rfl rfl rfl rfl rfl rfl rfl
  | frontStatus => exact passesKept_writeStatus hs .front r _ (fun _ h => by cases h) _
  | rearStatus => exact passesKept_writeStatus hs .rear r _ (fun _ h => by cases h) _
  | power => exact { hset with charge := fun _ _ => hcharge }
  | stability =>
    refine { hset with caps := fun a c hc => ?_ }
    have hc' : (fallbackCaps s.par).get a = some c := hc
    rw [fallbackCaps, PerAxle.get_map] at hc'
    cases hc'
    exact (haxles a).2.2
  | tow =>
    exact hset.of_same (by simp [writeFallback]) (by simp) (by simp) (by simp) (by simp [writeFallback])
      (by simp [writeFallback]) (by simp [writeFallback]) (by simp [writeFallback])
      (by simp [writeFallback])

/-! ## Every operation -/

/-- A cap that an expiry leaves stood before it (R58). -/
theorem eq_some_of_expireCell {due : Time → Bool} {cell : Option StabilityCap} {c : StabilityCap}
    (h : expireCell due cell = some c) : cell = some c := by
  cases cell with
  | none => cases h
  | some v =>
    simp only [expireCell] at h
    split at h
    · exact h
    · split at h
      · cases h
      · exact h

theorem passesKept_accept {s : State} (hs : PassReady s) (hstart : s.StartSound) (hreading : s.port.reading = true)
    {words : List Word16} (hwords : blockAccepted words = true) :
    PassesKept (acceptLink (blockParams words) (acceptTables (blockParams words) s)) := by
  obtain ⟨hidle, hreset⟩ := hs.passes.start hreading
  obtain ⟨hmode, -⟩ := hstart hreading
  have hflight (sn : Snapshot) : (acceptLink (blockParams words) (acceptTables (blockParams words) s)).engine.flight ≠ some sn := by
    simp [hidle]
  constructor
  · intro h
    simp [acceptTables, MemoryPort.endAttempt] at h
  · exact hs.passes.inverter
  · exact hs.passes.caps
  · intro h
    simp [hmode] at h
  · exact fun sn h => absurd h (hflight sn)
  · rintro p ⟨⟩
    refine ⟨blockParams_passSound hwords, blockInt_nonneg _ _, fun a => ?_⟩
    cases a <;> exact ⟨blockInt_nonneg _ _, blockInt_nonneg _ _, blockInt_nonneg _ _⟩
  · exact fun _ _ => blockInt_nonneg _ _
  · intro p _ a g hg
    have hceiling : (s.grip.get a).ceiling = some g := hg
    rw [hreset a] at hceiling
    cases hceiling
  · exact fun _ _ sn h => absurd h (hflight sn)

theorem passesKept_restartBlocks {s : State} (hs : PassesKept s) : PassesKept (restartBlocks s) := by
  constructor
  · exact fun _ => ⟨rfl, fun a => by cases a <;> rfl⟩
  · intro a b hb
    cases a <;> cases hb
  · intro a c hc
    cases a <;> cases hc
  · intro h
    cases h
  · intro _ h
    cases h
  · exact hs.params
  · exact fun _ _ => hs.par_nonneg.1
  · intro p _ a g hg
    have hnone : ((⟨.reset, .reset⟩ : PerAxle GripRegulator).get a).ceiling = some g := hg
    cases a <;> cases hnone
  · intro _ _ _ h
    cases h

theorem passesKept_store {s : State} (hs : PassReady s) {sn : Snapshot} (hflight : s.engine.flight = some sn) :
    PassesKept (storeResults sn (passOutcome sn s) s) := by
  obtain ⟨-, hinverter, -, hstability⟩ := storeResults_rows sn (passOutcome sn s) s
  have hengine : (storeResults sn (passOutcome sn s) s).engine.flight = some sn := by simpa [storeResults] using hflight
  constructor
  · intro h
    have hreading : s.port.reading = true := by simpa using h
    rw [(hs.passes.start hreading).1] at hflight
    cases hflight
  · rw [hinverter]
    exact hs.passes.inverter
  · rw [hstability]
    exact hs.passes.caps
  · intro _ h
    rw [hengine] at h
    cases h
  · rw [hengine, ← hflight]
    exact hs.passes.flightSupply
  · simpa using hs.passes.params
  · simpa using hs.passes.charge
  · intro p hp a g hg
    have hp' : s.params = some p := by simpa using hp
    rw [(storeResults_grip _ _ _).1, passOutcome, computePass_grip] at hg
    cases hg
    obtain ⟨hsound, -⟩ := hs.passes.params p hp'
    rw [par_of_params hp']
    exact (computePass_gripCeiling_bounds hsound (hs.passes.flights p hp' sn hflight).1 _ _ _ a).1
  · rw [hengine, ← hflight]
    simpa using hs.passes.flights

theorem passesKept_startPending {s : State} (hs : PassReady s) (hstart : s.StartSound)
    (hsupply : s.modes.mode = .supplyDown → ∀ a, s.table.supply.get a ≠ none) : PassesKept (startPending s) := by
  unfold startPending
  split
  · split
    next hruns =>
      exact passesKept_startPass hs (Bool.eq_false_iff.2 fun h => by simp [(hstart h).1] at hruns) hsupply
    next => exact hs.passes.of_same rfl rfl rfl rfl rfl rfl rfl rfl rfl
  · exact hs.passes

theorem Act.passesKept {c : Instr} {v w : State} (h : Act c v w) (hstart : v.StartSound) (hv : PassReady v) : PassesKept w := by
  have hs := hv.passes
  cases h
  case count op hop =>
    obtain ⟨counters, heq⟩ := counterOps_eq hop v
    rw [heq]
    exact hs.of_same rfl rfl rfl rfl rfl rfl rfl rfl rfl
  case pop | unmark | conflict | refuse | stopTimer => exact hs.of_same rfl rfl rfl rfl rfl rfl rfl rfl rfl
  case request => exact passesKept_requestPass hv hstart
  case reset => exact passesKept_resetOrDefer driveResets hs
  case keepRestore b hmode => exact hs.of_same rfl rfl rfl rfl rfl rfl rfl rfl rfl
  case enter new cause henters =>
    exact passesKept_enterMode hv new cause fun _ => Bool.eq_false_iff.2 fun h => henters.notStart (hstart h).1
  case restart =>
    refine (passesKept_restartBlocks hs).of_same ?_ ?_ ?_ ?_ ?_ ?_ ?_ ?_ ?_ <;> simp
  case store sn hpass hflight => exact passesKept_store hv hflight
  case countPass => exact hs.of_same rfl rfl rfl rfl rfl rfl rfl rfl rfl
  case activate a hpass =>
    unfold activateAxle
    split
    · exact passesKept_changeAxle a _ hs
    · exact hs
  case applyDeferred => exact (passesKept_foldl_applyReset _ hs).of_same rfl rfl rfl rfl rfl rfl rfl rfl rfl
  case land hpass hdeferred hsupply =>
    exact { hs with
      start := fun h => ⟨rfl, (hs.start h).2⟩, supply := fun hmode _ => hsupply hmode,
      flightSupply := fun _ h => (nomatch h)
      flights := fun _ _ _ h => (nomatch h) }
  case pending hpass hsupply => exact passesKept_startPending hv hstart hsupply
  case malformed r hd =>
    unfold countMalformed
    split
    · exact passesKept_setStream hs _ _
    · exact hs
    · exact hs
  case unused => exact passesKept_setStream hs _ _
  case used i e hd hpass hj => exact passesKept_used hs i e _
  case expire => exact passesKept_setStream hs _ _
  case lose_stream i d hd hlate => exact passesKept_lost hs i _
  case holds due =>
    refine { hs with caps := fun a c hc => ?_ }
    have hc' : (v.table.stability.map (expireCell due)).get a = some c := hc
    rw [PerAxle.get_map] at hc'
    exact hs.caps a c (eq_some_of_expireCell hc')
  case reread hread hreading hfew => exact { hs with start := fun _ => hs.start hreading }
  case acceptBlock words hread hwords hreading =>
    obtain ⟨-, -, -, -, -, hfront, hrear, hunheard⟩ := hstart hreading
    refine passesKept_enterMode ⟨follows_accept hv.follows _ hfront hrear hunheard,
      hv.grip.of_same (by simp) (by simp [acceptTables]), passesKept_accept hv hstart hreading hwords⟩ _ _ fun hruns => ?_
    split at hruns <;> cases hruns
  case failStart hread hreading =>
    refine passesKept_enterMode (s := { v with port := _, link := _, report := _ }) ?_ .safe .parameter nofun
    exact hv.of_same { hs with start := fun h => nomatch h } rfl (fun _ => rfl) rfl rfl rfl rfl rfl (fun _ => rfl) rfl rfl
  all_goals exact hs.of_same (by simp) (by simp) (by simp) (by simp) (by simp) (by simp) (by simp) (by simp) (by simp)

theorem Act.passReady {c : Instr} {v w : State} (h : Act c v w) (hstart : v.StartSound) (hv : PassReady v) : PassReady w :=
  ⟨h.follows (fun _ => hstart) hv.follows, h.gripFollows hv.grip, h.passesKept hstart hv⟩

theorem event_passReady {c : Instr} (hc : c ≠ .powerOnReset) {s : State} (hstart : s.StartSound) (hs : PassReady s) :
    PassReady (settle s (afterEffect c s)) := by
  have hkept := afterEffect_keeps_sound hc hstart (fun _ _ h => h.passReady)
    (hs.of_same (u := { s with now := commandTime c }) (hs.passes.of_same rfl rfl rfl rfl rfl rfl rfl rfl rfl)
      rfl (fun _ => rfl) rfl rfl rfl rfl rfl (fun _ => rfl) rfl rfl)
  refine hkept.of_same (hkept.passes.of_same ?_ ?_ ?_ ?_ ?_ ?_ ?_ ?_ ?_) ?_ ?_ ?_ ?_ ?_ ?_ ?_ ?_ ?_ ?_ <;> simp

theorem powerOnReset_passReady (s : State) : PassReady (powerOnReset s) := by
  obtain ⟨hrecords, htable, hgrip, -, -, -, -, hpasses⟩ := powerOnReset_invariants s
  exact ⟨(follows_iff _).2 ⟨hrecords, htable⟩, hgrip, (passesKept_iff _).2 hpasses⟩

/-- Settles O55: each operation of an event keeps the cells, the regulators and the snapshots sound. -/
theorem everyStepKeepsPassesSound : Obligations.EveryStepKeepsPassesSound := by
  unfold Obligations.EveryStepKeepsPassesSound
  intro s u hstart hrecords htable hgrip hpasses hstep
  refine (passesKept_iff u).1 (PassReady.passes ?_)
  refine step_keeps (P := fun v => v.StartSound ∧ PassReady v) (Q := PassReady) hstep And.right (fun rest h => ?_)
    (fun v _ => powerOnReset_passReady v) (fun c v hc hv => event_passReady hc hv.1 hv.2)
    ⟨hstart, (follows_iff s).2 ⟨hrecords, htable⟩, hgrip, (passesKept_iff s).2 hpasses⟩
  exact ⟨h.1, h.2.of_same (h.2.passes.of_same rfl rfl rfl rfl rfl rfl rfl rfl rfl) rfl (fun _ => rfl) rfl rfl rfl rfl rfl
    (fun _ => rfl) rfl rfl⟩

end Sys2Proof.Machine

namespace Sys2Proof.Machine

/-! Every step keeps the windows, the change flags, the status lines and the alerts (O56). -/

/-! ## The windows (R32, R33) -/

/-- A window runs for the stream of a record exactly when it has been heard. -/
def StreamRecord.WindowSound (r : StreamRecord) : Prop := r.state = .unheard ↔ r.deadline = none

theorem afterUse_windowSound (r : StreamRecord) (e : IntakeEntry) : (r.afterUse e).WindowSound := by
  simp [StreamRecord.WindowSound, StreamRecord.afterUse, StreamRecord.arrived]

theorem afterFrame_windowSound {r : StreamRecord} (e : IntakeEntry) (hr : r.WindowSound) :
    (r.afterFrame e (judgeFrame r e)).WindowSound := by
  have hheard (h : judgeFrame r e = .qualifies ∨ judgeFrame r e = .restarts) : r.state ≠ .unheard := by
    intro hstate
    unfold judgeFrame at h
    simp [hstate] at h
    split at h <;> simp at h
  cases hj : judgeFrame r e with
  | used => exact afterUse_windowSound r e
  | repeated => exact hr
  | qualifies => simpa [StreamRecord.WindowSound, StreamRecord.afterFrame, StreamRecord.arrived] using hheard (.inl hj)
  | restarts => simpa [StreamRecord.WindowSound, StreamRecord.afterFrame, StreamRecord.arrived] using hheard (.inr hj)

theorem expired_windowSound {r : StreamRecord} (d : Time) (hr : r.WindowSound) : (r.expired d).WindowSound := by
  unfold StreamRecord.expired
  split
  · exact hr
  all_goals simp_all [StreamRecord.WindowSound]

theorem windowsSound_setStream {s : State} (hs : s.WindowsSound) (i : StreamId) {r : StreamRecord} (hr : r.WindowSound) :
    (setStream i r s).WindowsSound := by
  intro j
  simp only [setStream, PerStream.get_set]
  split
  · exact hr
  · exact hs j

theorem windowsSound_map {s u : State} {f : StreamRecord → StreamRecord} (hs : s.WindowsSound)
    (heq : u.streams = s.streams.map f) (hf : ∀ r, StreamRecord.WindowSound r → (f r).WindowSound) : u.WindowsSound := by
  intro i
  rw [heq, PerStream.get_map]
  exact hf _ (hs i)

theorem State.WindowsSound.of_same {s u : State} (hs : s.WindowsSound) (heq : u.streams = s.streams) : u.WindowsSound := by
  unfold State.WindowsSound at hs ⊢
  rwa [heq]

theorem Act.windowsSound {c : Instr} {v w : State} (h : Act c v w) (hv : v.WindowsSound) : w.WindowsSound := by
  cases h
  case count op hop =>
    obtain ⟨counters, heq⟩ := counterOps_eq hop v
    rw [heq]
    exact hv
  case statusTimer =>
    unfold expireStatusTimer
    split
    · exact hv
    · split
      · exact windowsSound_map hv (placeStatus_streams _ _) fun _ hr => hr
      · exact hv
  case statusSent q => exact windowsSound_map hv (statusDelivered_streams q v) fun _ hr => hr
  case restart =>
    exact windowsSound_map (f := StreamRecord.restarted) hv (by simp [restartBlocks]) fun _ _ => iff_of_true rfl rfl
  case malformed r hd =>
    unfold countMalformed
    split
    next i => exact windowsSound_setStream hv i (hv i)
    · exact hv
    · exact hv
  case unused i e hd hj => exact windowsSound_setStream hv i (afterFrame_windowSound e (hv i))
  case used i e hd hpass hj => exact (windowsSound_setStream hv i (afterUse_windowSound (v.streams.get i) e)).of_same (by simp)
  case expire i d hd hlate => exact windowsSound_setStream hv i (expired_windowSound d (hv i))
  case lose_stream i d hd hlate => exact (windowsSound_setStream hv i (expired_windowSound d (hv i))).of_same (by simp)
  case acceptBlock words _ _ _ =>
    intro i
    simp only [Machine.acceptBlock, enterMode_frame, acceptLink_streams, acceptTables, configureStreams_get]
    exact hv i
  all_goals exact hv.of_same (by simp)

theorem settle_windowsSound (before : State) {s : State} (hs : s.WindowsSound) : (settle before s).WindowsSound := by
  intro i
  simpa using hs i

/-! ## The change flags (R39, R167, R168) -/

/-- No event leaves a flag SET: where one was raised a STATUS carries it. -/
theorem settle_flagsReported {before : State} (h : before.FlagsReported) (s : State) : (settle before s).FlagsReported := by
  intro i hset
  rw [settle_streams] at hset
  split at hset
  · cases hflag : (s.streams.get i).flag <;> simp [hflag, ChangeFlag.carry] at hset
  next hsame =>
    refine hsame ?_
    simp only [reportsChange, Bool.or_eq_true]
    exact .inr ((flagRaised_iff _ _).2 ⟨i, hset, h i⟩)

/-! ## What an event's own effects leave of the report unit -/

/-- The report unit shows what it showed: the alerts, the leading alert, the status lines and the placement number. -/
structure ReportUnit.Shows (r q : ReportUnit) : Prop where
  alerts : q.alerts = r.alerts
  leading : q.leading = r.leading
  sta : q.sta = r.sta
  stb : q.stb = r.stb
  placement : q.placement = r.placement

theorem ReportUnit.Shows.refl (r : ReportUnit) : r.Shows r := ⟨rfl, rfl, rfl, rfl, rfl⟩

theorem ReportUnit.Shows.trans {r q x : ReportUnit} (h₁ : r.Shows q) (h₂ : q.Shows x) : r.Shows x :=
  ⟨h₂.alerts.trans h₁.alerts, h₂.leading.trans h₁.leading, h₂.sta.trans h₁.sta, h₂.stb.trans h₁.stb,
    h₂.placement.trans h₁.placement⟩

theorem ReportUnit.Shows.of_eq {r q : ReportUnit} (h : q = r) : r.Shows q := h ▸ .refl r

theorem shows_discardOlder (k : OwnKind) (s : State) : s.report.Shows (discardOlder k s).report := by
  unfold discardOlder
  split
  · exact ⟨rfl, rfl, rfl, rfl, rfl⟩
  · exact .refl _

theorem shows_takePlacement (f : OutFrame) (s : State) : s.report.Shows (takePlacement f s).report := by
  unfold takePlacement
  split
  · exact shows_discardOlder f.kind s
  · exact .refl _

theorem shows_placeFrame (entering : Bool) (f : OutFrame) (s : State) : s.report.Shows (placeFrame entering f s).report := by
  unfold placeFrame
  split
  · exact .refl _
  · exact shows_takePlacement f s

theorem shows_returnFrame (f : OutFrame) (s : State) : s.report.Shows (returnFrame f s).report := by
  unfold returnFrame
  split
  · exact shows_discardOlder _ s
  · exact ⟨rfl, rfl, rfl, rfl, rfl⟩

theorem shows_sendReply (r : Reply) (s : State) : s.report.Shows (sendReply r s).report := by
  unfold sendReply
  split
  · exact ⟨rfl, rfl, rfl, rfl, rfl⟩
  · split
    · exact ⟨rfl, rfl, rfl, rfl, rfl⟩
    · refine .trans ?_ (shows_takePlacement _ _)
      exact ⟨rfl, rfl, rfl, rfl, rfl⟩

theorem shows_placeCommand (a : Axle) (tenths : Int) (code : StateCode) (bound enable : Bool) (s : State) :
    s.report.Shows (placeCommand a tenths code bound enable s).report := by
  unfold placeCommand
  refine .trans ?_ (shows_placeFrame false _ _)
  exact .refl s.report

theorem shows_placeReport (out : PassOut) (s : State) : s.report.Shows (placeReport out s).report := by
  unfold placeReport
  refine .trans ?_ (shows_placeFrame false _ _)
  exact .refl s.report

theorem shows_activateAxle (a : Axle) (s : State) : s.report.Shows (activateAxle a s).report := by
  unfold activateAxle
  split
  · constructor <;> simp
  · exact .refl _

theorem shows_applyDeferred (s : State) : s.report.Shows (applyDeferred s).report := by
  constructor <;> simp [applyDeferred]

theorem shows_enterMode (new : Mode) (cause : SafeCause) (s : State) : s.report.Shows (enterMode new cause s).report := by
  constructor <;> simp

/-- The status timer's expiry places a STATUS: the placement number aside, the report unit shows what it showed. -/
theorem expireStatusTimer_shown (s : State) :
    (expireStatusTimer s).report.alerts = s.report.alerts ∧ (expireStatusTimer s).report.leading = s.report.leading ∧
      (expireStatusTimer s).report.sta = s.report.sta ∧ (expireStatusTimer s).report.stb = s.report.stb := by
  unfold expireStatusTimer
  split
  · exact ⟨rfl, rfl, rfl, rfl⟩
  · split
    · simp [placeStatus_report]
    · exact ⟨rfl, rfl, rfl, rfl⟩

/-- Every operation keeps what the report unit shows, but ALERT SEEN, the warm restart, the acceptance of a block and the status
timer's expiry. -/
theorem Act.shows_or {c : Instr} {v w : State} (h : Act c v w) :
    v.report.Shows w.report ∨ (∃ n, w = noteAlert n v) ∨
      restartsAt c v ∧ w = restartReport (restartLink (restartBlocks v)) ∨
      (∃ words, (∃ t bytes, c = .readAttemptEnd t bytes) ∧ v.port.reading = true ∧ blockAccepted words = true ∧
        w = Machine.acceptBlock (blockParams words) v) ∨
      (∃ t, c = .statusTimerExpiry t) ∧ w = expireStatusTimer v := by
  cases h
  case note n => exact .inr (.inl ⟨n, rfl⟩)
  case restart hrestarts => exact .inr (.inr (.inl ⟨hrestarts, rfl⟩))
  case acceptBlock words hread hwords hreading => exact .inr (.inr (.inr (.inl ⟨words, hread, hreading, hwords, rfl⟩)))
  case count op hop =>
    obtain ⟨counters, heq⟩ := counterOps_eq hop v
    rw [heq]
    exact .inl ⟨rfl, rfl, rfl, rfl, rfl⟩
  case release i => cases i <;> exact .inl ⟨rfl, rfl, rfl, rfl, rfl⟩
  case reply r => exact .inl (shows_sendReply r v)
  case statusTimer htimer => exact .inr (.inr (.inr (.inr ⟨htimer, rfl⟩)))
  case splitReport out => exact .inl (shows_placeReport out v)
  case command => exact .inl (shows_placeCommand _ _ _ _ _ v)
  case lose f hf => exact .inl (shows_returnFrame f { v with link.transmitting := none })
  case abort f hf =>
    unfold abortFrame
    refine .inl (.trans ?_ (shows_returnFrame f _))
    exact ⟨rfl, rfl, rfl, rfl, rfl⟩
  case activate a hpass => exact .inl (shows_activateAxle a v)
  case applyDeferred => exact .inl (shows_applyDeferred v)
  case enter new cause _ => exact .inl (shows_enterMode new cause v)
  case failStart =>
    refine .inl (.trans ?_ (shows_enterMode .safe .parameter _))
    exact ⟨rfl, rfl, rfl, rfl, rfl⟩
  case refuse | complete | conflict | stopTimer | unmark | pop | reread | keepRestore | holds | land | countPass | judgeLow |
      judgeOk | emptyException | gap => exact .inl ⟨rfl, rfl, rfl, rfl, rfl⟩
  case invalid =>
    unfold discardInvalid
    split <;> exact .inl ⟨rfl, rfl, rfl, rfl, rfl⟩
  case queue f =>
    unfold admitFrame
    repeat' split
    all_goals exact .inl ⟨rfl, rfl, rfl, rfl, rfl⟩
  case mute =>
    unfold enterMuted
    split <;> exact .inl ⟨rfl, rfl, rfl, rfl, rfl⟩
  all_goals left; constructor <;> simp

/-! ## The leading alert (R171) -/

/-- `best` leads among the alerts `seen`: none among none, else the highest rank, the lower number between equal ranks. -/
def LeadsAmong (ranks : PerAlert Nat) (seen : List AlertId) (best : Option AlertId) : Prop :=
  (best = none → seen = []) ∧
    ∀ b, best = some b →
      b ∈ seen ∧ ∀ j ∈ seen, ranks.get j ≤ ranks.get b ∧ (ranks.get j = ranks.get b → b.number ≤ j.number)

theorem leadsAmong_betterLead {ranks : PerAlert Nat} {seen : List AlertId} {best : Option AlertId} (a : AlertId)
    (h : LeadsAmong ranks seen best) (hlater : ∀ j ∈ seen, j.number < a.number) :
    LeadsAmong ranks (seen ++ [a]) (betterLead ranks best a) := by
  obtain ⟨hnone, hsome⟩ := h
  cases best with
  | none =>
    rw [hnone rfl]
    refine ⟨nofun, ?_⟩
    rintro _ ⟨⟩
    simp
  | some b =>
    obtain ⟨hmem, hbest⟩ := hsome b rfl
    have hba := hlater b hmem
    simp only [betterLead]
    split
    next hless =>
      refine ⟨nofun, ?_⟩
      rintro _ ⟨⟩
      refine ⟨by simp, fun j hj => ?_⟩
      rcases List.mem_append.1 hj with hj | hj
      · have := (hbest j hj).1
        omega
      · simp_all
    next hmore =>
      refine ⟨nofun, ?_⟩
      rintro _ ⟨⟩
      refine ⟨List.mem_append_left _ hmem, fun j hj => ?_⟩
      rcases List.mem_append.1 hj with hj | hj
      · exact hbest j hj
      · obtain rfl := List.mem_singleton.1 hj
        omega

theorem leadsAmong_foldl {ranks : PerAlert Nat} (l : List AlertId) {seen : List AlertId} {best : Option AlertId}
    (h : LeadsAmong ranks seen best) (hsorted : l.Pairwise fun a b => a.number < b.number)
    (hlater : ∀ j ∈ seen, ∀ a ∈ l, j.number < a.number) : LeadsAmong ranks (seen ++ l) (l.foldl (betterLead ranks) best) := by
  induction l generalizing seen best with
  | nil => simpa using h
  | cons a l ih =>
    obtain ⟨ha, hl⟩ := List.pairwise_cons.1 hsorted
    have hstep := leadsAmong_betterLead a h fun j hj => hlater j hj a (by simp)
    have := ih hstep hl fun j hj b hb => ?_
    · simpa using this
    · rcases List.mem_append.1 hj with hj | hj
      · exact hlater j hj b (by simp [hb])
      · exact List.mem_singleton.1 hj ▸ ha b hb

theorem mem_alertIds (i : AlertId) : i ∈ alertIds := by cases i <;> decide

/-- The leading alert is the one R171 gives. -/
theorem leadingAlert_ledBy (p : Params) (alerts : PerAlert AlertState) : alerts.ledBy p (leadingAlert p alerts) := by
  have hsorted : alertIds.Pairwise fun a b => a.number < b.number := by decide
  obtain ⟨hnone, hsome⟩ := leadsAmong_foldl (ranks := p.ranks) (seen := []) (best := none)
    (alertIds.filter fun i => alerts.get i == .raised && decide (p.reportThreshold ≤ p.ranks.get i))
    ⟨fun _ => rfl, nofun⟩ (hsorted.filter _) nofun
  have hmem (j : AlertId) : j ∈ alertIds.filter (fun i => alerts.get i == .raised && decide (p.reportThreshold ≤ p.ranks.get i)) ↔
      alerts.get j = .raised ∧ p.reportThreshold ≤ p.ranks.get j := by
    simp [mem_alertIds]
  simp only [List.nil_append, hmem] at hnone hsome
  constructor
  · intro h j hj
    by_contra hthreshold
    have hj' := (hmem j).2 ⟨hj, Nat.le_of_not_lt hthreshold⟩
    rw [hnone h] at hj'
    cases hj'
  · intro i h
    obtain ⟨⟨hraised, hthreshold⟩, hbest⟩ := hsome i h
    refine ⟨hraised, hthreshold, fun j hj => ?_⟩
    by_cases hj' : p.reportThreshold ≤ p.ranks.get j
    · exact hbest j ⟨hj, hj'⟩
    · omega

/-! ## The conditions and the sources -/

theorem alertHolds_iff (s : State) (i : AlertId) : s.alertHolds i ↔ alertCondition s i = true := by
  cases i with
  | powerScaled => exact (decide_eq_true_iff (p := 20 ≤ s.report.powerRun)).symm
  | referenceLost => cases h : s.streams.reference.state <;> simp [State.alertHolds, alertCondition, h, StreamState.believed]
  | exceptionHeld => exact Option.isSome_iff_ne_none.symm
  | _ => simp [State.alertHolds, alertCondition]

theorem lineHolds_iff (s : State) (c : LineSource) : s.lineHolds c ↔ sourceHolds s c = true := by
  cases c with
  | axleImpaired =>
    simp only [State.lineHolds, sourceHolds, Bool.or_eq_true, beq_iff_eq]
    constructor
    · rintro ⟨_ | _, h⟩
      · exact .inl (.inl h)
      · exact h.elim (fun h => .inl (.inr h)) .inr
    · rintro (((h | h) | h) | h)
      · exact ⟨.front, .inl h⟩
      · exact ⟨.front, .inr h⟩
      · exact ⟨.rear, .inl h⟩
      · exact ⟨.rear, .inr h⟩
  | powerScaled => exact (decide_eq_true_iff (p := 20 ≤ s.report.powerRun)).symm
  | _ => simp [State.lineHolds, sourceHolds, Option.isSome_iff_ne_none]

theorem alertCondition_of_same {s u : State} (hstates : ∀ i, (u.streams.get i).state = (s.streams.get i).state)
    (haxles : u.axles = s.axles) (hrun : u.report.powerRun = s.report.powerRun)
    (hlimiting : u.report.gripLimiting = s.report.gripLimiting) (hreference : u.records.reference = s.records.reference)
    (hexception : u.exception = s.exception) (hflag : u.supply.flag = s.supply.flag) (i : AlertId) :
    alertCondition u i = alertCondition s i := by
  have hdemand : u.streams.demand.state = s.streams.demand.state := hstates .demand
  have hstream : u.streams.reference.state = s.streams.reference.state := hstates .reference
  cases i <;> simp [alertCondition, *]

@[simp] theorem alertCondition_settle (before s : State) (i : AlertId) :
    alertCondition (settle before s) i = alertCondition s i :=
  alertCondition_of_same (by simp) (by simp) (by simp) (by simp) (by simp) (by simp) (by simp) i

theorem leadSettled_leading (before s : State) :
    (leadSettled before s).report.leading = (settle before s).report.leading := by
  rw [settle_leading, leadSettled, findLeading_report]
  rfl

theorem sourceHolds_settle (before s : State) (c : LineSource) :
    sourceHolds (settle before s) c = sourceHolds (leadSettled before s) c := by
  cases c with
  | alertLeading => simp only [sourceHolds, leadSettled_leading]
  | _ => simp [sourceHolds, leadSettled, findLeading_report, weighAlerts]

theorem perAlert_ext_get {α : Type} {p q : PerAlert α} (h : ∀ i, p.get i = q.get i) : p = q := by
  rw [← PerAlert.of_get p, ← PerAlert.of_get q, funext h]

/-! ## The alerts at the end of an event (R170, R171) -/

/-- An alert is up exactly while its condition is true and its rank is not 0. -/
def AlertUp (s : State) (i : AlertId) : Prop :=
  s.report.alerts.get i ≠ .clear ↔ alertCondition s i = true ∧ s.par.ranks.get i ≠ 0

/-- The alerts stand so that weighing the conditions against those `before` puts each where R170 has it. -/
def AlertsReady (before v : State) : Prop :=
  ∀ i, (alertCondition before i = alertCondition v i → AlertUp v i) ∧
    (v.report.alerts.get i ≠ .clear → v.par.ranks.get i ≠ 0)

theorem raiseAlert_ne_clear {rank : Nat} {a : AlertState} (h : a ≠ .clear → rank ≠ 0) :
    raiseAlert rank a ≠ .clear ↔ rank ≠ 0 := by
  cases a <;> simp_all [raiseAlert]

theorem settle_alertUp {before v : State} (h : AlertsReady before v) (i : AlertId) : AlertUp (settle before v) i := by
  obtain ⟨hsame, hrank⟩ := h i
  have hpar : (settle before v).par = v.par := by simp [State.par]
  rw [AlertUp, alertCondition_settle, hpar, settle_alerts]
  simp only [weighAlerts, PerAlert.get_of, moveAlert]
  split
  next heq => exact hsame heq
  next =>
    split
    next hup => rw [raiseAlert_ne_clear hrank]; simp [hup]
    next hdown => simp [hdown]

theorem settle_ledBy {before v : State} {p : Params} (hp : v.params = some p)
    (hkept : before.report.alerts = (settle before v).report.alerts → before.report.alerts.ledBy p v.report.leading) :
    (settle before v).report.alerts.ledBy p (settle before v).report.leading := by
  rw [settle_alerts] at hkept
  rw [settle_leading, settle_alerts]
  split
  next h => exact h ▸ hkept h
  next =>
    rw [par_of_params hp]
    exact leadingAlert_ledBy p _

/-- An operation that moves no condition keeps the alerts ready. -/
theorem AlertsReady.of_same {before s u : State} (h : AlertsReady before s)
    (hcondition : ∀ i, alertCondition u i = alertCondition s i) (halerts : u.report.alerts = s.report.alerts)
    (hparams : u.params = s.params) : AlertsReady before u := by
  have hpar : u.par = s.par := by simp [State.par, hparams]
  intro i
  simp only [AlertUp, hcondition, halerts, hpar]
  exact h i

/-- Alerts that an event has left as they were, or noted. -/
theorem alertsReady_of_kept {before v : State} (hbefore : ∀ i, AlertUp before i) (hparams : v.params = before.params)
    (hclear : ∀ i, v.report.alerts.get i = .clear ↔ before.report.alerts.get i = .clear) : AlertsReady before v := by
  have hpar : v.par = before.par := by simp [State.par, hparams]
  intro i
  rw [AlertUp, ne_eq, hclear, hpar]
  exact ⟨fun h => h ▸ hbefore i, fun h => ((hbefore i).1 h).2⟩

/-- A warm restart weighs every alert but SUPPLY LOW, which it leaves while its condition stands (R145, R170). -/
theorem warmRestart_alerts (w : State) (i : AlertId) :
    (warmRestart w).report.alerts.get i =
      if i = .supplyLow ∧ w.supply.flag = true then w.report.alerts.get i
      else if alertCondition (warmRestart w) i = true then raiseAlert (w.par.ranks.get i) .clear else .clear := by
  have hcondition (i : AlertId) : alertCondition (warmRestart w) i =
      alertCondition { restartLink (restartBlocks (fillRequest w)) with
        report.powerRun := 0, report.gripLimiting := false, report.query := { busy := none, refused := 0 } } i := by
    cases i <;> rfl
  have hflag : (restartLink (restartBlocks (fillRequest w))).supply.flag = w.supply.flag := by simp
  have hpar : (restartLink (restartBlocks (fillRequest w))).par = w.par := by simp [State.par]
  have halerts : (restartLink (restartBlocks (fillRequest w))).report.alerts = w.report.alerts := by simp
  rw [hcondition, ← hflag, ← hpar, ← halerts, warmRestart, restartReport, restartAlerts]
  simp only [PerAlert.get_of]
  rfl

theorem alertsReady_restart {before w : State} (hbefore : ∀ i, AlertUp before i) (hparams : w.params = before.params)
    (halerts : w.report.alerts = before.report.alerts) : AlertsReady before (warmRestart w) := by
  have hpar : (warmRestart w).par = before.par := by simp [State.par, hparams]
  have hpar' : w.par = before.par := by simp [State.par, hparams]
  have hget (i : AlertId) := warmRestart_alerts w i
  simp only [halerts, hpar'] at hget
  intro i
  rw [AlertUp, hget, hpar]
  split
  next h =>
    obtain ⟨rfl, hflag⟩ := h
    have hup : alertCondition (warmRestart w) .supplyLow = true := by simpa [alertCondition] using hflag
    exact ⟨fun h => by rw [← h]; exact hbefore .supplyLow, fun h => ((hbefore .supplyLow).1 h).2⟩
  next =>
    split
    next hup => simp [raiseAlert, hup]
    next hdown => simp [hdown]

/-- The acceptance of a block weighs every alert (R164, R170). -/
theorem acceptLink_alerts (p : Params) (v : State) (i : AlertId) :
    (acceptLink p (acceptTables p v)).report.alerts.get i =
      if alertCondition (acceptTables p v) i = true then raiseAlert (p.ranks.get i) (v.report.alerts.get i) else .clear := by
  simp only [acceptLink, weighAllAlerts, PerAlert.get_of]
  rfl

theorem alertsReady_accept {before v : State} (p : Params) (hclear : v.report.alerts = alertsClear) :
    AlertsReady before (acceptLink p (acceptTables p v)) := by
  have hcondition (i : AlertId) : alertCondition (acceptLink p (acceptTables p v)) i = alertCondition (acceptTables p v) i := by
    cases i <;> rfl
  have hpar : (acceptLink p (acceptTables p v)).par = p := rfl
  intro i
  have hget : v.report.alerts.get i = .clear := by
    rw [hclear]
    cases i <;> rfl
  rw [AlertUp, acceptLink_alerts, hget, hpar, hcondition]
  split
  next hup => simp [raiseAlert, hup]
  next hdown => simp [hdown]

/-! ## The pass end -/

theorem shows_takeException (e : ExceptionEvent) (s : State) : s.report.Shows (takeException e s).report :=
  .of_eq (by simp)

theorem shows_takeTrigger (src : TriggerSource) (s : State) : s.report.Shows (takeTrigger src s).report := by
  constructor <;> simp

theorem shows_reportCut (sn : Snapshot) (out : PassOut) (s : State) (c : Cut) :
    s.report.Shows (reportCut sn out s c).report := by
  unfold reportCut
  split
  · exact .trans (shows_takeException _ _) (shows_takeTrigger _ _)
  · exact .refl _

theorem shows_reportCuts (sn : Snapshot) (out : PassOut) (s : State) : s.report.Shows (reportCuts sn out s).report := by
  have hcuts (cuts : List Cut) (v : State) : v.report.Shows (cuts.foldl (reportCut sn out) v).report := by
    induction cuts generalizing v with
    | nil => exact .refl _
    | cons c cuts ih => exact .trans (shows_reportCut sn out v c) (ih _)
  refine .trans (hcuts out.cuts s) ?_
  unfold reportCuts
  constructor <;> simp

theorem shows_issueAxle (sn : Snapshot) (out : PassOut) (closing : Bool) (a : Axle) (s : State) :
    s.report.Shows (issueAxle sn out closing a s).report := by
  simp only [issueAxle, serviceFrame, releaseFrame]
  split
  · split
    · exact shows_placeCommand _ _ _ _ _ _
    · exact .refl _
  · split
    · exact shows_placeCommand _ _ _ _ _ _
    · split
      · exact shows_placeCommand _ _ _ _ _ _
      · exact .refl _

theorem shows_issueFrames (sn : Snapshot) (out : PassOut) (s : State) : s.report.Shows (issueFrames sn out s).report := by
  simp only [issueFrames]
  refine .trans ?_ (shows_placeReport out _)
  split
  · exact .trans (shows_issueAxle _ _ _ _ _) (shows_issueAxle _ _ _ _ _)
  · exact .refl _

/-- Steps 1 to 6 of a pass end. -/
theorem shows_passEndResults (sn : Snapshot) (out : PassOut) (s : State) :
    s.report.Shows (applyDeferred (passEndResults sn out s)).report := by
  refine .trans ?_ (shows_applyDeferred _)
  unfold passEndResults activateAxles
  refine .trans (.trans ?_ (shows_activateAxle _ _)) (shows_activateAxle _ _)
  refine .trans ?_ (shows_reportCuts sn out _)
  refine .trans (q := (issueFrames sn out (storeResults sn out s)).report) ?_ ⟨rfl, rfl, rfl, rfl, rfl⟩
  refine .trans ?_ (shows_issueFrames sn out _)
  constructor <;> simp

theorem finishFlight_shows_or (sn : Snapshot) (out : PassOut) (s : State) :
    s.report.Shows (finishFlight sn out s).report ∨
      finishFlight sn out s = warmRestart { s with engine.flight := none } := by
  simp only [finishFlight, fadeComplete, rampComplete]
  split
  · split
    · split
      · exact .inl (shows_enterMode .dozing .none { s with engine.flight := none })
      · exact .inl (.refl _)
    · split
      · split
        · split
          · exact .inr rfl
          · exact .inl (shows_enterMode .supplyHalted .none { s with engine.flight := none })
        · exact .inl (.refl _)
      · exact .inl (.refl _)
  · exact .inl (.refl _)

theorem warmRestart_runsNone (w : State) : (warmRestart w).modes.mode.runsPasses = false := by
  simp [warmRestart, restartBlocks]

theorem startPending_warmRestart (w : State) : startPending (warmRestart w) = warmRestart w := by
  have hpending : (warmRestart w).engine.pendingPass = false := by
    simp [warmRestart, restartBlocks, Engine.restarted]
  simp [startPending, hpending]

/-- A pass end keeps what the report unit shows, or ends the supply ramp by a warm restart (R141). -/
theorem endPass_shows_or (s : State) :
    s.report.Shows (endPass s).report ∨
      ∃ w, endPass s = warmRestart w ∧ s.report.Shows w.report ∧ w.params = s.params := by
  unfold endPass
  split
  · exact .inl (.refl _)
  next sn hflight =>
    simp only
    rcases finishFlight_shows_or sn (passOutcome sn s) (applyDeferred (passEndResults sn (passOutcome sn s) s)) with h | h
    · left
      have hresults := ReportUnit.Shows.trans (shows_passEndResults sn (passOutcome sn s) s) h
      refine .trans hresults (.of_eq ?_)
      simp
    · right
      refine ⟨{ applyDeferred (passEndResults sn (passOutcome sn s) s) with engine.flight := none }, ?_,
        shows_passEndResults sn (passOutcome sn s) s, by simp⟩
      rw [h, startPending_warmRestart, requestPassIf_of_still _ (warmRestart_runsNone _),
        requestPassIf_of_still _ (warmRestart_runsNone _)]

/-! ## Every command -/

/-- What the alerts of a machine need before an event. -/
theorem State.AlertsFollow.up {s : State} (h : s.AlertsFollow) (i : AlertId) : AlertUp s i := by
  obtain ⟨hnone, hsome⟩ := h
  cases hp : s.params with
  | none =>
    have hclear : s.report.alerts.get i = .clear := by
      rw [(hnone hp).1]
      cases i <;> rfl
    have hrank : s.par.ranks.get i = 0 := by
      simp only [State.par, hp, Option.getD_none]
      cases i <;> rfl
    simp [AlertUp, hclear, hrank]
  | some p =>
    rw [AlertUp, par_of_params hp, ← alertHolds_iff]
    exact (hsome p hp).1 i

/-- The lines and the leading alert after an event's own effects are those before it. -/
theorem afterEffect_lines {c : Instr} (hc : c ≠ .powerOnReset) (s : State) :
    (afterEffect c s).report.leading = s.report.leading ∧ (afterEffect c s).report.sta = s.report.sta ∧
      (afterEffect c s).report.stb = s.report.stb := by
  refine afterEffect_keeps hc
    (P := fun v => v.report.leading = s.report.leading ∧ v.report.sta = s.report.sta ∧ v.report.stb = s.report.stb)
    (fun v w hact hv => ?_) ⟨rfl, rfl, rfl⟩
  have hkept : w.report.leading = v.report.leading ∧ w.report.sta = v.report.sta ∧ w.report.stb = v.report.stb := by
    rcases hact.shows_or with h | ⟨n, rfl⟩ | ⟨-, rfl⟩ | ⟨words, -, -, -, rfl⟩ | ⟨-, rfl⟩
    · exact ⟨h.leading, h.sta, h.stb⟩
    · unfold noteAlert
      split <;> exact ⟨rfl, rfl, rfl⟩
    · exact ⟨rfl, rfl, rfl⟩
    · have h := shows_enterMode (if v.supply.judgement = .ok then .dozing else .supplyHalted) .none
        (acceptLink (blockParams words) (acceptTables (blockParams words) v))
      exact ⟨h.leading, h.sta, h.stb⟩
    · obtain ⟨-, hleading, hsta, hstb⟩ := expireStatusTimer_shown v
      exact ⟨hleading, hsta, hstb⟩
  rwa [hkept.1, hkept.2.1, hkept.2.2]

theorem noteAlert_clear_iff (n : Word16) (s : State) (i : AlertId) :
    (noteAlert n s).report.alerts.get i = .clear ↔ s.report.alerts.get i = .clear := by
  unfold noteAlert
  split
  · rfl
  next j _ =>
    simp only [PerAlert.get_of]
    split
    next h =>
      obtain ⟨rfl, h⟩ := h
      simp [h]
    next => rfl

/-- Where neither a warm restart nor the acceptance of a block can fall, an event clears no alert and raises none itself. -/
theorem afterEffect_clear_iff {c : Instr} (hc : c ≠ .powerOnReset) (s : State) (hpass : ∀ t, c ≠ .passEnd t)
    (hrestore : ∀ t, c ≠ .restoreEvent t) (hread : ∀ t bytes, c ≠ .readAttemptEnd t bytes) (i : AlertId) :
    (afterEffect c s).report.alerts.get i = .clear ↔ s.report.alerts.get i = .clear := by
  refine afterEffect_keeps hc
    (P := fun v => v.report.alerts.get i = .clear ↔ s.report.alerts.get i = .clear) (fun v w hact hv => ?_) Iff.rfl
  rcases hact.shows_or with h | ⟨n, rfl⟩ | ⟨hrestarts, -⟩ | ⟨words, ⟨t, bytes, rfl⟩, -⟩ | ⟨-, rfl⟩
  · rwa [h.alerts]
  · rwa [noteAlert_clear_iff]
  · rcases hrestarts with ⟨⟨t, rfl⟩, -⟩ | ⟨⟨t, rfl⟩, -⟩
    · exact absurd rfl (hpass t)
    · exact absurd rfl (hrestore t)
  · exact absurd rfl (hread t bytes)
  · rwa [(expireStatusTimer_shown v).1]

/-- An axle in OFFLINE stays OFFLINE at every mode entry. -/
theorem enterMode_offline (new : Mode) (cause : SafeCause) {s : State} {a : Axle} (h : (s.axles.get a).state = .offline) :
    ((enterMode new cause s).axles.get a).state = .offline := by
  rw [enterMode_axles]
  split
  · exact h
  · simp [Supervisor.stoodDown, h, AxleState.inService]

/-- The end of START moves no alert condition: its axles are OFFLINE. -/
theorem alertCondition_acceptBlock {v : State} (p : Params) (hfront : v.axles.front.state = .offline)
    (hrear : v.axles.rear.state = .offline) (i : AlertId) :
    alertCondition (acceptBlock p v) i = alertCondition (acceptLink p (acceptTables p v)) i := by
  have hoffline (new : Mode) (a : Axle) :
      ((enterMode new .none (acceptLink p (acceptTables p v))).axles.get a).state = .offline :=
    enterMode_offline new .none (by cases a; exact hfront; exact hrear)
  have hentered (new : Mode) (hnew : new.runsPasses = false) :
      alertCondition (enterMode new .none (acceptLink p (acceptTables p v))) i =
        alertCondition (acceptLink p (acceptTables p v)) i := by
    have hlimiting : (enterMode new .none (acceptLink p (acceptTables p v))).report.gripLimiting =
        (acceptLink p (acceptTables p v)).report.gripLimiting := by
      rw [enterMode_still _ _ hnew]
      simp [hnew]
    cases i with
    | frontDerated | frontFaulted =>
      have hentered : (enterMode new .none (acceptLink p (acceptTables p v))).axles.front.state = .offline := hoffline new .front
      simp [alertCondition, hentered, hfront]
    | rearDerated | rearFaulted =>
      have hentered : (enterMode new .none (acceptLink p (acceptTables p v))).axles.rear.state = .offline := hoffline new .rear
      simp [alertCondition, hentered, hrear]
    | gripLimiting => exact hlimiting
    | _ => simp [alertCondition]
  unfold acceptBlock
  split
  · exact hentered .dozing rfl
  · exact hentered .supplyHalted rfl

/-- Only the reading of the parameter block changes the parameters. -/
theorem Act.params_eq {c : Instr} {v w : State} (h : Act c v w) (hread : ∀ t bytes, c ≠ .readAttemptEnd t bytes) :
    w.params = v.params := by
  cases h
  case count op hop =>
    obtain ⟨counters, heq⟩ := counterOps_eq hop v
    rw [heq]
  case acceptBlock words hreads _ _ =>
    obtain ⟨t, bytes, rfl⟩ := hreads
    exact absurd rfl (hread t bytes)
  all_goals simp

theorem afterEffect_params {c : Instr} (hc : c ≠ .powerOnReset) (hread : ∀ t bytes, c ≠ .readAttemptEnd t bytes) (s : State) :
    (afterEffect c s).params = s.params :=
  afterEffect_keeps hc (P := fun v => v.params = s.params) (fun _ _ h hv => (h.params_eq hread).trans hv) rfl

/-- An event's own effects clear and raise no alert, or end in a warm restart, or in the acceptance of a block. -/
theorem afterEffect_alerts_cases {c : Instr} (hc : c ≠ .powerOnReset) (s : State) :
    (afterEffect c s).params = s.params ∧
        (∀ i, (afterEffect c s).report.alerts.get i = .clear ↔ s.report.alerts.get i = .clear) ∨
      (∃ w, afterEffect c s = warmRestart w ∧ s.report.Shows w.report ∧ w.params = s.params) ∨
      s.port.reading = true ∧
        ∃ words, afterEffect c s = acceptBlock (blockParams words) { s with now := commandTime c } := by
  by_cases hread : ∃ t bytes, c = .readAttemptEnd t bytes
  · obtain ⟨t, bytes, rfl⟩ := hread
    simp only [afterEffect, commandEffect, commandTime, endAttempt, judgeBlock]
    by_cases hreading : s.port.reading = true
    · rw [if_pos hreading]
      split
      · exact .inr (.inr ⟨hreading, _, rfl⟩)
      · split
        · exact .inl ⟨rfl, fun _ => Iff.rfl⟩
        · refine .inl ⟨by simp [failStart], fun i => ?_⟩
          rw [failStart, (shows_enterMode _ _ _).alerts]
    · rw [if_neg hreading]
      exact .inl ⟨rfl, fun _ => Iff.rfl⟩
  have hparams := afterEffect_params hc (fun t bytes h => hread ⟨t, bytes, h⟩) s
  by_cases hrestore : ∃ t, c = .restoreEvent t
  · obtain ⟨t, rfl⟩ := hrestore
    simp only [afterEffect, commandEffect, commandTime] at hparams ⊢
    unfold takeRestoreEvent at hparams ⊢
    by_cases hdue : s.supply.judgement = .low ∧ timerDue t s.supply.restoreTimer = true
    · rw [if_pos hdue] at hparams ⊢
      cases hmode : s.modes.mode with
      | supplyHalted => exact .inr (.inl ⟨judgeRestored { s with now := t }, by simp [tellRestored, hmode], .refl _, rfl⟩)
      | _ => exact .inl ⟨hparams, fun i => by simp [tellRestored, hmode]⟩
    · rw [if_neg hdue]
      exact .inl ⟨rfl, fun _ => Iff.rfl⟩
  by_cases hpass : ∃ t, c = .passEnd t
  · obtain ⟨t, rfl⟩ := hpass
    rcases endPass_shows_or { s with now := t } with h | ⟨w, hw, h, hw'⟩
    · exact .inl ⟨hparams, fun i => by rw [← h.alerts]; rfl⟩
    · exact .inr (.inl ⟨w, hw, h, hw'⟩)
  · exact .inl ⟨hparams, afterEffect_clear_iff hc s (fun t h => hpass ⟨t, h⟩)
      (fun t h => hrestore ⟨t, h⟩) (fun t bytes h => hread ⟨t, bytes, h⟩)⟩

/-- The alerts after an event's own effects are ready to be weighed. -/
theorem afterEffect_alertsReady {c : Instr} (hc : c ≠ .powerOnReset) {s : State} (hstart : s.StartSound)
    (halerts : s.AlertsFollow) : AlertsReady s (afterEffect c s) := by
  rcases afterEffect_alerts_cases hc s with ⟨hparams, hclear⟩ | ⟨w, hw, hshows, hparams⟩ | ⟨hreading, words, hw⟩
  · exact alertsReady_of_kept halerts.up hparams hclear
  · rw [hw]
    exact alertsReady_restart halerts.up hparams hshows.alerts
  · obtain ⟨-, hunset, -, -, -, hfront, hrear, -⟩ := hstart hreading
    rw [hw]
    refine (alertsReady_accept (v := { s with now := commandTime c }) (blockParams words) (halerts.1 hunset).1).of_same
      (alertCondition_acceptBlock (v := { s with now := commandTime c }) _ hfront hrear) ?_ ?_
    · exact (shows_enterMode _ _ _).alerts
    · simp [acceptBlock]

/-- A status line at the end of an event, from where it stood before it. -/
theorem lineAfter_follows (routing : Params → LineConfig) {before after : State} {old : Bool}
    (hparams : before.params = none ∨ after.params = before.params)
    (hold : ∀ p, before.params = some p → (old = (routing p).activeHigh ↔ sourceHolds before (routing p).source = true))
    {p : Params} (hp : after.params = some p) :
    lineAfter routing before after old = (routing p).activeHigh ↔ sourceHolds after (routing p).source = true := by
  simp only [lineAfter, hp]
  split
  next h =>
    obtain ⟨hset, hsame⟩ := h
    have hbefore : before.params = some p := by
      rcases hparams with h | h
      · simp [h] at hset
      · rw [← h, hp]
    rw [← hsame]
    exact hold p hbefore
  next => cases sourceHolds after (routing p).source <;> simp [lineLevel]

/-- The parameters change when a block is accepted, and not otherwise. -/
theorem afterEffect_params_or {c : Instr} (hc : c ≠ .powerOnReset) {s : State} (hstart : s.StartSound) :
    s.params = none ∨ (afterEffect c s).params = s.params := by
  cases hreading : s.port.reading
  · exact .inr ((afterEffect_keeps_configuration hc s).2 hreading).1
  · obtain ⟨-, hparams, -⟩ := hstart hreading
    exact .inl hparams

theorem leadSettled_params (before s : State) : (leadSettled before s).params = s.params := by
  simp [leadSettled]

theorem event_linesFollow {c : Instr} (hc : c ≠ .powerOnReset) {s : State} (hstart : s.StartSound) (hs : s.LinesFollow) :
    (settle s (afterEffect c s)).LinesFollow := by
  obtain ⟨-, hsta, hstb⟩ := afterEffect_lines hc s
  have hparams := afterEffect_params_or hc hstart
  obtain ⟨hnone, hsome⟩ := hs
  have hset : (settle s (afterEffect c s)).params = (afterEffect c s).params := by simp
  rw [State.LinesFollow, hset, settle_report]
  simp only [hsta, hstb]
  constructor
  · intro hunset
    have hbefore : s.params = none := hparams.elim id fun h => h ▸ hunset
    simp [lineAfter, leadSettled_params, hunset, hnone hbefore]
  · intro p hp
    have hlead : (leadSettled s (afterEffect c s)).params = some p := (leadSettled_params _ _).trans hp
    rw [← leadSettled_params s (afterEffect c s)] at hparams
    simp only [lineHolds_iff, sourceHolds_settle] at hsome ⊢
    exact ⟨lineAfter_follows (·.sta) hparams (fun p hp => (hsome p hp).1) hlead,
      lineAfter_follows (·.stb) hparams (fun p hp => (hsome p hp).2) hlead⟩

theorem event_alertsFollow {c : Instr} (hc : c ≠ .powerOnReset) {s : State} (hstart : s.StartSound) (hs : s.AlertsFollow) :
    (settle s (afterEffect c s)).AlertsFollow := by
  have hparams := afterEffect_params_or hc hstart
  have hready := afterEffect_alertsReady hc hstart hs
  have hup := settle_alertUp hready
  obtain ⟨hleading, -, -⟩ := afterEffect_lines hc s
  obtain ⟨hnone, hsome⟩ := hs
  have hset : (settle s (afterEffect c s)).params = (afterEffect c s).params := by simp
  rw [State.AlertsFollow, hset]
  constructor
  · intro hunset
    obtain ⟨hclear, hlead⟩ := hnone (hparams.elim id fun h => h ▸ hunset)
    have halerts : (settle s (afterEffect c s)).report.alerts = alertsClear := perAlert_ext_get fun i => by
      have hrank : (settle s (afterEffect c s)).par.ranks.get i = 0 := by
        simp only [State.par, hset, hunset, Option.getD_none]
        cases i <;> rfl
      have := hup i
      rw [AlertUp, hrank] at this
      simp only [ne_eq, not_true_eq_false, and_false, iff_false, not_not] at this
      rw [this]
      cases i <;> rfl
    refine ⟨halerts, ?_⟩
    rw [settle_alerts] at halerts
    rw [settle_leading, if_pos (hclear.trans halerts.symm), hleading, hlead]
  · intro p hp
    refine ⟨fun i => ?_, settle_ledBy hp fun hsame => ?_⟩
    · have := hup i
      rwa [AlertUp, par_of_params (hset.trans hp), ← alertHolds_iff] at this
    · rw [hleading]
      cases hbefore : s.params with
      | none =>
        obtain ⟨hclear, hlead⟩ := hnone hbefore
        rw [hclear, hlead]
        exact ⟨fun _ j hj => (by cases j <;> cases hj), nofun⟩
      | some q =>
        have hq : q = p := by
          rcases hparams with h | h
          · simp [h] at hbefore
          · rw [h, hbefore] at hp
            exact Option.some.inj hp
        exact hq ▸ (hsome q hbefore).2

theorem powerOnReset_reports (s : State) :
    (powerOnReset s).GripFollows ∧ (powerOnReset s).WindowsSound ∧ (powerOnReset s).LinesFollow ∧
      (powerOnReset s).AlertsFollow ∧ (powerOnReset s).FlagsReported := by
  obtain ⟨-, -, hgrip, hwindows, hlines, halerts, hflags, -⟩ := powerOnReset_invariants s
  exact ⟨hgrip, hwindows, hlines, halerts, hflags⟩

/-- Settles O56: each operation of an event keeps the GRIP row and the windows, and its end carries the flags, weighs the alerts
and drives the lines. -/
theorem everyStepKeepsGripRowWindowsLinesAndAlerts : Obligations.EveryStepKeepsGripRowWindowsLinesAndAlerts := by
  unfold Obligations.EveryStepKeepsGripRowWindowsLinesAndAlerts
  intro s u hstart hgrip hwindows hlines halerts hflags hstep
  refine step_keeps
    (P := fun v => v.StartSound ∧ v.GripFollows ∧ v.WindowsSound ∧ v.LinesFollow ∧ v.AlertsFollow ∧ v.FlagsReported)
    (Q := fun v => v.GripFollows ∧ v.WindowsSound ∧ v.LinesFollow ∧ v.AlertsFollow ∧ v.FlagsReported)
    hstep And.right (fun _ h => h) (fun v _ => powerOnReset_reports v) (fun c v hc hv => ?_)
    ⟨hstart, hgrip, hwindows, hlines, halerts, hflags⟩
  obtain ⟨hstart, hgrip, hwindows, hlines, halerts, hflags⟩ := hv
  refine ⟨?_, settle_windowsSound v ?_, event_linesFollow hc hstart hlines, event_alertsFollow hc hstart halerts,
    settle_flagsReported hflags _⟩
  · have hkept := afterEffect_keeps hc (P := State.GripFollows) (fun _ _ h => h.gripFollows) (s := v) hgrip
    exact hkept.of_same (by simp) (by simp)
  · exact afterEffect_keeps hc (P := State.WindowsSound) (fun _ _ h => h.windowsSound) (s := v) hwindows

end Sys2Proof.Machine

namespace Sys2Proof.Machine

/-! SUPPORT. The stream records over a decode and over a window's expiry (R28 to R39). -/

/-! ## Frames that pass, and frames that are used -/

/-- A frame no field of which fails passes the checks of R31. -/
theorem fieldsPass_of_failingField {r : Role} {ws : List Word16} (h : failingField r ws = none) : fieldsPass r ws := by
  constructor
  · rintro rfl
    simp only [failingField] at h
    split at h
    · cases h
    next hcode =>
      split at h
      · cases h
      next hprofile =>
        refine ⟨fun hthree => hcode (BitVec.eq_of_toNat_eq ?_), Nat.not_lt.1 hprofile⟩
        simpa [directionCode] using hthree
  · rintro rfl k hk hcap
    have hrejected : capRejected (payloadWord ws k).toNat = true := by simpa [capRejected] using hcap
    rcases hk with rfl | rfl
    · simp [failingField, show stabilityCapField ws .front = (payloadWord ws 1).toNat from rfl, hrejected] at h
    · simp only [failingField, show stabilityCapField ws .rear = (payloadWord ws 2).toNat from rfl, hrejected] at h
      split at h <;> cases h

/-- A frame that a stream which is not LOST does not repeat is used. -/
theorem uses_of_judgeFrame {r : StreamRecord} {e : IntakeEntry} (h : judgeFrame r e = .used) (hstate : r.state ≠ .lost) :
    r.uses e := by
  refine ⟨fun hrepeat => ?_, .inl hstate⟩
  simp [judgeFrame, hrepeat] at h

/-! ## The treatment of an entry -/

/-- A stream's record once an entry of its role is treated: counted, or judged (R28, R29, R31, R33 to R37). -/
def StreamRecord.treated (r : StreamRecord) (e : IntakeEntry) : StreamRecord :=
  if e.length.toNat ≠ e.expectedLength then { r with malformed := countUp r.malformed }
  else if (failingField e.role e.payload).isSome then r
  else r.afterFrame e (judgeFrame r e)

theorem setStream_get (i j : StreamId) (r : StreamRecord) (s : State) :
    (setStream i r s).streams.get j = if j = i then r else s.streams.get j := by
  rw [setStream, PerStream.get_set]

theorem countMalformed_stream (r : Role) (s : State) (j : StreamId) :
    (countMalformed r s).streams.get j =
      if r = .stream j then { s.streams.get j with malformed := countUp (s.streams.get j).malformed }
      else s.streams.get j := by
  cases r with
  | stream i =>
    simp only [countMalformed, setStream_get, Role.stream.injEq]
    by_cases h : j = i
    · subst h
      simp
    · rw [if_neg h, if_neg (Ne.symm h)]
  | query | alertSeen => rfl

theorem takeSupervised_stream (i j : StreamId) (e : IntakeEntry) (s : State) :
    (takeSupervised i e s).streams.get j =
      if j = i then (s.streams.get i).afterFrame e (judgeFrame (s.streams.get i) e) else s.streams.get j := by
  have h : (takeSupervised i e s).streams =
      (setStream i ((s.streams.get i).afterFrame e (judgeFrame (s.streams.get i) e)) s).streams := by
    simp only [takeSupervised]
    split
    · rw [(useContent_frame _ _ _ _).2.2.2.2.2.2.2.1]
    · rfl
  rw [h, setStream_get]

theorem treatEntry_stream (e : IntakeEntry) (s : State) (j : StreamId) :
    (treatEntry e s).streams.get j = if e.role = .stream j then (s.streams.get j).treated e else s.streams.get j := by
  have hclamp : (countClamp e s).streams = s.streams := by simp
  unfold treatEntry StreamRecord.treated
  split
  next hlength => simp [countMalformed_stream]
  next hlength =>
    cases hfield : failingField e.role e.payload with
    | some f => simp
    | none =>
      simp only [handEntry]
      split
      next i hrole =>
        simp only [takeSupervised_stream, hclamp, hrole, Role.stream.injEq]
        by_cases h : j = i
        · subst h
          simp
        · rw [if_neg h, if_neg (Ne.symm h)]
      next hrole => simp [hrole]
      next hrole => simp [hrole]

/-! ## The expiry of a window (R35 to R38) -/

theorem expireWindow_stream (i j : StreamId) (d : Time) (s : State) :
    (expireWindow i d s).streams.get j = if j = i then (s.streams.get i).expired d else s.streams.get j := by
  have h : (expireWindow i d s).streams = (setStream i ((s.streams.get i).expired d) s).streams := by
    simp only [expireWindow]
    split
    · simp
    · rfl
  rw [h, setStream_get]

/-- The window that closes at the end of the decode of entry `e`, where one does. -/
def closesAt (e : IntakeEntry) (before s : State) (i : StreamId) (d : Time) : Prop :=
  windowDue i s = some d ∧ (before.streams.get i).deadline = some d ∧ earlier e.arrival d = true

theorem closeWindow_stream (e : IntakeEntry) (before s : State) (j : StreamId) :
    (closeWindow e before s).streams.get j = s.streams.get j ∨
      e.role = .stream j ∧ ∃ d, closesAt e before s j d ∧
        (closeWindow e before s).streams.get j = (s.streams.get j).expired d := by
  unfold closeWindow
  split
  next i hrole =>
    split
    · exact .inl rfl
    next d hdue =>
      split
      next hcloses =>
        rw [expireWindow_stream]
        split
        next h =>
          subst h
          exact .inr ⟨hrole, d, ⟨hdue, hcloses⟩, rfl⟩
        next => exact .inl rfl
      next => exact .inl rfl
  · exact .inl rfl
  · exact .inl rfl

/-- A stream after a decode: its entry treated, and its window closed where it waited for that entry. -/
theorem decodeHead_stream {s : State} {e : IntakeEntry} {rest : List IntakeEntry} (h : s.intake = e :: rest) (j : StreamId) :
    e.role ≠ .stream j ∧ (decodeHead s).streams.get j = s.streams.get j ∨
      e.role = .stream j ∧ ((decodeHead s).streams.get j = (s.streams.get j).treated e ∨
        ∃ d, (s.streams.get j).deadline = some d ∧ ((s.streams.get j).treated e).deadline = some d ∧
          earlier e.arrival d = true ∧ reached s.now d = true ∧
          (∀ x ∈ rest, x.role = .stream j → earlier x.arrival d = false) ∧
          (decodeHead s).streams.get j = ((s.streams.get j).treated e).expired d) := by
  have hdecode : decodeHead s = closeWindow e s (closeHolds e (treatEntry e { s with intake := rest })) := by
    simp only [decodeHead, h]
  have hstreams : (closeHolds e (treatEntry e { s with intake := rest })).streams.get j =
      if e.role = .stream j then (s.streams.get j).treated e else s.streams.get j := by
    simp [treatEntry_stream]
  rw [hdecode]
  rcases closeWindow_stream e s (closeHolds e (treatEntry e { s with intake := rest })) j with hkept | ⟨hrole, d, hcloses, hexpired⟩
  · rw [hkept, hstreams]
    split
    next hrole => exact .inr ⟨hrole, .inl rfl⟩
    next hrole => exact .inl ⟨hrole, rfl⟩
  · obtain ⟨hdue, hbefore, harrival⟩ := hcloses
    rw [hexpired]
    obtain ⟨hdeadline, hreached, hwaits⟩ := windowDue_eq_some_iff.1 hdue
    rw [entryWaits_eq_false_iff] at hwaits
    rw [hstreams, if_pos hrole] at hdeadline ⊢
    refine .inr ⟨hrole, .inr ⟨d, hbefore, hdeadline, harrival, ?_, ?_, rfl⟩⟩
    · simpa using hreached
    · simpa using hwaits

/-! ## The change flags over an event (R39, R167, R168) -/

theorem expired_flag_or (r : StreamRecord) (d : Time) :
    (r.expired d).flag = r.flag ∧ (r.expired d).state = r.state ∨
      (r.expired d).flag = .set ∧ (r.state = .fresh ∧ (r.expired d).state = .late ∨
        r.state = .late ∧ (r.expired d).state = .lost) := by
  cases h : r.state <;> simp [StreamRecord.expired, h]

theorem treated_flag_or (r : StreamRecord) (e : IntakeEntry) :
    (r.treated e).flag = r.flag ∧ (r.treated e).state = r.state ∨
      e.length.toNat = e.expectedLength ∧ fieldsPass e.role e.payload ∧ judgeFrame r e = .used ∧
        (r.treated e) = r.afterUse e := by
  unfold StreamRecord.treated
  split
  · exact .inl ⟨rfl, rfl⟩
  next hlength =>
    split
    · exact .inl ⟨rfl, rfl⟩
    next hfield =>
      have hnone : failingField e.role e.payload = none := by simpa using hfield
      cases hj : judgeFrame r e with
      | used => exact .inr ⟨not_not.1 hlength, fieldsPass_of_failingField hnone, rfl, rfl⟩
      | repeated | qualifies | restarts => exact .inl ⟨rfl, rfl⟩

/-- A SET flag shows a change: it was SET before, or the stream's state moved. -/
def FlagsShow (s v : State) : Prop :=
  ∀ j, (v.streams.get j).flag = .set → (s.streams.get j).flag = .set ∨ (v.streams.get j).state ≠ (s.streams.get j).state

theorem expired_flag_shows {r : StreamRecord} {d : Time} (hset : (r.expired d).flag = .set) :
    r.flag = .set ∨ (r.expired d).state ≠ r.state := by
  rcases expired_flag_or r d with ⟨hflag, -⟩ | ⟨-, ⟨hbefore, hafter⟩ | ⟨hbefore, hafter⟩⟩
  · exact .inl (hflag ▸ hset)
  all_goals
    right
    rw [hafter, hbefore]
    decide

theorem afterUse_flag_shows {r : StreamRecord} {e : IntakeEntry} (hset : (r.afterUse e).flag = .set) :
    r.flag = .set ∨ (r.afterUse e).state ≠ r.state := by
  by_cases hfresh : r.state = .fresh
  · left
    simpa [StreamRecord.afterUse, StreamRecord.arrived, hfresh] using hset
  · exact .inr fun h => hfresh h.symm

theorem treated_flag_shows {r : StreamRecord} {e : IntakeEntry} (hset : (r.treated e).flag = .set) :
    r.flag = .set ∨ (r.treated e).state ≠ r.state := by
  rcases treated_flag_or r e with ⟨hflag, -⟩ | ⟨-, -, -, hused⟩
  · exact .inl (hflag ▸ hset)
  · rw [hused] at hset ⊢
    exact afterUse_flag_shows hset

/-- A decode sets a flag where a stream's state moved, or moved and is back (R39). -/
theorem decodeHead_flagsShow {s : State} (hback : ¬ s.returnsToLate (.decode s.now)) : FlagsShow s (decodeHead s) := by
  intro j hset
  cases hintake : s.intake with
  | nil =>
    rw [decodeHead_of_empty hintake] at hset
    exact .inl hset
  | cons e rest =>
    rcases decodeHead_stream hintake j with
      ⟨-, hkept⟩ | ⟨hrole, htreated | ⟨d, hbefore, hdeadline, harrival, hreached, hwaits, hexpired⟩⟩
    · exact .inl (hkept ▸ hset)
    · rw [htreated] at hset ⊢
      exact treated_flag_shows hset
    · rw [hexpired] at hset ⊢
      rcases treated_flag_or (s.streams.get j) e with ⟨hflag, hstate⟩ | ⟨hlength, hpass, hjudged, hused⟩
      · rw [← hflag, ← hstate]
        exact expired_flag_shows hset
      · right
        intro hsame
        have hlate : (((s.streams.get j).treated e).expired d).state = .late := by rw [hused]; rfl
        have hbefore' : (s.streams.get j).state = .late := hsame ▸ hlate
        have hd : later e.arrival ((s.streams.get j).window.getD 0) = d := by
          rw [hused] at hdeadline
          exact Option.some.inj hdeadline
        refine hback ⟨s.now, e, rest, j, rfl, ⟨hintake, hrole, hlength⟩, hpass,
          uses_of_judgeFrame hjudged (by rw [hbefore']; decide), hbefore', ?_⟩
        have hcloses : (s.streams.get j).deadline = some (later e.arrival ((s.streams.get j).window.getD 0)) ∧
            earlier e.arrival (later e.arrival ((s.streams.get j).window.getD 0)) = true ∧
            reached s.now (later e.arrival ((s.streams.get j).window.getD 0)) = true ∧
            ∀ x ∈ rest, x.role = .stream j →
              earlier x.arrival (later e.arrival ((s.streams.get j).window.getD 0)) = false := by
          rw [hd]
          exact ⟨hbefore, harrival, hreached, hwaits⟩
        rw [State.streamAfterUse, if_pos hcloses]

theorem expireIfDue_flagsShow (i : StreamId) (s : State) : FlagsShow s (expireIfDue i s) := by
  intro j hset
  unfold expireIfDue at hset ⊢
  split at hset
  · exact .inl hset
  next d hdue =>
    rw [expireWindow_stream] at hset
    simp only [expireWindow_stream]
    split
    next h =>
      subst h
      rw [if_pos rfl] at hset
      exact expired_flag_shows hset
    next h =>
      rw [if_neg h] at hset
      exact .inl hset

/-- No flag is SET that was not. -/
def FlagsKept (s v : State) : Prop := ∀ j, (v.streams.get j).flag = .set → (s.streams.get j).flag = .set

theorem FlagsKept.of_same {s v : State} (h : v.streams = s.streams) : FlagsKept s v := fun j hset => by rwa [← h]

theorem FlagsKept.of_map {s v : State} {f : StreamRecord → StreamRecord} (h : v.streams = s.streams.map f)
    (hf : ∀ r, (f r).flag = .set → r.flag = .set) : FlagsKept s v := fun j hset => hf _ (by simpa [h] using hset)

/-- Outside the treatment of frames and windows an operation sets no flag, but a warm restart. -/
theorem Act.flagsKept {c : Instr} {v w : State} (h : Act c v w) (hdecode : ∀ t, c ≠ .decode t)
    (hwindow : ∀ t i, c ≠ .windowExpiry t i) :
    FlagsKept v w ∨ commandMovesMode c v.modes.mode w.modes.mode = true := by
  have hcloses : ¬ closesWindows c := by
    rintro (⟨t, rfl⟩ | ⟨t, i, rfl⟩)
    · exact hdecode t rfl
    · exact hwindow t i rfl
  cases h
  case count op hop =>
    obtain ⟨counters, heq⟩ := counterOps_eq hop v
    rw [heq]
    exact .inl fun _ h => h
  case statusTimer =>
    left
    unfold expireStatusTimer
    split
    · exact fun _ h => h
    · split
      · refine FlagsKept.of_map (placeStatus_streams _ _) fun r hset => ?_
        cases hflag : r.flag <;> simp [hflag, ChangeFlag.carry] at hset ⊢
      · exact fun _ h => h
  case statusSent q =>
    refine .inl (FlagsKept.of_map (statusDelivered_streams q v) fun r hset => ?_)
    cases hflag : r.flag with
    | set => rfl
    | clear => simp [hflag, ChangeFlag.delivered] at hset
    | carried n =>
      simp only [hflag, ChangeFlag.delivered] at hset
      split at hset <;> cases hset
  case restart hrestarts =>
    right
    rcases hrestarts with ⟨⟨t, rfl⟩, hmode, -⟩ | ⟨⟨t, rfl⟩, hmode⟩ <;> simp [restartBlocks, hmode, commandMovesMode]
  case malformed r hd => exact absurd (.inl hd) hcloses
  case unused i e hd hj => exact absurd (.inl hd) hcloses
  case used i e hd hpass hj => exact absurd (.inl hd) hcloses
  case expire hcloses' i d hd hlate => exact absurd hcloses' hcloses
  case lose_stream hcloses' i d hd hlate => exact absurd hcloses' hcloses
  case acceptBlock words _ _ _ =>
    left
    intro i hset
    simp only [Machine.acceptBlock, enterMode_frame, acceptLink_streams, acceptTables, configureStreams_get] at hset
    exact hset
  all_goals exact .inl (.of_same (by simp))

/-! ## The quiet mark within an event (R158) -/

/-- Only the entry into SUPPLY HALTED sets the quiet mark. -/
theorem Act.quiet {c : Instr} {v w : State} (h : Act c v w) (hstart : v.port.reading = true → v.modes.mode = .start)
    (hquiet : w.link.quiet = true) :
    v.link.quiet = true ∨ w.modes.mode = .supplyHalted ∧ commandMovesMode c v.modes.mode .supplyHalted = true := by
  cases h
  case count op hop =>
    obtain ⟨counters, heq⟩ := counterOps_eq hop v
    rw [heq] at hquiet
    exact .inl hquiet
  case endQuiet => exact .inl (endQuietPhase_quiet v hquiet)
  case cleanRun f => exact .inl (moveCleanRun_quiet f v hquiet)
  case mute => exact .inl (by simpa [enterMuted_link] using hquiet)
  case enter new cause henters =>
    rw [enterMode_link] at hquiet
    split at hquiet
    next hnew => exact .inr ⟨by simp [hnew], hnew ▸ henters.moves⟩
    next =>
      split at hquiet
      · simp [leaveListen] at hquiet
      · exact .inl hquiet
  case restart => simp [restartLink, leaveListen] at hquiet
  case acceptBlock words hread hwords hreading =>
    obtain ⟨t, bytes, rfl⟩ := hread
    by_cases hok : v.supply.judgement = .ok
    · simp [Machine.acceptBlock, enterMode_link, acceptLink, hok] at hquiet
    · exact .inr ⟨by simp [Machine.acceptBlock, hok], by rw [hstart hreading]; rfl⟩
  case failStart hread hreading =>
    rw [Machine.failStart, enterMode_link, if_neg (by decide), if_neg] at hquiet
    · exact .inl hquiet
    · simp [hstart hreading]
  all_goals exact .inl (by simpa using hquiet)

/-! ## An event that reports no change of mode -/

theorem commandMovesMode_self (c : Instr) (m : Mode) : commandMovesMode c m m = false := by
  cases c with
  | filterTimerExpiry t l => cases l <;> cases m <;> rfl
  | _ => cases m <;> rfl

/-- Within an event that does not move the mode the quiet mark is not set, and no flag is, but by a frame or a window. -/
theorem afterEffect_unmoved {c : Instr} (hc : c ≠ .powerOnReset) (hdecode : ∀ t, c ≠ .decode t)
    {s : State} (hstart : s.port.reading = true → s.modes.mode = .start) :
    ((afterEffect c s).link.quiet = true → s.link.quiet = true) ∧
        ((∀ t i, c ≠ .windowExpiry t i) → FlagsKept s (afterEffect c s)) ∨
      commandMovesMode c s.modes.mode (afterEffect c s).modes.mode = true := by
  have hkept := afterEffect_keeps hc (s := s)
    (P := fun v => (v.port.reading = true → v.modes.mode = .start) ∧
      (v.modes.mode = s.modes.mode ∧ (v.link.quiet = true → s.link.quiet = true) ∧
          ((∀ t i, c ≠ .windowExpiry t i) → FlagsKept s v) ∨
        commandMovesMode c s.modes.mode v.modes.mode = true))
    (fun v w hact ⟨hv, hmode⟩ => by
      obtain ⟨hmoved, hreads⟩ := hact.mode hv
      refine ⟨fun h => (hreads h).2, ?_⟩
      rcases hmode with ⟨hsame, hquiet, hflags⟩ | hbefore
      · rw [hsame] at hmoved
        rcases hmoved with ⟨hstays, -⟩ | hrow
        · refine .inl ⟨hstays, fun h => ?_, fun hwindow j h => ?_⟩
          · rcases hact.quiet hv h with hbefore | ⟨hhalted, hrow⟩
            · exact hquiet hbefore
            · rw [hsame, ← hstays, hhalted, commandMovesMode_self] at hrow
              cases hrow
          · rcases hact.flagsKept hdecode hwindow with hkept | hrow
            · exact hflags hwindow j (hkept j h)
            · rw [hsame, hstays, commandMovesMode_self] at hrow
              cases hrow
        · exact .inr hrow
      · rcases hmoved with ⟨hstays, -⟩ | hrow
        · exact .inr (hstays ▸ hbefore)
        · simp [commandMovesMode_once hdecode hbefore] at hrow)
    ⟨hstart, .inl ⟨rfl, id, fun _ _ h => h⟩⟩
  rcases hkept.2 with ⟨-, hquiet, hflags⟩ | hmoved
  · exact .inl ⟨hquiet, hflags⟩
  · exact .inr hmoved

theorem afterEffect_quiet_of_decode {t : Time} {s : State} (hstart : s.port.reading = true → s.modes.mode = .start)
    (h : (afterEffect (.decode t) s).link.quiet = true) : s.link.quiet = true := by
  refine (afterEffect_keeps (c := .decode t) (s := s) nofun
    (P := fun v => (v.port.reading = true → v.modes.mode = .start) ∧ (v.link.quiet = true → s.link.quiet = true))
    (fun v w hact ⟨hv, hquiet⟩ => ⟨fun h => ((hact.mode hv).2 h).2, fun h => ?_⟩) ⟨hstart, id⟩).2 h
  rcases hact.quiet hv h with hbefore | ⟨-, hrow⟩
  · exact hquiet hbefore
  · cases hmode : v.modes.mode <;> rw [hmode] at hrow <;> cases hrow

/-- An event that sets the quiet mark has moved the mode. -/
theorem mode_ne_of_marksQuiet {c : Instr} (hc : c ≠ .powerOnReset) {s : State}
    (hstart : s.port.reading = true → s.modes.mode = .start) (h : marksQuiet s (afterEffect c s) = true) :
    (afterEffect c s).modes.mode ≠ s.modes.mode := by
  simp only [marksQuiet, Bool.and_eq_true, Bool.not_eq_true'] at h
  obtain ⟨hafter, hbefore⟩ := h
  by_cases hdecode : ∃ t, c = .decode t
  · obtain ⟨t, rfl⟩ := hdecode
    simp [afterEffect_quiet_of_decode hstart hafter] at hbefore
  · rcases afterEffect_unmoved hc (fun t h => hdecode ⟨t, h⟩) hstart with ⟨hquiet, -⟩ | hmoved
    · simp [hquiet hafter] at hbefore
    · intro hsame
      rw [hsame, commandMovesMode_self] at hmoved
      cases hmoved

/-- Within an event that moves no mode, each flag it sets shows a change of its stream's state. -/
theorem afterEffect_flagsShow {c : Instr} (hc : c ≠ .powerOnReset) {s : State}
    (hstart : s.port.reading = true → s.modes.mode = .start) (hback : ¬ s.returnsToLate c)
    (hmode : (afterEffect c s).modes.mode = s.modes.mode) : FlagsShow s (afterEffect c s) := by
  by_cases hdecode : ∃ t, c = .decode t
  · obtain ⟨t, rfl⟩ := hdecode
    exact decodeHead_flagsShow (s := { s with now := t }) hback
  by_cases hwindow : ∃ t i, c = .windowExpiry t i
  · obtain ⟨t, i, rfl⟩ := hwindow
    exact expireIfDue_flagsShow i { s with now := t }
  rcases afterEffect_unmoved hc (fun t h => hdecode ⟨t, h⟩) hstart with ⟨-, hflags⟩ | hmoved
  · exact fun j hset => .inl (hflags (fun t i h => hwindow ⟨t, i, h⟩) j hset)
  · rw [hmode, commandMovesMode_self] at hmoved
    cases hmoved

/-- What STATUS carries at the end of an event is what the event's own effects gave, but for the link state of a phase that ends
with the event. -/
theorem reported_settle {before s : State} (h : marksQuiet before s = false) : reported (settle before s) = reported s := by
  have hlink : (settle before s).link.state = s.link.state := by rw [(settle_sameLink h).1]
  have hstates : (settle before s).streams.map (·.state) = s.streams.map (·.state) := PerStream.ext_get fun i => by simp
  simp [reported, hlink, hstates]

/-! ## The ALERT mailbox within an event (R151, R154) -/

/-- What waits in the ALERT mailbox of `u` waited there at `s`, or returned from transmission. -/
def AlertFrom (s u : LinkController) : Prop :=
  ∀ f, u.mailboxes.get .alert = some f → s.mailboxes.get .alert = some f ∨ s.transmitting = some f

/-- The ALERT mailbox holds at most what it held. -/
def AlertKept (s u : LinkController) : Prop := ∀ f, u.mailboxes.get .alert = some f → s.mailboxes.get .alert = some f

theorem AlertKept.refl (l : LinkController) : AlertKept l l := fun _ h => h

theorem AlertKept.trans {s v u : LinkController} (h₁ : AlertKept s v) (h₂ : AlertKept v u) : AlertKept s u :=
  fun f h => h₁ f (h₂ f h)

theorem alertKept_of_same {s u : LinkController} (h : u.mailboxes = s.mailboxes) : AlertKept s u := fun f hf => by rwa [← h]

theorem alertKept_of_noMail {s u : LinkController} (h : u.mailboxes = noMail) : AlertKept s u := fun f hf => by
  rw [h] at hf
  cases hf

theorem alertKept_placeFrame (entering : Bool) {f : OutFrame} (h : f.kind ≠ .alert) (s : State) :
    AlertKept s.link (placeFrame entering f s).link := by
  rw [placeFrame_link]
  split
  · exact .refl _
  · intro g hg
    rwa [PerKind.get_set, if_neg h.symm] at hg

theorem alertKept_sendReply (r : Reply) (s : State) : AlertKept s.link (sendReply r s).link := by
  unfold sendReply
  split
  · exact .refl _
  · split
    · exact .refl _
    next body rest _ hrefused =>
      intro g hg
      rw [takePlacement_link] at hg
      rwa [PerKind.get_set, if_neg (by simp [replyFrame])] at hg

theorem alertKept_startLowest (s : State) : AlertKept s.link (startLowest s).link := by
  unfold startLowest
  split
  · exact .refl _
  · split
    · exact .refl _
    next k _ =>
      intro g hg
      simp only [setMailbox, PerKind.get_set] at hg
      split at hg
      · cases hg
      · exact hg

theorem alertKept_endQuietPhase (s : State) : AlertKept s.link (endQuietPhase s).link := by
  rw [endQuietPhase_link]
  split
  · exact alertKept_of_noMail rfl
  · exact .refl _

theorem alertKept_moveCleanRun (f : WireFrame) (s : State) : AlertKept s.link (moveCleanRun f s).link := by
  have hlengthen : AlertKept s.link (lengthenRun s).link := by
    unfold lengthenRun leaveMuted
    split
    · split
      · exact alertKept_of_noMail rfl
      · exact .refl _
    · exact .refl _
  unfold moveCleanRun
  split
  · split
    · exact hlengthen
    · split <;> exact .refl _
  · exact .refl _

theorem alertFrom_returnFrame {f : OutFrame} {l : LinkController} {s : State} (hf : l.transmitting = some f)
    (hmail : s.link.mailboxes = l.mailboxes) : AlertFrom l (returnFrame f s).link := by
  intro g hg
  rw [returnFrame_link] at hg
  split at hg
  · exact .inl (hmail ▸ hg)
  · rw [PerKind.get_set, hmail] at hg
    split at hg
    · exact .inr (hf.trans hg)
    · exact .inl hg

/-- No operation places an ALERT: one that returns to the ALERT mailbox was in transmission. -/
theorem Act.alertFrom {c : Instr} {v w : State} (h : Act c v w) :
    AlertKept v.link w.link ∨ (∀ bus, c ≠ .offer bus) ∧ AlertFrom v.link w.link := by
  cases h
  case count op hop =>
    obtain ⟨counters, heq⟩ := counterOps_eq hop v
    rw [heq]
    exact .inl (.refl _)
  case reply => exact .inl (alertKept_sendReply _ v)
  case statusTimer =>
    unfold expireStatusTimer
    split
    · exact .inl (.refl _)
    · split
      · exact .inl (alertKept_placeFrame _ (by simp [statusFrame]) (numberStatus _))
      · exact .inl (.refl _)
  case splitReport => exact .inl (alertKept_placeFrame _ (by simp) _)
  case command a _ _ _ _ _ _ => exact .inl (alertKept_placeFrame _ (by cases a <;> simp [commandKind]) _)
  case offer => exact .inl (alertKept_startLowest v)
  case watch => exact .inl (.refl _)
  case endQuiet => exact .inl (alertKept_endQuietPhase v)
  case lose hlost f hf =>
    obtain ⟨echo, rfl⟩ := hlost
    exact .inr ⟨nofun, alertFrom_returnFrame hf rfl⟩
  case abort haborts f hf =>
    obtain ⟨echo, rfl⟩ := haborts
    exact .inr ⟨nofun, alertFrom_returnFrame hf rfl⟩
  case mute => exact .inl (alertKept_of_noMail rfl)
  case cleanRun => exact .inl (alertKept_moveCleanRun _ v)
  case restart => exact .inl (alertKept_of_noMail (by simp [restartLink, leaveListen]))
  case acceptBlock words _ _ _ => exact .inl (alertKept_of_same (by simp [Machine.acceptBlock, acceptLink]))
  case failStart => exact .inl (alertKept_of_same (by simp [Machine.failStart]))
  all_goals exact .inl (alertKept_of_same (by simp))

/-- Only an offer starts a frame. -/
theorem Act.transmitting {c : Instr} {v w : State} (h : Act c v w) (hoffer : ∀ bus, c ≠ .offer bus) :
    w.link.transmitting = v.link.transmitting ∨ w.link.transmitting = none := by
  cases h
  case count op hop =>
    obtain ⟨counters, heq⟩ := counterOps_eq hop v
    rw [heq]
    exact .inl rfl
  case offer hoffers =>
    obtain ⟨bus, rfl⟩ := hoffers
    exact absurd rfl (hoffer bus)
  case acceptBlock words _ _ _ => exact .inl (by simp [Machine.acceptBlock, acceptLink])
  case failStart => exact .inl (by simp [Machine.failStart])
  case restart => exact .inr (by simp [restartLink, leaveListen])
  case complete => exact .inr rfl
  case mute => exact .inl (by simp [enterMuted_link])
  case lose | abort => exact .inr (by simp)
  case refuse | conflict | stopTimer | unmark | pop | watch | gap | reread | keepRestore | holds | land => exact .inl rfl
  all_goals exact .inl (by simp)

theorem afterEffect_alertFrom {c : Instr} (hc : c ≠ .powerOnReset) (s : State) : AlertFrom s.link (afterEffect c s).link := by
  have hkept := afterEffect_keeps hc (s := s)
    (P := fun v => AlertFrom s.link v.link ∧
      ((∀ bus, c ≠ .offer bus) → v.link.transmitting = s.link.transmitting ∨ v.link.transmitting = none))
    (fun v w hact ⟨hmail, hsent⟩ => by
      refine ⟨fun f hf => ?_, fun hoffer => ?_⟩
      · rcases hact.alertFrom with hkept | ⟨hoffer, hfrom⟩
        · exact hmail f (hkept f hf)
        · rcases hfrom f hf with hwaits | hreturns
          · exact hmail f hwaits
          · rcases hsent hoffer with h | h
            · exact .inr (h ▸ hreturns)
            · rw [h] at hreturns
              cases hreturns
      · rcases hact.transmitting hoffer with h | h
        · rw [h]
          exact hsent hoffer
        · exact .inr h)
    ⟨fun _ h => .inl h, fun _ => .inl rfl⟩
  exact hkept.1

/-- The link controller once the leading alert is sought: a new lead's ALERT is placed, where the controller takes it (R171). -/
theorem findLeading_link (entering : Bool) (before s : State) :
    (findLeading entering before s).link =
      if before.report.alerts = s.report.alerts ∨ leadingAlert s.par s.report.alerts = s.report.leading then s.link
      else if refusesPlacement entering s then s.link
      else { s.link with
        mailboxes := s.link.mailboxes.set .alert (some (alertFrame s (leadingAlert s.par s.report.alerts))) } := by
  simp only [findLeading]
  by_cases hsame : before.report.alerts = s.report.alerts
  · simp [hsame]
  · by_cases hlead : leadingAlert s.par s.report.alerts = s.report.leading
    · simp [hlead]
    · rw [if_neg hsame, if_neg hlead, if_neg (by simp [hsame, hlead]), placeFrame_link]
      rfl

/-- The lead moves in an event exactly when a weighed alert moved and another leads. -/
theorem settle_leading_eq_iff (before s : State) :
    (settle before s).report.leading = s.report.leading ↔
      before.report.alerts = (weighAlerts before s).report.alerts ∨
        leadingAlert (weighAlerts before s).par (weighAlerts before s).report.alerts = (weighAlerts before s).report.leading := by
  have hpar : (weighAlerts before s).par = s.par := rfl
  have hleading : (weighAlerts before s).report.leading = s.report.leading := rfl
  rw [settle_leading, hpar, hleading]
  split
  next h => simp [h]
  next h => simp [h]

theorem leadSettled_alert_kept {before s : State} (h : (settle before s).report.leading = s.report.leading) :
    (leadSettled before s).link = s.link := by
  rw [leadSettled, findLeading_link, if_pos ((settle_leading_eq_iff before s).1 h)]
  rfl

theorem leadSettled_alert_placed {before s : State} (h : (settle before s).report.leading ≠ s.report.leading)
    (htaken : refusesPlacement (marksQuiet before s) s = false) :
    (leadSettled before s).link.mailboxes.get .alert =
      some (alertFrame (weighAlerts before s) (settle before s).report.leading) := by
  have hmoved := (settle_leading_eq_iff before s).not.1 h
  have htaken' : refusesPlacement (marksQuiet before s) (weighAlerts before s) = false := htaken
  rw [leadSettled, findLeading_link, if_neg hmoved, htaken', settle_leading, if_neg (not_or.1 hmoved).1]
  rfl

/-- The end of an event that leaves the leading alert places no ALERT. -/
theorem settle_alertKept {before s : State} (h : (settle before s).report.leading = s.report.leading) :
    AlertKept s.link (settle before s).link := by
  have hsettled : AlertKept s.link (alertsSettled before s).link := fun f hf => by
    have hf' : (leadSettled before s).link.mailboxes.get .alert = some f := hf
    rwa [leadSettled_alert_kept h] at hf'
  have hchanges (e : Bool) : AlertKept s.link (reportChanges e before (alertsSettled before s)).link := by
    refine hsettled.trans ?_
    rw [reportChanges_eq]
    split
    · exact alertKept_placeFrame e (by simp [statusFrame]) (numberStatus _)
    · exact .refl _
  rw [settle_eq]
  split
  · exact (hchanges true).trans (alertKept_endQuietPhase _)
  · exact hchanges false

/-- A machine that takes frames at the end of an event took the event's own. -/
theorem settle_takesFrames {before s : State} (h : (settle before s).takesFrames) :
    marksQuiet before s = false ∧ refusesPlacement false s = false := by
  obtain ⟨hstate, hquiet⟩ := h
  have hmarks : marksQuiet before s = false := by
    by_contra hmarks
    obtain ⟨v, ⟨hsame, -⟩, -, -, hlink⟩ := settle_link_of_marksQuiet (Bool.of_not_eq_false hmarks)
    have hset : s.link.quiet = true := by
      simp only [marksQuiet, Bool.and_eq_true, Bool.not_eq_false] at hmarks
      exact hmarks.1
    rw [hlink] at hstate hquiet
    split at hstate
    · exact hstate rfl
    next hover =>
      rw [if_neg hover, hsame] at hquiet
      simp [hset] at hquiet
  obtain ⟨hlink, -⟩ := settle_sameLink hmarks
  rw [hlink] at hstate hquiet
  have hstate' : s.link.state ≠ .listen := hstate
  have hquiet' : s.link.quiet = false := hquiet
  exact ⟨hmarks, by simp [refusesPlacement, hstate', hquiet']⟩

/-- The ALERT of a new leading alert, with the numbers of the alerts as the event leaves them (R171). -/
theorem settle_alert_placed {before s : State} (hnew : (settle before s).report.leading ≠ s.report.leading)
    (htakes : (settle before s).takesFrames) :
    (settle before s).link.mailboxes.get .alert =
      some (alertFrame (weighAlerts before s) (settle before s).report.leading) := by
  obtain ⟨hmarks, htaken⟩ := settle_takesFrames htakes
  have hchanges : (reportChanges false before (alertsSettled before s)).link.mailboxes.get .alert =
      (leadSettled before s).link.mailboxes.get .alert := by
    rw [reportChanges_eq]
    split
    · rw [placeStatus, placeFrame_link]
      split
      · rfl
      · rw [PerKind.get_set, if_neg (by simp [statusFrame])]
        rfl
    · rfl
  have hlink : (settle before s).link = (reportChanges false before (alertsSettled before s)).link := by
    rw [settle_eq, hmarks]
    rfl
  rw [hlink, hchanges, leadSettled_alert_placed hnew (by rw [hmarks, htaken])]

/-! ## The alerts of an event (R170) -/

theorem raiseAlert_ne_noted {rank : Nat} {a : AlertState} (h : a ≠ .noted) : raiseAlert rank a ≠ .noted := by
  cases a with
  | clear =>
    simp only [raiseAlert]
    split <;> decide
  | raised => exact h
  | noted => exact absurd rfl h

/-- No event raises an alert and notes it. -/
theorem settle_not_noted {c : Instr} (hc : c ≠ .powerOnReset) {s : State} {i : AlertId}
    (hclear : s.report.alerts.get i = .clear) : (settle s (afterEffect c s)).report.alerts.get i ≠ .noted := by
  have hclear' : AlertState.clear ≠ .noted := by decide
  have heffect : (afterEffect c s).report.alerts.get i ≠ .noted := by
    rcases afterEffect_alerts_cases hc s with ⟨-, hkept⟩ | ⟨w, hw, hshows, -⟩ | ⟨-, words, hw⟩
    · rw [(hkept i).2 hclear]
      exact hclear'
    · rw [hw, warmRestart_alerts, hshows.alerts, hclear]
      split
      · exact hclear'
      · split
        · exact raiseAlert_ne_noted hclear'
        · exact hclear'
    · rw [hw, acceptBlock, (shows_enterMode _ _ _).alerts, acceptLink_alerts]
      split
      · exact raiseAlert_ne_noted (by simp [hclear])
      · exact hclear'
  rw [settle_alerts]
  simp only [weighAlerts, PerAlert.get_of, moveAlert]
  split
  · exact heffect
  · split
    · exact raiseAlert_ne_noted heffect
    · exact hclear'

/-- Outside the status timer's expiry an event's own effects place no STATUS. -/
theorem afterEffect_placement {c : Instr} (hc : c ≠ .powerOnReset) (htimer : ∀ t, c ≠ .statusTimerExpiry t) (s : State) :
    (afterEffect c s).report.placement = s.report.placement := by
  refine afterEffect_keeps hc (P := fun v => v.report.placement = s.report.placement) (fun v w hact hv => ?_) rfl
  rcases hact.shows_or with h | ⟨n, rfl⟩ | ⟨-, rfl⟩ | ⟨words, -, -, -, rfl⟩ | ⟨⟨t, rfl⟩, -⟩
  · exact h.placement.trans hv
  · unfold noteAlert
    split <;> exact hv
  · exact hv
  · exact (shows_enterMode _ _ _).placement.trans hv
  · exact absurd rfl (htimer t)

theorem treated_of_uses {r : StreamRecord} {e : IntakeEntry} (hlength : e.length.toNat = e.expectedLength)
    (hpass : fieldsPass e.role e.payload) (huses : r.uses e) : r.treated e = r.afterUse e := by
  simp [StreamRecord.treated, hlength, failingField_of_fieldsPass hpass, judgeFrame_of_uses huses, StreamRecord.afterFrame]

/-- A decode that brings a LATE stream back to LATE has raised its change flag (R39). -/
theorem reportsChange_of_returnsToLate {c : Instr} {s : State} (hflags : s.FlagsReported) (h : s.returnsToLate c) :
    reportsChange s (afterEffect c s) = true := by
  obtain ⟨t, e, rest, i, rfl, ⟨hintake, hrole, hlength⟩, hpass, huses, hlate, -⟩ := h
  have hused : ((s.streams.get i).afterUse e).flag = .set := by
    simp [StreamRecord.afterUse, StreamRecord.arrived, hlate]
  have hset : ((decodeHead { s with now := t }).streams.get i).flag = .set := by
    rcases decodeHead_stream (s := { s with now := t }) hintake i with
      ⟨hother, -⟩ | ⟨-, htreated | ⟨d, -, -, -, -, -, hexpired⟩⟩
    · exact absurd hrole hother
    · rw [htreated, treated_of_uses hlength hpass huses]
      exact hused
    · rw [hexpired, treated_of_uses hlength hpass huses]
      rfl
  simp only [reportsChange, Bool.or_eq_true]
  exact .inr ((flagRaised_iff _ _).2 ⟨i, hset, hflags i⟩)

theorem reported_mode {s u : State} (h : reported u = reported s) : u.modes.mode = s.modes.mode := congrArg Reported.mode h

theorem reported_stream {s u : State} (h : reported u = reported s) (i : StreamId) :
    (u.streams.get i).state = (s.streams.get i).state := by
  have := congrArg (fun r : Reported => r.streams.get i) h
  simpa [reported] using this

/-- What STATUS carries changes in an event exactly when the event's own effects changed it. -/
theorem reported_event_iff {c : Instr} (hc : c ≠ .powerOnReset) {s : State}
    (hstart : s.port.reading = true → s.modes.mode = .start) :
    reported (settle s (afterEffect c s)) = reported s ↔ reported s = reported (afterEffect c s) := by
  cases hmarks : marksQuiet s (afterEffect c s)
  · rw [reported_settle hmarks, eq_comm]
  · have hmoved := mode_ne_of_marksQuiet hc hstart hmarks
    refine iff_of_false (fun h => hmoved ?_) (fun h => hmoved (reported_mode h.symm))
    simpa using reported_mode h

/-- An event that reports no change places no STATUS, unless a stream was LATE, and is LATE again. -/
theorem reportsChange_event {c : Instr} (hc : c ≠ .powerOnReset) {s : State}
    (hstart : s.port.reading = true → s.modes.mode = .start) (hback : ¬ s.returnsToLate c)
    (hsame : reported (settle s (afterEffect c s)) = reported s) : reportsChange s (afterEffect c s) = false := by
  have heffect := (reported_event_iff hc hstart).1 hsame
  simp only [reportsChange, heffect, decide_true, Bool.not_true, Bool.false_or]
  by_contra hraised
  obtain ⟨i, hset, hunset⟩ := (flagRaised_iff _ _).1 (Bool.of_not_eq_false hraised)
  rcases afterEffect_flagsShow hc hstart hback (reported_mode heffect.symm) i hset with h | h
  · exact hunset h
  · exact h (reported_stream heffect.symm i)

theorem countAlerts_settle (before s : State) (x : AlertState) :
    countAlerts (weighAlerts before s).report.alerts x =
      (alertIds.filter fun j => (settle before s).report.alerts.get j == x).length := by
  rw [settle_alerts]
  rfl

/-- An ALERT names its alert, 0 for none, and its rank, and counts the RAISED and the NOTED (R171). -/
theorem alertFrame_content (s : State) (l : Option AlertId) :
    ∃ number rank,
      (alertFrame s l).content =
        .alert number rank (countAlerts s.report.alerts .raised) (countAlerts s.report.alerts .noted) ∧
      (l = none → number = 0) ∧
      ∀ i, l = some i → number = i.number ∧ rank = BitVec.ofNat 8 (s.par.ranks.get i) := by
  cases l with
  | none => exact ⟨_, _, rfl, fun _ => rfl, nofun⟩
  | some i =>
    refine ⟨_, _, rfl, nofun, ?_⟩
    rintro _ ⟨⟩
    exact ⟨rfl, rfl⟩

/-- Settles O60: the end of an event compares what STATUS carries, and the leading alert, with what they were before it. -/
theorem everyEventReportsItsChanges : Obligations.EveryEventReportsItsChanges := by
  unfold Obligations.EveryEventReportsItsChanges
  refine ⟨fun s => rfl, fun c s u hstart hc hexec => ?_⟩
  have hreads : s.port.reading = true → s.modes.mode = .start := fun h => (hstart h).1
  obtain rfl := (exec_next_iff hc).1 hexec
  obtain ⟨hlead, -, -⟩ := afterEffect_lines hc s
  refine ⟨fun htimer => ?_, fun i hclear => settle_not_noted hc hclear, fun hsame f hf => ?_, fun hnew htakes => ?_⟩
  · rw [settle_placement, afterEffect_placement hc htimer]
    refine ⟨fun hsame hback => by simp [reportsChange_event hc hreads hback hsame], fun hchanged => ?_⟩
    have hreports : reportsChange s (afterEffect c s) = true := by
      rcases hchanged with hdiffers | ⟨hflags, hback⟩
      · rw [ne_eq, reported_event_iff hc hreads] at hdiffers
        simp [reportsChange, hdiffers]
      · exact reportsChange_of_returnsToLate hflags hback
    simp [hreports]
  · exact afterEffect_alertFrom hc s f (settle_alertKept (hsame.trans hlead.symm) f hf)
  · rw [← hlead] at hnew
    obtain ⟨number, rank, hcontent, hnone, hsome⟩ :=
      alertFrame_content (weighAlerts s (afterEffect c s)) (settle s (afterEffect c s)).report.leading
    rw [countAlerts_settle, countAlerts_settle] at hcontent
    refine ⟨_, number, rank, settle_alert_placed hnew htakes, rfl, hcontent, hnone, fun i p hi hp => ?_⟩
    have hpar : (weighAlerts s (afterEffect c s)).par = p := par_of_params (by simpa using hp)
    exact hpar ▸ hsome i hi

end Sys2Proof.Machine

namespace Sys2Proof.Machine

/-! The stages of a pass: clip and transfer (O46), power (O47), ramp (O48, O49). -/

/-! ## Clamps -/

theorem clampTo_eq {lo hi : Int} (v : Int) (h : lo ≤ hi) : clampTo lo hi v = max lo (min hi v) := by
  unfold clampTo
  split <;> [skip; split] <;> omega

theorem clampWindow_eq {w : Window} (v : Int) (h : w.floor ≤ w.ceiling) :
    clampWindow w v = max w.floor (min w.ceiling v) := clampTo_eq v h

theorem clampWindow_holds {w : Window} (v : Int) (h : w.floor ≤ w.ceiling) : w.holds (clampWindow w v) :=
  clampTo_bounds v h

/-! ## Clip and transfer (R18 to R20) -/

section Transfer

variable (demand : Int) (t₀ : PerAxle Int) {w : PerAxle Window} (e : PerAxle EdgeRows)

/-- A clamp is a cut exactly when its value lies outside the window. -/
theorem cutAt_values (a : Axle) (h : (w.get a).floor ≤ (w.get a).ceiling) (v : Int) :
    (cutAt a (w.get a) (e.get a) v).map (fun c => (c.axle, c.preClip)) =
      [(a, v)].filter fun x : Axle × Int => decide (x.2 < (w.get x.1).floor ∨ (w.get x.1).ceiling < x.2) := by
  have houtside : clampWindow (w.get a) v = v ↔ ¬ (v < (w.get a).floor ∨ (w.get a).ceiling < v) := by
    rw [clampWindow_eq v h]
    omega
  unfold cutAt
  by_cases hcut : v < (w.get a).floor ∨ (w.get a).ceiling < v
  · rw [if_neg (by simp [houtside, hcut])]
    split <;> simp [hcut]
  · rw [if_pos (houtside.2 hcut)]
    simpa [List.filter_cons] using hcut

/-- A cut stands at the edge that cut its value, and names that edge's row. -/
theorem cutAt_edge {a : Axle} (h : (w.get a).floor ≤ (w.get a).ceiling) {v : Int} :
    ∀ c ∈ cutAt a (w.get a) (e.get a) v,
      (c.limit = (w.get c.axle).ceiling ∧ c.limit < c.preClip ∧ c.row = (e.get c.axle).ceiling) ∨
        (c.limit = (w.get c.axle).floor ∧ c.preClip < c.limit ∧ c.row = (e.get c.axle).floor) := by
  intro c hc
  unfold cutAt at hc
  split at hc
  · cases hc
  next hchanged =>
    rw [clampWindow_eq v h] at hchanged
    split at hc
    all_goals
      obtain rfl := List.mem_singleton.1 hc
    · exact .inl ⟨rfl, by simp only; omega, rfl⟩
    · exact .inr ⟨rfl, by simp only; omega, rfl⟩

theorem clipAndTransfer_of_placed
    (h : clampWindow w.front t₀.front + clampWindow w.rear t₀.rear = demand) :
    clipAndTransfer demand t₀ w e =
      { torque := ⟨clampWindow w.front t₀.front, clampWindow w.rear t₀.rear⟩
        cuts := cutAt .front w.front e.front t₀.front ++ cutAt .rear w.rear e.rear t₀.rear } := by
  have hnone : demand - clampWindow w.front t₀.front - clampWindow w.rear t₀.rear = 0 := by omega
  simp only [clipAndTransfer, hnone, if_true]

/-- What remains goes to the rear axle first, and what the rear axle cannot take to the front one. -/
theorem clipAndTransfer_of_remaining {r₂ : Int}
    (h : clampWindow w.front t₀.front + clampWindow w.rear t₀.rear ≠ demand)
    (hr : r₂ = clampWindow w.rear (demand - clampWindow w.front t₀.front)) :
    clipAndTransfer demand t₀ w e =
      { torque := ⟨clampWindow w.front (demand - r₂), r₂⟩
        cuts := cutAt .front w.front e.front t₀.front ++ cutAt .rear w.rear e.rear t₀.rear ++
          cutAt .rear w.rear e.rear (demand - clampWindow w.front t₀.front) ++
          cutAt .front w.front e.front (demand - r₂) } := by
  have hsome : demand - clampWindow w.front t₀.front - clampWindow w.rear t₀.rear ≠ 0 := by omega
  have hrear : clampWindow w.rear t₀.rear + (demand - clampWindow w.front t₀.front - clampWindow w.rear t₀.rear) =
      demand - clampWindow w.front t₀.front := by omega
  have hfront : clampWindow w.front t₀.front + (demand - clampWindow w.front t₀.front - clampWindow w.rear t₀.rear -
      (r₂ - clampWindow w.rear t₀.rear)) = demand - r₂ := by omega
  simp only [clipAndTransfer, if_neg hsome, hrear, ← hr, hfront]

end Transfer

/-- Settles O46: the demand is placed by the clips, or what remains of it goes through the rear window and then the front one. -/
theorem clipAndTransferPlaceTheDemandRearFirst : Obligations.ClipAndTransferPlaceTheDemandRearFirst := by
  unfold Obligations.ClipAndTransferPlaceTheDemandRearFirst
  rintro demand f₁ r₁ t₀ w e s7 hw rfl hf hr
  have hfront : w.front.floor ≤ w.front.ceiling := hw .front
  have hrear : w.rear.floor ≤ w.rear.ceiling := hw .rear
  rw [← clampWindow_eq _ hfront] at hf
  rw [← clampWindow_eq _ hrear] at hr
  subst hf hr
  have hclips : ∀ c ∈ cutAt .front w.front e.front t₀.front ++ cutAt .rear w.rear e.rear t₀.rear,
      (c.limit = (w.get c.axle).ceiling ∧ c.limit < c.preClip ∧ c.row = (e.get c.axle).ceiling) ∨
        (c.limit = (w.get c.axle).floor ∧ c.preClip < c.limit ∧ c.row = (e.get c.axle).floor) :=
    List.forall_mem_append.2 ⟨cutAt_edge e (hw .front), cutAt_edge e (hw .rear)⟩
  have hfrontCut (v : Int) := cutAt_values e .front hfront v
  have hrearCut (v : Int) := cutAt_values e .rear hrear v
  simp only [PerAxle.get] at hfrontCut hrearCut
  by_cases hplaced : clampWindow w.front t₀.front + clampWindow w.rear t₀.rear = demand
  · rw [clipAndTransfer_of_placed demand t₀ e hplaced]
    refine ⟨fun _ => rfl, fun h => absurd hplaced h, fun a => ?_, fun h => ?_, fun h => ?_, ?_, hclips⟩
    · cases a
      · exact clampWindow_holds _ hfront
      · exact clampWindow_holds _ hrear
    · exact absurd hplaced (ne_of_lt h)
    · exact absurd hplaced (ne_of_gt h)
    · rw [if_pos hplaced, List.append_nil, List.map_append, hfrontCut, hrearCut, ← List.filter_append]
      rfl
  · obtain ⟨r₂, hr₂⟩ : ∃ r₂, r₂ = clampWindow w.rear (demand - clampWindow w.front t₀.front) := ⟨_, rfl⟩
    rw [clipAndTransfer_of_remaining demand t₀ e hplaced hr₂]
    have hedge := clampWindow_eq (demand - r₂) hfront
    have hf₁ := clampWindow_eq t₀.front hfront
    have hr₁ := clampWindow_eq t₀.rear hrear
    have hr₂' := hr₂.trans (clampWindow_eq _ hrear)
    refine ⟨fun h => absurd h hplaced, fun _ => ⟨hr₂', hedge⟩, fun a => ?_, fun h a => ?_, fun h a => ?_, ?_, ?_⟩
    · cases a
      · exact clampWindow_holds _ hfront
      · exact hr₂ ▸ clampWindow_holds _ hrear
    · simp only at h
      cases a
      · show clampWindow w.front (demand - r₂) = w.front.ceiling
        omega
      · show r₂ = w.rear.ceiling
        omega
    · simp only at h
      cases a
      · show clampWindow w.front (demand - r₂) = w.front.floor
        omega
      · show r₂ = w.rear.floor
        omega
    · simp only [if_neg hplaced, List.map_append, hfrontCut, hrearCut, ← List.filter_append]
      rfl
    · exact List.forall_mem_append.2 ⟨List.forall_mem_append.2 ⟨hclips, cutAt_edge e (hw .rear)⟩, cutAt_edge e (hw .front)⟩

end Sys2Proof.Machine

namespace Sys2Proof.Machine

/-! ## Power (R71 to R77) -/

/-- A pass's torques do not depend on the rows of its window's edges. -/
theorem clipAndTransfer_torque_rows (demand : Int) (t₀ : PerAxle Int) (w : PerAxle Window) (e e' : PerAxle EdgeRows) :
    (clipAndTransfer demand t₀ w e).torque = (clipAndTransfer demand t₀ w e').torque := by
  simp only [clipAndTransfer]
  split <;> rfl

section Factor

variable {drive regen total : Int}

theorem powerFactor_of_driving (h : drive < total) : powerFactor drive regen total = (drive * 4096).tdiv total := if_pos h

theorem powerFactor_of_braking (hd : total ≤ drive) (hr : total < -regen) :
    powerFactor drive regen total = (regen * 4096).tdiv total.natAbs :=
  (if_neg (Int.not_lt.2 hd)).trans (if_pos hr)

theorem powerFactor_of_within (hd : total ≤ drive) (hr : -regen ≤ total) : powerFactor drive regen total = 4096 :=
  (if_neg (Int.not_lt.2 hd)).trans (if_neg (Int.not_lt.2 hr))

/-- A limit below the power it is held against gives less than the full factor. -/
theorem share_of_full {limit power : Int} (h₀ : 0 ≤ limit) (h : limit < power) :
    0 ≤ (limit * 4096).tdiv power ∧ (limit * 4096).tdiv power < 4096 := by
  have hpower : 0 < power := h₀.trans_lt h
  rw [Int.tdiv_eq_ediv_of_nonneg (by omega)]
  exact ⟨Int.ediv_nonneg (by omega) hpower.le, Int.ediv_lt_of_lt_mul hpower (by nlinarith)⟩

/-- The factor is between 0 and 4 096, and full exactly where the power is within its limits (R76). -/
theorem powerFactor_bounds (hdrive : 0 ≤ drive) (hregen : 0 ≤ regen) :
    0 ≤ powerFactor drive regen total ∧ powerFactor drive regen total ≤ 4096 ∧
      (powerFactor drive regen total = 4096 ↔ -regen ≤ total ∧ total ≤ drive) := by
  by_cases hd : drive < total
  · obtain ⟨hlow, hhigh⟩ := share_of_full hdrive hd
    rw [powerFactor_of_driving hd]
    omega
  · by_cases hr : total < -regen
    · obtain ⟨hlow, hhigh⟩ := share_of_full (power := total.natAbs) hregen (by omega)
      rw [powerFactor_of_braking (by omega) hr]
      omega
    · rw [powerFactor_of_within (by omega) (by omega)]
      omega

end Factor

/-- Scaling by a factor of at most 4 096 keeps a torque between 0 and itself (R77). -/
theorem scaleTorque_within {factor : Int} (t : Int) (h₀ : 0 ≤ factor) (h₁ : factor ≤ 4096) :
    (scaleTorque factor t).natAbs ≤ t.natAbs ∧ 0 ≤ scaleTorque factor t * t := by
  constructor
  · rw [scaleTorque, truncDiv_natAbs, Int.natAbs_mul]
    have hfactor : factor.natAbs ≤ 4096 := by omega
    exact Nat.div_le_of_le_mul ((Nat.mul_le_mul_left _ hfactor).trans_eq (Nat.mul_comm _ _))
  · rcases Int.le_total 0 t with ht | ht
    · exact Int.mul_nonneg (truncDiv_nonneg (Int.mul_nonneg ht h₀) (by decide)) ht
    · exact Int.mul_nonneg_of_nonpos_of_nonpos (truncDiv_nonpos (Int.mul_nonpos_of_nonpos_of_nonneg ht h₀) (by decide)) ht

theorem scaleTorque_full (t : Int) : scaleTorque 4096 t = t := Int.mul_tdiv_cancel t (by decide)

theorem scaleTorque_zero (t : Int) : scaleTorque 0 t = 0 := by simp [scaleTorque, truncDiv]

theorem computePass_factor (p : Params) (sn : Snapshot) (previous : PerAxle Int) (regs : PerAxle GripRegulator) (n : BitVec 32) :
    (computePass p sn previous regs n).record.factor =
      powerFactor (dischargeLimit p sn) (chargeLimit sn)
        (totalPower p sn (passTransfer p sn (computePass p sn previous regs n).record).torque) := rfl

/-- Settles O47: the factor is that of R76 on the total of R71 and R72, and scaling by it is R77. -/
theorem scaledTorquesLieBetweenZeroAndTheirTargets : Obligations.ScaledTorquesLieBetweenZeroAndTheirTargets := by
  unfold Obligations.ScaledTorquesLieBetweenZeroAndTheirTargets
  rintro p sn previous regs n r rows t₂ power electrical total drive regen rfl ht₂ hpower helectrical htotal hdrive hregen
  have ht : (passTransfer p sn (computePass p sn previous regs n).record).torque = t₂ := by
    rw [ht₂]
    exact clipAndTransfer_torque_rows _ _ _ _ _
  have hfactor := computePass_factor p sn previous regs n
  have htotal' : totalPower p sn t₂ = total := by
    have hfront := helectrical .front
    have hrear := helectrical .rear
    rw [hpower] at hfront hrear
    rw [htotal]
    exact (congrArg₂ (· + ·) hfront hrear).symm
  rw [ht, htotal', show dischargeLimit p sn = drive from hdrive.symm, show chargeLimit sn = regen from hregen.symm] at hfactor
  have hscaled (a : Axle) := computePass_scaled p sn previous regs n a
  simp only [ht] at hscaled
  refine ⟨fun hd => hfactor.trans (powerFactor_of_driving hd), fun hd hr => hfactor.trans (powerFactor_of_braking hd hr),
    fun hd hr => hfactor.trans (powerFactor_of_within hd hr), hscaled, fun hfull => PerAxle.ext_get fun a => ?_,
    fun hzero => PerAxle.ext_get fun a => ?_, fun hcharge => ?_⟩
  · rw [hscaled, hfull, scaleTorque_full]
  · rw [hscaled, hzero, scaleTorque_zero]
    cases a <;> rfl
  · obtain ⟨hlow, hhigh, hfull⟩ := powerFactor_bounds (drive := drive) (regen := regen) (total := total) (by omega) (by omega)
    rw [← hfactor] at hlow hhigh hfull
    refine ⟨hlow, hhigh, hfull, fun a => ?_⟩
    rw [hscaled]
    exact scaleTorque_within _ hlow hhigh

end Sys2Proof.Machine

namespace Sys2Proof.Machine

/-! ## The ramp (R98 to R102) -/

theorem computePass_final (p : Params) (sn : Snapshot) (previous : PerAxle Int) (regs : PerAxle GripRegulator) (n : BitVec 32)
    (a : Axle) : (computePass p sn previous regs n).record.final.get a =
      clampWindow (clampingWindow (computePass p sn previous regs n).record.factor
          ((computePass p sn previous regs n).record.scaled.get a) ((computePass p sn previous regs n).record.windows.get a))
        (passRamped p sn previous (computePass p sn previous regs n).record a) := by
  cases a <;> rfl

theorem clampingWindow_of_scaling {factor : Int} (h : factor < 4096) (target : Int) (w : Window) :
    clampingWindow factor target w = { floor := min 0 target, ceiling := max 0 target } := if_pos h

section Pass

variable {p : Params} {sn : Snapshot} (previous : PerAxle Int) (regs : PerAxle GripRegulator) (n : BitVec 32) (a : Axle)

/-- The windows of a pass contain zero (R62). -/
theorem computePass_windows_containZero (hp : p.PassSound) (hsn : sn.Sound p) :
    ((computePass p sn previous regs n).record.windows.get a).containsZero :=
  ((windowsContainZeroWithinTheDrivelineLimit p sn previous regs n a).2 hp hsn).1

theorem passTransfer_holds (hp : p.PassSound) (hsn : sn.Sound p) :
    ((computePass p sn previous regs n).record.windows.get a).holds
      ((passTransfer p sn (computePass p sn previous regs n).record).torque.get a) := by
  have hwindows (b : Axle) : ((computePass p sn previous regs n).record.windows.get b).floor ≤
      ((computePass p sn previous regs n).record.windows.get b).ceiling := by
    obtain ⟨hfloor, hceiling⟩ := computePass_windows_containZero previous regs n b hp hsn
    omega
  exact (clipAndTransferPlaceTheDemandRearFirst _ _ _ _ _ _ _ hwindows rfl rfl rfl).2.2.1 a

theorem computePass_factor_bounds (hcharge : 0 ≤ sn.power.charge) :
    0 ≤ (computePass p sn previous regs n).record.factor ∧ (computePass p sn previous regs n).record.factor ≤ 4096 := by
  have hbounds := powerFactor_bounds (drive := dischargeLimit p sn) (regen := chargeLimit sn)
    (total := totalPower p sn (passTransfer p sn (computePass p sn previous regs n).record).torque)
    (by unfold dischargeLimit; omega) (by unfold chargeLimit; omega)
  exact ⟨hbounds.1, hbounds.2.1⟩

/-- A scaled torque stands in its window: it lies between 0 and a torque that does. -/
theorem computePass_scaled_holds (hp : p.PassSound) (hsn : sn.Sound p) (hcharge : 0 ≤ sn.power.charge) :
    ((computePass p sn previous regs n).record.windows.get a).holds ((computePass p sn previous regs n).record.scaled.get a) := by
  obtain ⟨hfloor, hceiling⟩ := computePass_windows_containZero previous regs n a hp hsn
  obtain ⟨hlow, hhigh⟩ := passTransfer_holds previous regs n a hp hsn
  obtain ⟨h₀, h₁⟩ := computePass_factor_bounds (p := p) previous regs n hcharge
  rw [computePass_scaled]
  obtain ⟨hsmaller, hsign⟩ := scaleTorque_within
    ((passTransfer p sn (computePass p sn previous regs n).record).torque.get a) h₀ h₁
  generalize scaleTorque _ _ = x at *
  generalize (passTransfer p sn (computePass p sn previous regs n).record).torque.get a = t at *
  unfold Window.holds
  rcases Int.lt_trichotomy t 0 with ht | rfl | ht
  · have : x ≤ 0 := by nlinarith
    omega
  · omega
  · have : 0 ≤ x := by nlinarith
    omega

theorem rampAllowance_nonneg (hp : p.PassSound) (start target : Int) :
    0 ≤ rampAllowance p (elapsedTime sn) start target := by
  obtain ⟨-, -, -, hrise, hrelease, -⟩ := hp
  have helapsed := (elapsedTime_pos sn).trans' (by decide : (0 : Int) ≤ 1)
  unfold rampAllowance
  split
  · exact Int.mul_nonneg hrise helapsed
  · exact Int.mul_nonneg hrelease helapsed

/-- The ramped value is the previous command moved toward its target by at most the allowance (R99). -/
theorem rampValue_eq {allowance : Int} (h : 0 ≤ allowance) (start target : Int) :
    rampValue allowance start target = start + max (-allowance) (min allowance (target - start)) := by
  rw [rampValue, clampTo_eq _ (by omega)]

theorem computePass_final_of_scaling (h : (computePass p sn previous regs n).record.factor < 4096) :
    (computePass p sn previous regs n).record.final.get a =
      max (min 0 ((computePass p sn previous regs n).record.scaled.get a))
        (min (max 0 ((computePass p sn previous regs n).record.scaled.get a))
          (passRamped p sn previous (computePass p sn previous regs n).record a)) := by
  rw [computePass_final, clampingWindow_of_scaling h, clampWindow_eq _ (by simp only; omega)]

theorem computePass_final_of_full (hp : p.PassSound) (hsn : sn.Sound p)
    (h : (computePass p sn previous regs n).record.factor = 4096) :
    (computePass p sn previous regs n).record.final.get a =
      max ((computePass p sn previous regs n).record.windows.get a).floor
        (min ((computePass p sn previous regs n).record.windows.get a).ceiling
          (passRamped p sn previous (computePass p sn previous regs n).record a)) := by
  obtain ⟨hfloor, hceiling⟩ := computePass_windows_containZero previous regs n a hp hsn
  rw [computePass_final, clampingWindow, if_neg (by rw [h]; decide), clampWindow_eq _ (hfloor.trans hceiling)]

end Pass

/-- Settles O48: the final is the ramped value, clamped between 0 and the scaled torque or to the axle's window. -/
theorem finalTorquesAreRampedWithinTheirWindows : Obligations.FinalTorquesAreRampedWithinTheirWindows := by
  unfold Obligations.FinalTorquesAreRampedWithinTheirWindows
  rintro p sn previous regs n a r target start allowance ramped hp hsn hcharge rfl rfl rfl hallowance hramped
  rw [← rampAllowance_eq] at hallowance
  have hramp : ramped = passRamped p sn previous (computePass p sn previous regs n).record a := by
    rw [hramped, hallowance, passRamped, rampValue_eq (rampAllowance_nonneg hp _ _)]
  have hscaling := computePass_final_of_scaling (p := p) (sn := sn) previous regs n a
  have hfull := computePass_final_of_full previous regs n a hp hsn
  rw [← hramp] at hscaling hfull
  obtain ⟨-, hbound⟩ := computePass_factor_bounds (p := p) previous regs n hcharge
  refine ⟨hscaling, hfull, ?_, hbound⟩
  obtain ⟨hfloor, hceiling⟩ := computePass_windows_containZero previous regs n a hp hsn
  obtain ⟨hlow, hhigh⟩ := computePass_scaled_holds previous regs n a hp hsn hcharge
  unfold Window.holds
  rcases hbound.lt_or_eq with hless | heq
  · rw [hscaling hless]
    omega
  · rw [hfull heq]
    omega

/-! ## SUPPLY DOWN (R102, R141) -/

theorem passTransfer_of_no_demand {p : Params} {sn : Snapshot} (previous : PerAxle Int) (regs : PerAxle GripRegulator)
    (n : BitVec 32) (hp : p.PassSound) (hsn : sn.Sound p) (hmode : sn.mode ≠ .driving) :
    (passTransfer p sn (computePass p sn previous regs n).record).torque = ⟨0, 0⟩ := by
  have hdemand := (computePass_of_not_driving p (sn := sn) previous regs n hmode).1
  have hzero (a : Axle) : clampWindow ((computePass p sn previous regs n).record.windows.get a) 0 = 0 := by
    obtain ⟨hfloor, hceiling⟩ := computePass_windows_containZero previous regs n a hp hsn
    exact clampTo_of_within hfloor hceiling
  have hfront := hzero .front
  have hrear := hzero .rear
  have hinitial (share : Int) : initialTorque 0 share = ⟨0, 0⟩ := by simp [initialTorque, roundDiv]
  simp only [PerAxle.get] at hfront hrear
  rw [passTransfer, hdemand, hinitial, clipAndTransfer_of_placed _ _ _ (by simp only [hfront, hrear]; rfl)]
  simp only [hfront, hrear]

theorem totalPower_of_no_torque (p : Params) (sn : Snapshot) : totalPower p sn ⟨0, 0⟩ = 0 := by
  simp [totalPower, electricalPower, mechanicalPower, truncDiv, magnitude]

/-- A pass without demand is held by no power limit, and its torques are all 0. -/
theorem computePass_of_no_demand {p : Params} {sn : Snapshot} (previous : PerAxle Int) (regs : PerAxle GripRegulator)
    (n : BitVec 32) (a : Axle) (hp : p.PassSound) (hsn : sn.Sound p) (hmode : sn.mode ≠ .driving) (hcharge : 0 ≤ sn.power.charge) :
    (computePass p sn previous regs n).record.factor = 4096 ∧ (computePass p sn previous regs n).record.scaled.get a = 0 := by
  have htorque := passTransfer_of_no_demand previous regs n hp hsn hmode
  constructor
  · rw [computePass_factor, htorque, totalPower_of_no_torque]
    exact powerFactor_of_within (by unfold dischargeLimit; omega) (by unfold chargeLimit; omega)
  · rw [computePass_scaled, htorque]
    cases a <;> simp [PerAxle.get, scaleTorque, truncDiv]

/-- In SUPPLY DOWN the window stands within the lowered supply ceiling (R61, R102). -/
theorem computePass_windows_within_supply {p : Params} {sn : Snapshot} (previous : PerAxle Int) (regs : PerAxle GripRegulator)
    (n : BitVec 32) (a : Axle) (hmode : sn.mode = .supplyDown) :
    -(loweredCeiling p sn (elapsedTime sn) a) ≤ ((computePass p sn previous regs n).record.windows.get a).floor ∧
      ((computePass p sn previous regs n).record.windows.get a).ceiling ≤ loweredCeiling p sn (elapsedTime sn) a := by
  have hmem (g : Int) : RowBound.mk .supply (symmetric (loweredCeiling p sn (elapsedTime sn) a)) ∈
      axleBounds p sn (elapsedTime sn) g a := by
    simp [axleBounds, rowBound, hmode]
  rw [computePass_windows]
  exact composeWindow_within (hmem _)

/-- Settles O49: without demand a torque is ramped toward 0, within a window that contains 0 and the lowered ceiling holds. -/
theorem supplyDownNeverRaisesATorque : Obligations.SupplyDownNeverRaisesATorque := by
  unfold Obligations.SupplyDownNeverRaisesATorque
  intro p sn previous regs n a b hp hsn hmode hb hcharge
  have hdriving : sn.mode ≠ .driving := by simp [hmode]
  obtain ⟨hfactor, hscaled⟩ := computePass_of_no_demand previous regs n a hp hsn hdriving hcharge
  obtain ⟨hfloor, hceiling⟩ := computePass_windows_containZero previous regs n a hp hsn
  obtain ⟨hlow, hhigh⟩ := computePass_windows_within_supply (p := p) previous regs n a hmode
  have hlowered : loweredCeiling p sn (elapsedTime sn) a = max 0 (b.ceiling - p.supplyFallRate * elapsedTime sn) := by
    simp [loweredCeiling, hb]
  have hfinal := computePass_final_of_full previous regs n a hp hsn hfactor
  have hallowance := rampAllowance_nonneg (sn := sn) hp (previous.get a) 0
  rw [passRamped, hscaled, rampValue_eq hallowance] at hfinal
  rw [hlowered] at hlow hhigh
  generalize rampAllowance _ _ _ _ = allowance at *
  generalize (computePass p sn previous regs n).record.final.get a = final at *
  generalize previous.get a = start at *
  refine ⟨by omega, ?_, by omega⟩
  rcases Int.le_total 0 start with hs | hs
  · exact Int.mul_nonneg (by omega) hs
  · exact Int.mul_nonneg_of_nonpos_of_nonpos (by omega) hs

end Sys2Proof.Machine

namespace Sys2Proof.Machine

/-! The first stages of a pass: elapsed time, demand, speeds and the grip update (O43). -/

/-! ## What the snapshot gives (R11, R12, R67, R84, R85) -/

theorem believed_iff (x : StreamState) : x.believed = true ↔ x = .fresh ∨ x = .late := by
  cases x <;> simp [StreamState.believed]

theorem elapsedTime_eq (sn : Snapshot) :
    elapsedTime sn = if sn.firstPass then 1 else max 1 (min 20 ((sn.time - sn.lastStartBefore).toNat : Int)) := by
  unfold elapsedTime
  split
  · rfl
  · exact clampTo_eq _ (by decide)

/-- The demand is served in DRIVING, with HOLD inactive, a believed demand stream and a direction (R12). -/
def Snapshot.ServesDemand (sn : Snapshot) : Prop :=
  sn.mode = .driving ∧ sn.hold = .inactive ∧ (sn.demandState = .fresh ∨ sn.demandState = .late) ∧
    sn.demand.direction ≠ .neutral

theorem passDemand_of_served {sn : Snapshot} (h : sn.ServesDemand) : passDemand sn = sn.demand.torque := by
  obtain ⟨hmode, hhold, hstate, hdirection⟩ := h
  rw [← believed_iff] at hstate
  simp [passDemand, hmode, hhold, hstate, hdirection]

theorem passDemand_of_unserved {sn : Snapshot} (h : ¬ sn.ServesDemand) : passDemand sn = 0 := by
  unfold passDemand
  split
  next hmode =>
    split
    · rfl
    next hhold =>
      split
      next hstate =>
        split
        · rfl
        next hdirection =>
          refine absurd ⟨hmode, ?_, (believed_iff _).1 hstate, hdirection⟩ h
          cases hlevel : sn.hold with
          | inactive => rfl
          | active => exact absurd hlevel hhold
      · rfl
  · rfl

theorem axleSpeed_eq (p : Params) (sn : Snapshot) (a : Axle) :
    axleSpeed p sn a = max (-25000) (min 25000 (((sn.status.get a).speed * p.speedFactor.get a).tdiv 65536)) :=
  clampTo_eq _ (by decide)

theorem towState_iff (x : StreamState) (present : Bool) :
    towState x present = true ↔ x = .lost ∨ (x = .fresh ∨ x = .late) ∧ present = true := by
  cases x <;> simp [towState]

theorem referenceSpeed_of_record (p : Params) {sn : Snapshot} (hstate : sn.referenceState = .fresh ∨ sn.referenceState = .late)
    (hvalid : sn.reference.valid = true) : referenceSpeed p sn = sn.reference.speed := by
  rw [← believed_iff] at hstate
  simp [referenceSpeed, hstate, hvalid]

theorem referenceSpeed_of_axles (p : Params) {sn : Snapshot}
    (h : ¬ ((sn.referenceState = .fresh ∨ sn.referenceState = .late) ∧ sn.reference.valid = true)) :
    referenceSpeed p sn = degradedReference p sn := by
  rw [← believed_iff, ← Bool.and_eq_true] at h
  simp only [referenceSpeed, if_neg h]

/-- With no reference record the measured axles give the speed (R85). -/
theorem degradedReference_cases (p : Params) (sn : Snapshot) :
    (measured sn .front = true → measured sn .rear = true → degradedReference p sn =
        if (axleSpeed p sn .rear).natAbs < (axleSpeed p sn .front).natAbs then axleSpeed p sn .rear else axleSpeed p sn .front) ∧
      (measured sn .front = true → measured sn .rear = false → degradedReference p sn = axleSpeed p sn .front) ∧
      (measured sn .front = false → measured sn .rear = true → degradedReference p sn = axleSpeed p sn .rear) ∧
      (measured sn .front = false → measured sn .rear = false → degradedReference p sn = 0) := by
  refine ⟨fun hf hr => ?_, fun hf hr => ?_, fun hf hr => ?_, fun hf hr => ?_⟩ <;>
    simp only [degradedReference, hf, hr, magnitude, Int.ofNat_lt]

/-! ## The grip update (R86 to R95) -/

section Update

variable {p : Params} {gmax elapsed sigma target previous g : Int} {st : GripState}

theorem prepareGrip_eq (gmax : Int) (cell : Option Bounds) :
    prepareGrip gmax (cell.map (·.ceiling)) = (cell.map fun b => min b.ceiling gmax).getD gmax := by
  cases cell with
  | none => rfl
  | some b =>
    simp only [prepareGrip, Option.map_some, Option.getD_some]
    split <;> omega

theorem updateGrip_of_excess (h : target < sigma) :
    updateGrip p gmax elapsed sigma target previous g st =
      (max p.gripFloor (min g (magnitude previous) - p.cutGain * (sigma - target)), .slipping) := if_pos h

theorem updateGrip_of_settling (h : sigma ≤ target) (hst : st = .slipping) :
    updateGrip p gmax elapsed sigma target previous g st = (g, .recovering) := by
  subst hst
  exact if_neg (Int.not_lt.2 h)

theorem updateGrip_of_recovery (h : sigma ≤ target) (hst : st ≠ .slipping) :
    (updateGrip p gmax elapsed sigma target previous g st).1 = min gmax (g + p.recoveryRate * elapsed) ∧
      (updateGrip p gmax elapsed sigma target previous g st).2 =
        if min gmax (g + p.recoveryRate * elapsed) = gmax then .gripping else st := by
  unfold updateGrip
  rw [if_neg (Int.not_lt.2 h)]
  cases st with
  | slipping => exact absurd rfl hst
  | gripping => exact ⟨rfl, (ite_self _).symm⟩
  | recovering => exact ⟨rfl, rfl⟩

end Update

theorem limitingAfter_of_gripping (now : Time) (before : GripState) (since : Option Time) :
    limitingAfter now before .gripping since = none := by
  cases before <;> rfl

theorem limitingAfter_of_limiting (now : Time) (before : GripState) {after : GripState} (since : Option Time)
    (h : after ≠ .gripping) :
    limitingAfter now before after since = if before = .gripping then some now else since := by
  cases after with
  | gripping => exact absurd rfl h
  | slipping | recovering => cases before <;> rfl

theorem computePass_gripStage (p : Params) (sn : Snapshot) (previous : PerAxle Int) (regs : PerAxle GripRegulator) (n : BitVec 32)
    (a : Axle) : (computePass p sn previous regs n).grip.get a =
      gripStage p sn (elapsedTime sn) (passDemand sn) (referenceSpeed p sn) (previous.get a) (regs.get a) a := by
  cases a <;> rfl

theorem computePass_gripState (p : Params) (sn : Snapshot) (previous : PerAxle Int) (regs : PerAxle GripRegulator) (n : BitVec 32)
    (a : Axle) : (computePass p sn previous regs n).record.gripState.get a =
      ((computePass p sn previous regs n).grip.get a).state := by
  cases a <;> rfl

/-- An axle that is not measured takes the reset form at the limit (R86). -/
theorem gripStage_of_unmeasured (p : Params) {sn : Snapshot} (elapsed demand vref previous : Int) (reg : GripRegulator) {a : Axle}
    (h : measured sn a = false) :
    gripStage p sn elapsed demand vref previous reg a =
      { ceiling := some (drivelineLimit p (passTow sn) a), state := .gripping, limitingSince := none } := by
  simp [gripStage, h]

/-- A measured axle's update, from the prepared ceiling and the signed slip (R87 to R93). -/
theorem gripStage_of_measured (p : Params) {sn : Snapshot} (elapsed demand vref previous : Int) (reg : GripRegulator) {a : Axle}
    {limit target g signed : Int} {u : Int × GripState} (h : measured sn a = true)
    (hlimit : drivelineLimit p (passTow sn) a = limit) (htarget : targetSlip p (passTow sn) (passProfile sn) = target)
    (hg : g = ((sn.table.grip.get a).map fun b => min b.ceiling limit).getD limit)
    (hsigned : signedSlip (slip (axleSpeed p sn a) vref) previous demand = signed)
    (hu : updateGrip p limit elapsed signed target previous g reg.state = u) :
    gripStage p sn elapsed demand vref previous reg a =
      { ceiling := some u.1, state := u.2, limitingSince := limitingAfter sn.time reg.state u.2 reg.limitingSince } := by
  subst hlimit htarget hg hsigned hu
  simp only [gripStage, h, if_true, prepareGrip_eq]

theorem signedSlip_eq (speed vref previous demand : Int) :
    signedSlip (slip speed vref) previous demand =
      if 0 < previous ∨ previous = 0 ∧ 0 ≤ demand then
        max (-1000) (min 1000 (((speed - vref) * 1000).tdiv (max (vref.natAbs : Int) 300)))
      else -max (-1000) (min 1000 (((speed - vref) * 1000).tdiv (max (vref.natAbs : Int) 300))) := by
  rw [signedSlip, slip, clampTo_eq _ (by decide)]
  rfl

theorem passProfile_of_lowGrip {sn : Snapshot}
    (h : (sn.demandState = .fresh ∨ sn.demandState = .late) ∧ sn.demand.profile = .lowGrip) : passProfile sn = .lowGrip := by
  rw [← believed_iff] at h
  simp [passProfile, h]

theorem passProfile_of_normal {sn : Snapshot}
    (h : ¬ ((sn.demandState = .fresh ∨ sn.demandState = .late) ∧ sn.demand.profile = .lowGrip)) : passProfile sn = .normal := by
  rw [← believed_iff] at h
  unfold passProfile
  split
  next hstate =>
    cases hprofile : sn.demand.profile with
    | normal => rfl
    | lowGrip => exact absurd ⟨hstate, hprofile⟩ h
  next => rfl

theorem drivelineLimit_cases (p : Params) (tow : Bool) (a : Axle) :
    (tow = true → drivelineLimit p tow a = p.drivelineTow.get a) ∧
      (tow = false → drivelineLimit p tow a = p.drivelineSolo.get a) := by
  constructor <;> rintro rfl <;> rfl

/-- Settles O43. -/
theorem gripUpdateFollowsTheSignedSlip : Obligations.GripUpdateFollowsTheSignedSlip := by
  unfold Obligations.GripUpdateFollowsTheSignedSlip
  rintro p sn previous regs n a out r M tow lowGrip v e demand vref limit target g ratio signed rfl rfl
    hmeasured htow hlow he hv hvref hdemand hlimit htarget hg hslip hsigned
  have hM (b : Axle) : M b ↔ measured sn b = true := (hmeasured b).trans (believed_iff _).symm
  have hspeed (b : Axle) : axleSpeed p sn b = v.get b := (axleSpeed_eq p sn b).trans (hv b).symm
  have htow' : passTow sn = true ↔ tow := (towState_iff _ _).trans htow.symm
  have helapsed : elapsedTime sn = e := by
    rw [elapsedTime_eq]
    rcases he with ⟨hfirst, rfl⟩ | ⟨hfirst, rfl⟩ <;> simp [hfirst]
  have hserved : passDemand sn = demand := by
    rcases hdemand with ⟨h₁, h₂, h₃, h₄, rfl⟩ | ⟨h, rfl⟩
    · exact passDemand_of_served ⟨h₁, h₂, h₃, h₄⟩
    · exact passDemand_of_unserved h
  have hun (b : Axle) (h : ¬ M b) : measured sn b = false := Bool.eq_false_iff.2 fun hm => h ((hM b).2 hm)
  have hreference : referenceSpeed p sn = vref := by
    rcases hvref with ⟨hstate, hvalid, rfl⟩ | ⟨hnone, hcases⟩
    · exact referenceSpeed_of_record p hstate hvalid
    · obtain ⟨hboth, hfront, hrear, hneither⟩ := degradedReference_cases p sn
      rw [referenceSpeed_of_axles p hnone]
      simp only [hspeed] at hboth hfront hrear
      rcases hcases with ⟨hf, hr, rfl⟩ | ⟨hf, hr, rfl⟩ | ⟨hf, hr, rfl⟩ | ⟨hf, hr, rfl⟩
      · exact hboth ((hM _).1 hf) ((hM _).1 hr)
      · exact hfront ((hM _).1 hf) (hun _ hr)
      · exact hrear (hun _ hf) ((hM _).1 hr)
      · exact hneither (hun _ hf) (hun _ hr)
  have hsolo (h : ¬ tow) : passTow sn = false := Bool.eq_false_iff.2 fun ht => h (htow'.1 ht)
  have hlimit' : drivelineLimit p (passTow sn) a = limit := by
    rcases hlimit with ⟨h, rfl⟩ | ⟨h, rfl⟩
    · exact (drivelineLimit_cases p _ a).1 (htow'.2 h)
    · exact (drivelineLimit_cases p _ a).2 (hsolo h)
  have hprofile (h : lowGrip) : passProfile sn = .lowGrip := passProfile_of_lowGrip (hlow.1 h)
  have hnormal (h : ¬ lowGrip) : passProfile sn = .normal := passProfile_of_normal fun hl => h (hlow.2 hl)
  have htarget' : targetSlip p (passTow sn) (passProfile sn) = target := by
    rcases htarget with ⟨ht, hl, rfl⟩ | ⟨ht, hl, rfl⟩ | ⟨ht, hl, rfl⟩ | ⟨ht, hl, rfl⟩
    · rw [htow'.2 ht, hprofile hl]; rfl
    · rw [htow'.2 ht, hnormal hl]; rfl
    · rw [hsolo ht, hprofile hl]; rfl
    · rw [hsolo ht, hnormal hl]; rfl
  rw [computePass_gripState, computePass_gripCeiling, computePass_gripStage, computePass_demand, helapsed, hserved, hreference, hspeed]
  refine ⟨rfl, rfl, rfl, rfl, htow', ?_⟩
  have hslip' : signedSlip (slip (v.get a) vref) (previous.get a) demand = signed := by
    rw [hsigned, hslip]
    exact signedSlip_eq _ _ _ _
  by_cases hm : measured sn a = true
  · obtain ⟨u, hu⟩ : ∃ u, updateGrip p limit e signed target (previous.get a) g (regs.get a).state = u := ⟨_, rfl⟩
    rw [gripStage_of_measured p e demand vref (previous.get a) (regs.get a) hm hlimit' htarget' hg (by rw [hspeed]; exact hslip') hu]
    have hM' : M a := (hM a).2 hm
    refine ⟨rfl, rfl, fun h => absurd hM' h, fun _ => ⟨fun h => ?_, fun h hst => ?_, fun h hst => ?_⟩,
      fun h => ?_, fun h => limitingAfter_of_limiting _ _ _ h⟩
    · rw [updateGrip_of_excess h] at hu
      subst hu
      exact ⟨rfl, rfl⟩
    · rw [updateGrip_of_settling h hst] at hu
      subst hu
      exact ⟨rfl, rfl⟩
    · obtain ⟨hceiling, hstate⟩ := updateGrip_of_recovery (p := p) (gmax := limit) (elapsed := e)
        (previous := previous.get a) (g := g) h hst
      rw [hu] at hceiling hstate
      simp only [hceiling, hstate, Option.some.injEq, and_self]
    · exact (congrArg (limitingAfter _ _ · _) h).trans (limitingAfter_of_gripping _ _ _)
  · rw [gripStage_of_unmeasured p _ _ _ _ _ (Bool.eq_false_iff.2 hm), hlimit']
    have hnot : ¬ M a := fun h => hm ((hM a).1 h)
    exact ⟨rfl, rfl, fun _ => rfl, fun h => absurd h hnot, fun _ => rfl, fun h => absurd rfl h⟩

end Sys2Proof.Machine

namespace Sys2Proof.Machine

/-! Frames on the wire: what their levels spell, arbitration (O10) and validity (O9). -/

/-! ## Numbers and levels -/

theorem toNat_append_eq_add {n m : Nat} (x : BitVec n) (y : BitVec m) : (x ++ y).toNat = x.toNat * 2 ^ m + y.toNat := by
  rw [BitVec.toNat_append, ← Nat.shiftLeft_add_eq_or_of_lt y.isLt, Nat.shiftLeft_eq]

theorem tagWord_toNat (cls : BitVec 3) (station kind : BitVec 4) :
    (tagWord cls station kind).toNat = cls.toNat * 256 + station.toNat * 16 + kind.toNat := by
  simp only [tagWord, toNat_append_eq_add, BitVec.toNat_ofNat]
  omega

theorem levelsValue_foldl (levels : List BusLevel) (v : Nat) :
    levels.foldl (fun v l => 2 * v + (levelBit l).toNat) v = v * 2 ^ levels.length + levelsValue levels := by
  induction levels generalizing v with
  | nil => simp [levelsValue]
  | cons l ls ih =>
    rw [levelsValue, List.foldl_cons, List.foldl_cons, ih, ih (2 * 0 + _), List.length_cons, Nat.pow_succ]
    ring

@[simp] theorem levelsValue_append (xs ys : List BusLevel) :
    levelsValue (xs ++ ys) = levelsValue xs * 2 ^ ys.length + levelsValue ys := by
  rw [levelsValue, List.foldl_append, levelsValue_foldl]
  rfl

theorem levelsValue_cons (l : BusLevel) (ls : List BusLevel) :
    levelsValue (l :: ls) = (levelBit l).toNat * 2 ^ ls.length + levelsValue ls := by
  rw [levelsValue, List.foldl_cons, levelsValue_foldl]
  simp

theorem levelsValue_lt (levels : List BusLevel) : levelsValue levels < 2 ^ levels.length := by
  induction levels with
  | nil => decide
  | cons l ls ih =>
    rw [levelsValue_cons, List.length_cons, Nat.pow_succ]
    cases l <;> simp only [levelBit, Bool.toNat_true, Bool.toNat_false] <;> omega

theorem levelsValue_injective {xs ys : List BusLevel} (hlength : xs.length = ys.length) (h : levelsValue xs = levelsValue ys) :
    xs = ys := by
  induction xs generalizing ys with
  | nil => exact (List.length_eq_zero_iff.1 hlength.symm).symm
  | cons x xs ih => cases ys with
    | nil => cases hlength
    | cons y ys =>
      have hlength' : xs.length = ys.length := Nat.succ.inj hlength
      have hx := levelsValue_lt xs
      have hy := levelsValue_lt ys
      rw [levelsValue_cons, levelsValue_cons, hlength'] at h
      rw [hlength'] at hx
      cases x <;> cases y <;> simp only [levelBit, Bool.toNat_true, Bool.toNat_false] at h
      · rw [ih hlength' (by omega)]
      · omega
      · omega
      · rw [ih hlength' (by omega)]

@[simp] theorem tagLevels_length (cls : BitVec 3) (station kind : BitVec 4) : (tagLevels cls station kind).length = 11 := by
  simp [tagLevels]

theorem levelsValue_tagLevels (cls : BitVec 3) (station kind : BitVec 4) :
    levelsValue (tagLevels cls station kind) = (tagWord cls station kind).toNat := by
  simp only [tagLevels, levelsValue_append, levelsValue_fieldLevels, fieldLevels_length, tagWord_toNat]
  omega

/-! ## Arbitration (R147, R154) -/

theorem arbitrate_cons_self (l : BusLevel) (xs ys : List BusLevel) :
    arbitrate (l :: xs) (l :: ys) = l :: arbitrate xs ys := by
  cases l <;> simp [arbitrate, drivenBy]

/-- The higher of two numbers gives way at the first bit on which they differ, where it alone drives recessive. -/
theorem arbitrate_of_lower {xs ys : List BusLevel} (hlength : xs.length = ys.length) (h : levelsValue ys < levelsValue xs) :
    arbitrate xs ys = ys ∧ ∃ same xs' ys', xs = same ++ .recessive :: xs' ∧ ys = same ++ .dominant :: ys' := by
  induction xs generalizing ys with
  | nil => cases ys with
    | nil => exact absurd h (Nat.lt_irrefl _)
    | cons y ys => cases hlength
  | cons x xs ih => cases ys with
    | nil => cases hlength
    | cons y ys =>
      have hlength' : xs.length = ys.length := Nat.succ.inj hlength
      have hx := levelsValue_lt xs
      rw [levelsValue_cons, levelsValue_cons, hlength'] at h
      rw [hlength'] at hx
      by_cases hxy : x = y
      · subst hxy
        obtain ⟨hread, same, xs', ys', rfl, rfl⟩ := ih hlength' (by omega)
        exact ⟨by rw [arbitrate_cons_self, hread], x :: same, xs', ys', rfl, rfl⟩
      · have hcases : x = .recessive ∧ y = .dominant := by
          cases x <;> cases y <;> simp_all [levelBit]; omega
        obtain ⟨rfl, rfl⟩ := hcases
        exact ⟨by simp [arbitrate, drivenBy], [], xs, ys, rfl, rfl⟩

/-- A number that is not the higher one is read as it was sent. -/
theorem arbitrate_of_not_higher {xs ys : List BusLevel} (hlength : xs.length = ys.length) (h : levelsValue xs ≤ levelsValue ys) :
    arbitrate xs ys = xs := by
  induction xs generalizing ys with
  | nil => cases ys with
    | nil => rfl
    | cons y ys => cases hlength
  | cons x xs ih => cases ys with
    | nil => cases hlength
    | cons y ys =>
      have hlength' : xs.length = ys.length := Nat.succ.inj hlength
      have hy := levelsValue_lt ys
      rw [levelsValue_cons, levelsValue_cons, hlength'] at h
      by_cases hxy : x = y
      · subst hxy
        rw [arbitrate_cons_self, ih hlength' (by omega)]
      · have hcases : x = .dominant ∧ y = .recessive := by
          cases x <;> cases y <;> simp_all [levelBit]; omega
        obtain ⟨rfl, rfl⟩ := hcases
        simp [arbitrate, drivenBy]

/-- What was read of a frame agrees with it so far. -/
theorem judgeEcho_prefix (read : List BusLevel) (x : BusLevel) (rest : List BusLevel) :
    judgeEcho (read ++ x :: rest) read = .unfinished := by
  have h := judgeFrom_append 0 read (x :: rest) []
  rw [List.append_nil] at h
  rw [judgeEcho, h]
  rfl

/-! ## The bus between frames (R147) -/

theorem BusPhase.reads_free (m : Nat) : BusPhase.free.reads (List.replicate m .recessive) = .free := by
  induction m with
  | zero => rfl
  | succ m ih => exact ih

theorem BusPhase.reads_gap (n m : Nat) (h : n < 8) :
    (BusPhase.gap n).reads (List.replicate m .recessive) = if 8 ≤ n + m then .free else .gap (n + m) := by
  induction m generalizing n with
  | zero => rw [if_neg (by omega)]; rfl
  | succ m ih =>
    rw [List.replicate_succ, BusPhase.reads_cons, BusPhase.after]
    by_cases hfree : 8 ≤ n + 1
    · rw [if_pos (show Config.gapBits ≤ n + 1 from hfree), BusPhase.reads_free, if_pos (by omega)]
    · rw [if_neg (show ¬ Config.gapBits ≤ n + 1 from hfree), ih (n + 1) (by omega), Nat.add_right_comm, Nat.add_assoc]

theorem BusPhase.reads_of_dominant (b : BusPhase) (levels : List BusLevel) (hb : b ≠ .aborted) (h : .dominant ∈ levels) :
    b.reads levels = .busy := by
  induction levels generalizing b with
  | nil => nomatch h
  | cons l ls ih =>
    rw [BusPhase.reads_cons]
    cases l with
    | dominant =>
      have hbusy : b.after .dominant = .busy := by
        cases b with
        | aborted => exact absurd rfl hb
        | gap | busy | free => rfl
      rw [hbusy, BusPhase.reads_busy]
    | recessive =>
      refine ih _ (fun habort => ?_) (by simpa using h)
      cases b with
      | aborted => exact hb rfl
      | gap n => simp only [BusPhase.after] at habort; split at habort <;> cases habort
      | busy | free => cases habort

/-- The levels of a frame begin with its start bit and its tag, and more follows. -/
theorem onWire_levels (id : Identity) (f : OutFrame) : ∃ x rest, (f.onWire id).levels =
    (.dominant :: tagLevels (id.classes.get f.kind) id.station f.kind.code) ++ x :: rest := by
  have h : fieldLevels f.sequence ≠ [] := List.ne_nil_of_length_pos (by simp)
  obtain ⟨x, more, hx⟩ := List.exists_cons_of_ne_nil h
  refine ⟨x, more ++ (fieldLevels (f.onWire id).length ++ ((f.onWire id).payload.flatMap (fun w => fieldLevels w) ++
    (fieldLevels (f.onWire id).check ++ (f.onWire id).endField))), ?_⟩
  rw [WireFrame.levels, show (f.onWire id).sequence = f.sequence from rfl, hx]
  simp only [List.cons_append, List.append_assoc]
  rfl

/-- Settles O10. -/
theorem arbitrationIsDecidedByTheTags : Obligations.ArbitrationIsDecidedByTheTags := by
  unfold Obligations.ArbitrationIsDecidedByTheTags
  refine ⟨?_, BusPhase.reads_gap, BusPhase.reads_free, fun levels => ⟨BusPhase.reads_busy _, BusPhase.reads_aborted _⟩,
    BusPhase.reads_of_dominant⟩
  rintro id f cls station kind sent other read rfl hother rfl
  change other = .dominant :: tagLevels cls station kind at hother
  subst hother
  obtain ⟨x, rest, hsent⟩ := onWire_levels id f
  have hown : ownTag id f.kind = levelsValue (tagLevels (id.classes.get f.kind) id.station f.kind.code) :=
    (levelsValue_tagLevels _ _ _).symm
  have hlength : (tagLevels (id.classes.get f.kind) id.station f.kind.code).length = (tagLevels cls station kind).length := by
    simp
  rw [hsent, List.take_left' (by simp), ← levelsValue_tagLevels, hown, arbitrate_cons_self]
  refine ⟨fun h => ?_, fun h => ?_⟩
  · obtain ⟨hread, same, xs', ys', hxs, hys⟩ := arbitrate_of_lower hlength h
    refine ⟨by rw [hread], ?_⟩
    have hsame : same.length < 11 := by
      have := congrArg List.length hxs
      simp at this
      omega
    rw [hread, hxs, hys, ← List.cons_append, ← List.cons_append, List.append_assoc]
    refine .trans (judgeEcho_differs (.dominant :: same) _ ys' .recessive .dominant (fun h => by cases h)) (if_pos ⟨?_, rfl⟩)
    simp only [isTagBit, List.length_cons, Bool.and_eq_true, decide_eq_true_eq]
    omega
  · rw [arbitrate_of_not_higher hlength h]
    exact ⟨rfl, judgeEcho_prefix _ _ _⟩

/-! ## Reading a frame (R146) -/

theorem readFrame_levels (f : WireFrame) (more : List BusLevel) (hpayload : f.payload.length = f.length.toNat)
    (hend : f.endField.length = 5) : readFrame (f.levels ++ more) = some f := by
  obtain ⟨start, cls, station, kind, sequence, length, payload, check, endField⟩ := f
  simp only at hpayload hend
  have hcut : takeField Config.endBits (endField ++ more) = some (BitVec.ofNat 5 (levelsValue endField), more) := by
    simp [takeField, Config.endBits, List.take_left' hend, List.drop_left' hend, hend]
  simp only [WireFrame.levels, tagLevels, List.cons_append, List.append_assoc, readFrame, takeField_fieldLevels,
    Option.bind_eq_bind, Option.bind_some, ← hpayload, takeWords_flatMap, hcut, Option.pure_def]
  rw [List.take_left' (by exact hend)]
  rfl

theorem takeWords_length {n : Nat} {levels more : List BusLevel} {ws : List Word16} (h : takeWords n levels = some (ws, more)) :
    ws.length = n := by
  induction n generalizing levels ws with
  | zero => cases h; rfl
  | succ n ih =>
    simp only [takeWords, Option.bind_eq_bind, Option.bind_eq_some_iff, Option.pure_def, Option.some.injEq, Prod.mk.injEq,
      Prod.exists] at h
    obtain ⟨w, rest, -, ws', more', hwords, rfl, rfl⟩ := h
    rw [List.length_cons, ih hwords]

theorem readFrame_payload_length {levels : List BusLevel} {f : WireFrame} (h : readFrame levels = some f) :
    f.payload.length = f.length.toNat := by
  cases levels with
  | nil => cases h
  | cons start levels =>
    simp only [readFrame, Option.bind_eq_bind, Option.bind_eq_some_iff, Option.pure_def, Option.some.injEq, Prod.exists] at h
    obtain ⟨cls, l₁, -, station, l₂, -, kind, l₃, -, sequence, l₄, -, length, l₅, -, payload, l₆, hwords, check, l₇, -, _, l₈, -,
      rfl⟩ := h
    exact takeWords_length hwords

theorem fieldLevels_getElem {n : Nat} (b : BitVec n) (i : Nat) (h : i < n) :
    (fieldLevels b)[i]? = some (if b.getLsbD (n - 1 - i) then .recessive else .dominant) := by
  simp [fieldLevels, h, BitVec.getMsbD, levelOf]

theorem levels_length (f : WireFrame) (hpayload : f.payload.length = f.length.toNat) (hend : f.endField.length = 5) :
    f.levels.length = 40 + 16 * f.length.toNat := by
  have hwords : (f.payload.flatMap fun w => fieldLevels w).length = 16 * f.length.toNat := by
    rw [List.length_flatMap, ← hpayload]
    simp [Nat.mul_comm]
  simp only [WireFrame.levels, List.length_cons, List.length_append, tagLevels_length, fieldLevels_length, hwords, hend]
  omega

/-! ## The check (R146) -/

theorem wordSum_foldl_toNat (ws : List Word16) (v : Word16) :
    (ws.foldl (· + ·) v).toNat = (v.toNat + (ws.map fun w => w.toNat).sum) % 65536 := by
  induction ws generalizing v with
  | nil => simp [Nat.mod_eq_of_lt v.isLt]
  | cons w ws ih =>
    rw [List.foldl_cons, ih, BitVec.toNat_add, List.map_cons, List.sum_cons]
    omega

theorem wordSum_toNat (ws : List Word16) : (wordSum ws).toNat = (ws.map fun w => w.toNat).sum % 65536 := by
  rw [wordSum, wordSum_foldl_toNat]
  simp

theorem sequenceWord_toNat (sequence : BitVec 4) (length : BitVec 3) :
    (sequenceWord sequence length).toNat = sequence.toNat * 8 + length.toNat := by
  simp only [sequenceWord, toNat_append_eq_add, BitVec.toNat_ofNat]
  omega

theorem checkOf_toNat (cls : BitVec 3) (station kind sequence : BitVec 4) (length : BitVec 3) (payload : List Word16) :
    (checkOf cls station kind sequence length payload).toNat = 65535 - (cls.toNat * 256 + station.toNat * 16 + kind.toNat +
      (sequence.toNat * 8 + length.toNat) + (payload.map fun w => w.toNat).sum) % 65536 := by
  rw [checkOf, BitVec.toNat_not, wordSum_toNat, List.map_cons, List.map_cons, List.sum_cons, List.sum_cons, tagWord_toNat,
    sequenceWord_toNat, Nat.add_assoc _ (_ + length.toNat)]

theorem validFrame_iff (f : WireFrame) : validFrame f = true ↔
    f.start = .dominant ∧ (1 ≤ f.length.toNat ∧ f.length.toNat ≤ 6) ∧ f.payload.length = f.length.toNat ∧
      f.check = checkOf f.cls f.station f.kind f.sequence f.length f.payload ∧
      f.endField = [.recessive, .recessive, .recessive, .recessive, .recessive] := by
  simp only [validFrame, Bool.and_eq_true, beq_iff_eq, decide_eq_true_eq, and_assoc]
  rfl

/-! ## The part's own frames (R160) -/

theorem OutFrame.words_length (f : OutFrame)
    (h : ∀ code index total refused body, f.content = .reply code index total refused body → body.length ≤ 4) :
    1 ≤ f.content.words.length ∧ f.content.words.length ≤ 6 := by
  cases hcontent : f.content with
  | command | splitReport | alert | status => exact ⟨of_decide_eq_true rfl, of_decide_eq_true rfl⟩
  | reply code index total refused body =>
    have := h _ _ _ _ _ hcontent
    simp only [Content.words, replyWords, List.length_cons]
    omega

theorem onWire_length {id : Identity} {f : OutFrame} (h : f.content.words.length ≤ 6) :
    (f.onWire id).payload.length = (f.onWire id).length.toNat := by
  refine (Nat.mod_eq_of_lt ?_).symm
  exact Nat.lt_of_le_of_lt h (by decide)

theorem onWire_valid {id : Identity} {f : OutFrame} (hpos : 1 ≤ f.content.words.length) (hle : f.content.words.length ≤ 6) :
    validFrame (f.onWire id) = true := by
  have hlength := onWire_length (id := id) hle
  rw [validFrame_iff]
  refine ⟨rfl, ?_, hlength, rfl, rfl⟩
  rw [← hlength]
  exact ⟨hpos, hle⟩

theorem tagLevels_eq_fieldLevels (cls : BitVec 3) (station kind : BitVec 4) :
    tagLevels cls station kind = fieldLevels (BitVec.ofNat 11 (tagWord cls station kind).toNat) := by
  have h : BitVec.ofNat 11 (tagWord cls station kind).toNat = cls ++ station ++ kind := by
    apply BitVec.eq_of_toNat_eq
    simp only [tagWord_toNat, BitVec.toNat_ofNat, toNat_append_eq_add]
    omega
  refine levelsValue_injective (by simp) ?_
  rw [levelsValue_tagLevels, levelsValue_fieldLevels, h, tagWord_toNat]
  simp only [toNat_append_eq_add]
  omega

/-- An own frame's levels are those of its tag, read as one number, between its start bit and its end field. -/
theorem onWire_tag (id : Identity) (f : OutFrame) : ∃ rest, (f.onWire id).levels =
    [.dominant] ++ fieldLevels (BitVec.ofNat 11 (ownTag id f.kind)) ++ rest ++ List.replicate 5 .recessive := by
  refine ⟨fieldLevels (f.onWire id).sequence ++ (fieldLevels (f.onWire id).length ++
    ((f.onWire id).payload.flatMap (fun w => fieldLevels w) ++ fieldLevels (f.onWire id).check)), ?_⟩
  rw [ownTag, ← tagLevels_eq_fieldLevels, WireFrame.levels]
  simp only [List.cons_append, List.append_assoc, List.nil_append]
  rfl

theorem bit_toNat (b : Bool) : (bit b).toNat = b.toNat := BitVec.toNat_ofBool b

theorem streamStatesWord_toNat (x : PerStream StreamState) : (streamStatesWord x).toNat =
    x.demand.code.toNat * 4096 + x.frontStatus.code.toNat * 1024 + x.rearStatus.code.toNat * 256 + x.power.code.toNat * 64 +
      x.reference.code.toNat * 16 + x.stability.code.toNat * 4 + x.tow.code.toNat := by
  simp only [streamStatesWord, toNat_append_eq_add, BitVec.toNat_ofNat]
  omega

theorem commandWords_values {tenths : Int} (code : StateCode) (bound enable : Bool) (hlow : -32768 ≤ tenths) (hhigh : tenths ≤ 32767) :
    ∃ w₁ w₂ : Word16, (Content.command tenths code bound enable).words = [w₁, w₂] ∧ w₁.toInt = tenths ∧
      w₂.toNat = code.code.toNat * 256 + bound.toNat * 2 + enable.toNat := by
  refine ⟨_, _, rfl, BitVec.toInt_ofInt_eq_self (by decide) (by simpa using hlow) (by norm_num; omega), ?_⟩
  simp only [toNat_append_eq_add, BitVec.toNat_ofNat, bit_toNat]
  omega

/-- Six words, the first the highest, spell their 96 bits. -/
theorem sixWords_value (b : BitVec 96) : ∃ w₁ w₂ w₃ w₄ w₅ w₆ : Word16, sixWords b = [w₁, w₂, w₃, w₄, w₅, w₆] ∧
    ((((w₁.toNat * 65536 + w₂.toNat) * 65536 + w₃.toNat) * 65536 + w₄.toNat) * 65536 + w₅.toNat) * 65536 + w₆.toNat = b.toNat := by
  refine ⟨_, _, _, _, _, _, rfl, ?_⟩
  have hb := b.isLt
  simp only [BitVec.extractLsb'_toNat, Nat.shiftRight_eq_div_pow]
  omega

theorem splitReportBits_value (demand shortfall share factor : Int) (final : PerAxle Int) (governor : PerAxle Governor)
    (grip : PerAxle GripState) : ((splitReportBits demand final shortfall share factor governor grip).toNat : Int) =
      demand % 2 ^ 15 * 2 ^ 81 + final.front % 2 ^ 15 * 2 ^ 66 + final.rear % 2 ^ 15 * 2 ^ 51 + shortfall % 2 ^ 16 * 2 ^ 35 +
        share % 2 ^ 10 * 2 ^ 25 + factor % 2 ^ 13 * 2 ^ 12 + governor.front.code.toNat * 2 ^ 8 +
        governor.rear.code.toNat * 2 ^ 4 + grip.front.code.toNat * 2 ^ 2 + grip.rear.code.toNat := by
  have hfield (n : Nat) (v : Int) : ((BitVec.ofInt n v).toNat : Int) = v % 2 ^ n := by
    rw [BitVec.toNat_ofInt, Int.toNat_of_nonneg (Int.emod_nonneg _ (by positivity))]
    push_cast
    rfl
  simp only [splitReportBits, toNat_append_eq_add, Nat.cast_add, Nat.cast_mul, hfield, Nat.cast_pow, Nat.cast_ofNat]
  ring

theorem alertWords_values (rank : BitVec 8) {number raised noted : Nat} (h₁ : number < 256) (h₂ : raised < 256) (h₃ : noted < 256) :
    ∃ w₁ w₂ : Word16, (Content.alert number rank raised noted).words = [w₁, w₂] ∧ w₁.toNat = number * 256 + rank.toNat ∧
      w₂.toNat = raised * 256 + noted := by
  refine ⟨_, _, rfl, ?_, ?_⟩ <;> simp only [toNat_append_eq_add, BitVec.toNat_ofNat] <;> omega

theorem statusWords_values (q : BitVec 32) (f : Reported) {attempts : Nat} (flags : PerStream Bool) (h : attempts < 4) :
    ∃ w₁ w₂ w₃ w₄ : Word16, (Content.status q f attempts flags).words = [w₁, w₂, w₃, w₄] ∧
      w₁.toNat = f.mode.code.toNat * 4096 + f.cause.code.toNat * 1024 + f.link.code.toNat * 256 +
        f.axles.front.code.toNat * 32 + f.axles.rear.code.toNat * 4 + f.supplyLow.toNat * 2 + f.exceptionHeld.toNat ∧
      w₂.toNat = attempts * 256 + f.slotOne.toNat * 2 + f.slotTwo.toNat ∧
      w₃.toNat = f.streams.demand.code.toNat * 4096 + f.streams.frontStatus.code.toNat * 1024 +
        f.streams.rearStatus.code.toNat * 256 + f.streams.power.code.toNat * 64 + f.streams.reference.code.toNat * 16 +
        f.streams.stability.code.toNat * 4 + f.streams.tow.code.toNat ∧
      w₄.toNat = flags.demand.toNat * 64 + flags.frontStatus.toNat * 32 + flags.rearStatus.toNat * 16 + flags.power.toNat * 8 +
        flags.reference.toNat * 4 + flags.stability.toNat * 2 + flags.tow.toNat := by
  refine ⟨_, _, _, _, rfl, ?_, ?_, streamStatesWord_toNat _, ?_⟩ <;>
    simp only [toNat_append_eq_add, BitVec.toNat_ofNat, bit_toNat] <;> omega

theorem replyWords_values (code : ReplyCode) {index total refused : Nat} (body : List Word16) (h₁ : index < 16) (h₂ : total < 16)
    (h₃ : refused < 65536) : ∃ w₁ w₂ : Word16, (Content.reply code index total refused body).words = w₁ :: w₂ :: body ∧
      w₁.toNat = code.code.toNat * 4096 + index * 256 + total * 16 ∧ w₂.toNat = refused := by
  refine ⟨_, _, rfl, ?_, Nat.mod_eq_of_lt h₃⟩
  simp only [toNat_append_eq_add, BitVec.toNat_ofNat]
  omega

/-- Settles O9. -/
theorem sentFramesAreValid : Obligations.SentFramesAreValid := by
  unfold Obligations.SentFramesAreValid
  refine ⟨fun f more hpayload hend => ⟨?_, levels_length f hpayload hend, readFrame_levels f more hpayload hend⟩,
    fun n b i h => fieldLevels_getElem b i h, ?_, fun id f hreply => ?_, by decide, streamStatesWord_toNat,
    fun tenths code bound enable hlow hhigh => commandWords_values code bound enable hlow hhigh,
    fun demand shortfall share factor final governor grip => ?_, fun number raised noted rank h₁ h₂ h₃ => alertWords_values rank h₁ h₂ h₃,
    fun q f attempts flags h => statusWords_values q f flags h,
    fun code index total refused body h₁ h₂ h₃ => replyWords_values code body h₁ h₂ h₃⟩
  · simp only [WireFrame.levels, tagLevels, List.cons_append, List.append_assoc, List.nil_append]
  · rintro levels f tag sequence payload hread rfl rfl rfl
    have hpayload := readFrame_payload_length hread
    rw [validFrame_iff, ← BitVec.toNat_inj, checkOf_toNat]
    simp only [hpayload, true_and]
  · obtain ⟨hpos, hle⟩ := f.words_length hreply
    obtain ⟨rest, htag⟩ := onWire_tag id f
    have hread := readFrame_levels (f.onWire id) [] (onWire_length hle) rfl
    rw [List.append_nil] at hread
    exact ⟨onWire_valid hpos hle, rfl, rfl, rfl, rfl, hread, _, rest, htag, rfl⟩
  · obtain ⟨w₁, w₂, w₃, w₄, w₅, w₆, hwords, hvalue⟩ := sixWords_value (splitReportBits demand final shortfall share factor governor grip)
    refine ⟨w₁, w₂, w₃, w₄, w₅, w₆, hwords, ?_⟩
    rw [← splitReportBits_value, ← hvalue]
    push_cast
    rfl

end Sys2Proof.Machine

namespace Sys2Proof.Machine

/-! SUPPORT. Events that the report unit does not see, and the link's exact moves (O6, O11, O13). -/

/-- Two machines on which the report unit reads the same: the values of STATUS, the change flags, the alerts with their
conditions, and the sources of the lines. -/
def State.ReadsAs (s v : State) : Prop :=
  reported s = reported v ∧ flagRaised s v = false ∧
    v.report.alerts = s.report.alerts ∧ (∀ i, alertCondition s i = alertCondition v i) ∧ v.params = s.params ∧
    (∀ c, sourceHolds s c = sourceHolds v c) ∧ marksQuiet s v = false

theorem settle_of_readsAs {s v : State} (h : s.ReadsAs v) : settle s v = v := by
  obtain ⟨hreported, hraised, halerts, hconditions, hparams, hsources, hquiet⟩ := h
  have hlines := driveLines_same s v hparams hsources
  simp only [settle, hquiet, weighAlerts_same s v hconditions, hlines, reportChanges, hreported, findLeading, halerts, hraised,
    and_self, if_true, Bool.false_eq_true, if_false]

/-- An event that the report unit does not see ends as its own effect leaves the machine. -/
theorem exec_unseen {c : Instr} (hc : c ≠ .powerOnReset) {s v : State} (heffect : afterEffect c s = v) (h : s.ReadsAs v) :
    exec c s = .next v := by
  rw [exec_eq_settle hc, heffect, settle_of_readsAs h]

/-- A machine that differs in no block that the report unit reads. -/
theorem readsAs_of_same {s v : State} (hstreams : v.streams = s.streams) (hrecords : v.records.reference = s.records.reference)
    (haxles : ∀ a, (v.axles.get a).state = (s.axles.get a).state) (hmodes : v.modes = s.modes)
    (hexception : v.exception.isSome = s.exception.isSome) (hflag : v.supply.flag = s.supply.flag) (hparams : v.params = s.params)
    (hlink : v.link.state = s.link.state) (hquiet : v.link.quiet = s.link.quiet ∨ v.link.quiet = false)
    (hreport : v.report.alerts = s.report.alerts ∧ v.report.leading = s.report.leading ∧ v.report.powerRun = s.report.powerRun ∧
      v.report.gripLimiting = s.report.gripLimiting ∧ v.report.slotOne.isSome = s.report.slotOne.isSome ∧
      v.report.slotTwo.isSome = s.report.slotTwo.isSome) : s.ReadsAs v := by
  obtain ⟨halerts, hleading, hpower, hgrip, hone, htwo⟩ := hreport
  have hfront : v.axles.front.state = s.axles.front.state := haxles .front
  have hrear : v.axles.rear.state = s.axles.rear.state := haxles .rear
  refine ⟨?_, flagRaised_same fun i => by rw [hstreams], halerts, fun i => ?_, hparams, fun c => ?_, ?_⟩
  · simp [reported, PerAxle.map, hmodes, hlink, hfront, hrear, hflag, hexception, hone, htwo, hstreams]
  · cases i <;> simp only [alertCondition, hstreams, hfront, hrear, hpower, hrecords, hgrip, hexception, hflag]
  · cases c <;> simp only [sourceHolds, hmodes, hfront, hrear, hflag, hleading, hpower, hone, htwo]
  · rcases hquiet with h | h
    · exact marksQuiet_same h
    · simp [marksQuiet, h]

/-! ## Reception (R26, R146, R147, R157) -/

theorem receiveFrame_of_invalid {levels : List BusLevel} {s : State} (hecho : isOwnEcho levels s = false)
    (h : ∀ f, readFrame levels = some f → validFrame f = false) : receiveFrame levels s = beginGap (dropInvalid s) := by
  have hread : readBus levels s = dropInvalid s := by
    rcases readBus_cases levels s with ⟨f, hf, hvalid, -⟩ | ⟨-, heq⟩
    · rw [h f hf] at hvalid
      cases hvalid
    · exact heq
  rw [receiveFrame, if_neg (Bool.eq_false_iff.1 hecho), hread]

theorem receiveFrame_of_valid {levels : List BusLevel} {s : State} {f : WireFrame} (hecho : isOwnEcho levels s = false)
    (hf : readFrame levels = some f) (hvalid : validFrame f = true) : receiveFrame levels s = beginGap (takeValid f s) := by
  have hread : readBus levels s = takeValid f s := by simp only [readBus, hf, if_pos hvalid]
  rw [receiveFrame, if_neg (Bool.eq_false_iff.1 hecho), hread]

/-- A frame of no entry of the table is not admitted. -/
theorem recognise_of_unmatched {s : State} {f : WireFrame} (h : ∀ e ∈ s.recognition, ¬ (e.station = f.station ∧ e.kind = f.kind)) :
    recognise s f = none := by
  refine List.find?_eq_none.2 fun e he => ?_
  simpa using fun hstation hkind => h e he ⟨hstation, hkind⟩

theorem recognise_of_matched {s : State} {f : WireFrame} {before after : List RecognitionEntry} {e : RecognitionEntry}
    (htable : s.recognition = before ++ e :: after) (hstation : e.station = f.station) (hkind : e.kind = f.kind)
    (hfirst : ∀ x ∈ before, ¬ (x.station = f.station ∧ x.kind = f.kind)) : recognise s f = some e := by
  rw [recognise, htable, List.find?_append, List.find?_eq_none.2 fun x hx => by
    simpa using fun h₁ h₂ => hfirst x hx ⟨h₁, h₂⟩]
  simp [hstation, hkind]

theorem admitFrame_of_unmatched {s : State} {f : WireFrame} (h : recognise s f = none) : admitFrame f s = s := by
  simp only [admitFrame, h]

theorem admitFrame_of_matched {s : State} {f : WireFrame} {e : RecognitionEntry} (h : recognise s f = some e) :
    admitFrame f s =
      if s.intake.length < 8 then { s with intake := s.intake ++ [intakeEntry s.now e f] }
      else { s with report.counters.intakeOverflows := min (s.report.counters.intakeOverflows + 1) 65535 } := by
  simp only [admitFrame, h]
  rfl

/-- A valid frame of another station is admitted as it stands while the link is not MUTED. -/
theorem takeValid_of_other {s : State} {f : WireFrame} (hother : ownStation s ≠ some f.station) (hmuted : s.link.state ≠ .muted) :
    takeValid f s = admitFrame f s := by
  have hconflict : isConflict f s = false := by simp [isConflict, hother]
  simp only [takeValid, moveCleanRun, if_neg hmuted, hconflict, Bool.false_eq_true, if_false]

/-- Settles O6. -/
theorem receivedFrameIsCheckedMatchedAndQueued : Obligations.ReceivedFrameIsCheckedMatchedAndQueued := by
  unfold Obligations.ReceivedFrameIsCheckedMatchedAndQueued
  intro s t levels hecho
  have hecho' : isOwnEcho levels { s with now := t } = false := hecho
  have hexec {v : State} (h : receiveFrame levels { s with now := t } = v) (hread : s.ReadsAs v) :
      exec (.frameReception t levels) s = .next v := exec_unseen (fun h => by cases h) h hread
  refine ⟨fun hinvalid => ⟨fun hbus => ?_, fun hbus => ?_⟩, fun f hf hvalid hmuted hother hnone => ?_,
    fun f before e after hf hvalid hmuted hother htable hstation hkind hfirst => ?_⟩
  · refine hexec ?_ ⟨rfl, flagRaised_same fun _ => rfl, rfl, fun _ => rfl, rfl, fun _ => rfl, marksQuiet_same rfl⟩
    rw [receiveFrame_of_invalid hecho' hinvalid, dropInvalid, if_neg hbus]
    by_cases hmuted : s.link.state = .muted
    · simp [discardInvalid, hmuted, beginGap, countBadCheck]
      rfl
    · simp [discardInvalid, hmuted, beginGap, countBadCheck]
      rfl
  · refine hexec ?_ ⟨rfl, flagRaised_same fun _ => rfl, rfl, fun _ => rfl, rfl, fun _ => rfl, marksQuiet_same rfl⟩
    rw [receiveFrame_of_invalid hecho' hinvalid, dropInvalid, if_pos hbus]
    rfl
  · refine hexec ?_ ⟨rfl, flagRaised_same fun _ => rfl, rfl, fun _ => rfl, rfl, fun _ => rfl, marksQuiet_same rfl⟩
    rw [receiveFrame_of_valid hecho' hf hvalid, takeValid_of_other (s := { s with now := t }) hother hmuted,
      admitFrame_of_unmatched (recognise_of_unmatched (s := { s with now := t }) hnone)]
    rfl
  · have hadmit := admitFrame_of_matched (recognise_of_matched (s := { s with now := t }) htable hstation hkind hfirst)
    by_cases hroom : s.intake.length < 8
    · rw [if_pos hroom]
      refine hexec ?_ ⟨rfl, flagRaised_same fun _ => rfl, rfl, fun _ => rfl, rfl, fun _ => rfl, marksQuiet_same rfl⟩
      rw [receiveFrame_of_valid hecho' hf hvalid, takeValid_of_other (s := { s with now := t }) hother hmuted, hadmit, if_pos hroom]
      rfl
    · rw [if_neg hroom]
      refine hexec ?_ ⟨rfl, flagRaised_same fun _ => rfl, rfl, fun _ => rfl, rfl, fun _ => rfl, marksQuiet_same rfl⟩
      rw [receiveFrame_of_valid hecho' hf hvalid, takeValid_of_other (s := { s with now := t }) hother hmuted, hadmit, if_neg hroom]
      rfl


/-! ## The clean run (R157) -/

theorem admitFrame_report (f : WireFrame) (s : State) :
    (admitFrame f s).report = { s.report with counters := (admitFrame f s).report.counters } := by
  unfold admitFrame
  repeat' split
  all_goals rfl

theorem admitFrame_leftover (f : WireFrame) (s : State) :
    (recognise s f = none → (admitFrame f s).intake = s.intake ∧ (admitFrame f s).report = s.report) ∧
      ∀ e, recognise s f = some e →
        (s.intake.length < 8 → (admitFrame f s).report = s.report ∧
          (admitFrame f s).intake = s.intake ++ [intakeEntry s.now e f]) ∧
        (8 ≤ s.intake.length → (admitFrame f s).intake = s.intake ∧
          (admitFrame f s).report.counters =
            { s.report.counters with intakeOverflows := min (s.report.counters.intakeOverflows + 1) 65535 }) := by
  refine ⟨fun h => by rw [admitFrame_of_unmatched h]; exact ⟨rfl, rfl⟩, fun e h => ⟨fun hroom => ?_, fun hfull => ?_⟩⟩
  · rw [admitFrame_of_matched h, if_pos hroom]
    exact ⟨rfl, rfl⟩
  · rw [admitFrame_of_matched h, if_neg (Nat.not_lt.2 hfull)]
    exact ⟨rfl, rfl⟩

/-- Where the link controller refuses placements the end of an event leaves it alone. -/
theorem settle_link_of_refusing {before s : State} (hquiet : marksQuiet before s = false)
    (hrefuses : refusesPlacement false s = true) : (settle before s).link = s.link := by
  have hlead : (alertsSettled before s).link = s.link := by
    simp only [alertsSettled, leadSettled, driveLines, hquiet, findLeading]
    split
    · rfl
    · split
      · rfl
      · exact (placeFrame_link _ _ _).trans (if_pos hrefuses)
  rw [settle_eq, hquiet, if_neg Bool.false_ne_true, reportChanges_eq]
  split
  · rw [placeStatus, placeFrame_link, if_pos]
    · exact hlead
    · exact (congrArg (fun l : LinkController => l.state == .listen || (l.quiet && !false)) hlead).trans hrefuses
  · exact hlead

theorem takeValid_of_muted {s : State} {f : WireFrame} (hother : ownStation s ≠ some f.station) (hmuted : s.link.state = .muted) :
    takeValid f s = admitFrame f (lengthenRun s) := by
  have hconflict : isConflict f (lengthenRun s) = false := by
    have hidentity : (lengthenRun s).link.identity = s.link.identity := by
      unfold lengthenRun leaveMuted
      repeat' split
      all_goals rfl
    have : ownStation (lengthenRun s) ≠ some f.station := by rwa [ownStation, hidentity]
    simp [isConflict, this]
  simp only [takeValid, moveCleanRun, if_pos hmuted, if_pos hother, hconflict, Bool.false_eq_true, if_false]

theorem lengthenRun_of_short {s : State} (h : s.link.cleanRun + 1 < 128) :
    lengthenRun s = { s with link.cleanRun := s.link.cleanRun + 1 } := if_neg (Nat.not_le.2 h)

theorem lengthenRun_of_full {s : State} (h : 128 ≤ s.link.cleanRun + 1) : lengthenRun s = leaveMuted s := if_pos h

/-- The link controller as it leaves MUTED: ACTIVE with its mail, or LISTEN without. -/
theorem leaveMuted_link {s v : State} (h : v = leaveMuted s) :
    v.link.cleanRun = 0 ∧ v.link.echoCount = 0 ∧ v.link.quiet = false ∧ v.link.transmitting = s.link.transmitting ∧
      (s.link.quiet = false → v.link.state = .active ∧ v.link.mailboxes = s.link.mailboxes) ∧
      (s.link.quiet = true → v.link.state = .listen ∧ v.link.mailboxes = noMail) := by
  subst h
  unfold leaveMuted
  cases hquiet : s.link.quiet with
  | true =>
    rw [if_pos rfl]
    exact ⟨rfl, rfl, rfl, rfl, (fun h => by cases h), fun _ => ⟨rfl, rfl⟩⟩
  | false =>
    rw [if_neg Bool.false_ne_true]
    exact ⟨rfl, rfl, hquiet, rfl, fun _ => ⟨rfl, rfl⟩, (fun h => by cases h)⟩

/-- Settles O7. -/
theorem cleanRunOf128EndsMuted : Obligations.CleanRunOf128EndsMuted := by
  unfold Obligations.CleanRunOf128EndsMuted
  intro s t levels f hecho hf hvalid hmuted hother
  obtain ⟨v, hv⟩ : ∃ v, v = lengthenRun { s with now := t } := ⟨_, rfl⟩
  have heffect : afterEffect (.frameReception t levels) s = beginGap (admitFrame f v) := by
    rw [hv, ← takeValid_of_muted (s := { s with now := t }) hother hmuted]
    exact receiveFrame_of_valid (s := { s with now := t }) hecho hf hvalid
  obtain ⟨u, hu⟩ : ∃ u, u = settle s (beginGap (admitFrame f v)) := ⟨_, rfl⟩
  have hexec : exec (.frameReception t levels) s = .next u := by
    rw [exec_eq_settle (fun h => by cases h), heffect, hu]
  have hrecognise : recognise v f = recognise s f := by
    have : v.recognition = s.recognition := by simp [hv]
    rw [recognise, this, recognise]
  have hintake : v.intake = s.intake := by simp [hv]
  have hreport : v.report = s.report := by simp [hv]
  have hnow : v.now = t := by simp [hv]
  obtain ⟨hunmatched, hmatched⟩ := admitFrame_leftover f v
  rw [hrecognise, hintake, hreport] at hunmatched
  rw [hrecognise, hintake, hreport, hnow] at hmatched
  refine ⟨u, hexec, by simp [hu, hv, beginGap], by simp [hu, hv, beginGap], by simp [hu, hv, beginGap],
    by simp [hu, hv, beginGap], by simp [hu, hv, beginGap], by simp [hu, hv, beginGap], by simp [hu, hv, beginGap],
    fun hnone => ?_, fun before e after htable hstation hkind hfirst => ⟨fun hroom => ?_, fun hfull => ?_⟩,
    fun hshort => ?_, fun hfull => ?_⟩
  · obtain ⟨hsame, hcounters⟩ := hunmatched (recognise_of_unmatched hnone)
    exact ⟨by simpa [hu, beginGap] using hsame, by simp [hu, beginGap, hcounters]⟩
  · obtain ⟨hroomed, -⟩ := hmatched e (recognise_of_matched htable hstation hkind hfirst)
    obtain ⟨hcounters, hsame⟩ := hroomed hroom
    exact ⟨by simp [hu, beginGap, hcounters], .trans (by simp [hu, beginGap]) hsame⟩
  · obtain ⟨-, hfulled⟩ := hmatched e (recognise_of_matched htable hstation hkind hfirst)
    obtain ⟨hsame, hcounters⟩ := hfulled hfull
    exact ⟨by simpa [hu, beginGap] using hsame, by simpa [hu, beginGap] using hcounters⟩
  · rw [lengthenRun_of_short (s := { s with now := t }) hshort] at hv
    have hreads : s.ReadsAs (beginGap (admitFrame f v)) := readsAs_of_same (by simp [beginGap, hv]) (by simp [beginGap, hv])
      (by simp [beginGap, hv]) (by simp [beginGap, hv]) (by simp [beginGap, hv]) (by simp [beginGap, hv])
      (by simp [beginGap, hv]) (by simp [beginGap, hv]) (.inl (by simp [beginGap, hv]))
      (by simp only [beginGap]; rw [admitFrame_report]; simp [hreport])
    rw [hu, settle_of_readsAs hreads]
    simp [beginGap, hv]
  · rw [lengthenRun_of_full (s := { s with now := t }) hfull] at hv
    have hlink : (beginGap (admitFrame f v)).link = { v.link with bus := .gap 0 } := by simp [beginGap]
    obtain ⟨hcount, hecho, hquiet, htransmitting, hactive, hlisten⟩ := leaveMuted_link (s := { s with now := t }) hv
    have hmarks : marksQuiet s (beginGap (admitFrame f v)) = false := by simp [marksQuiet, hquiet]
    obtain ⟨hsame, hmail⟩ := settle_sameLink hmarks
    rw [← hu, hlink] at hsame hmail
    refine ⟨by rw [hsame]; exact hcount, by rw [hsame]; exact hecho, by rw [hsame]; exact hquiet,
      by rw [hsame]; exact htransmitting, fun hloud => ?_, fun hmute => ?_⟩
    · obtain ⟨hstate, hkept⟩ := hactive hloud
      exact ⟨by rw [hsame]; exact hstate, (hmail .reply rfl).trans (by rw [hkept]; rfl),
        (hmail .frontCommand rfl).trans (by rw [hkept]; rfl), (hmail .rearCommand rfl).trans (by rw [hkept]; rfl)⟩
    · obtain ⟨hstate, hempty⟩ := hlisten hmute
      have hkept : u.link = { v.link with bus := .gap 0 } := by
        rw [hu, settle_link_of_refusing hmarks (by simp [refusesPlacement, hstate]), hlink]
      rw [hkept]
      exact ⟨hstate, hempty⟩

end Sys2Proof.Machine

namespace Sys2Proof.Machine

/-! SUPPORT. Capture requests: what fills one, what a trigger leaves, and what a mode without passes does to a waiting one
(R172, R173). -/

theorem State.SlotsKept.trans {s v u : State} (h₁ : s.SlotsKept v) (h₂ : v.SlotsKept u) : s.SlotsKept u := by
  obtain ⟨hone, htwo, hnewest, hmissed⟩ := h₁
  obtain ⟨hone', htwo', hnewest', hmissed'⟩ := h₂
  exact ⟨hone'.trans hone, htwo'.trans htwo, hnewest'.trans hnewest, hmissed'.trans hmissed⟩

theorem State.RequestKept.refl (s : State) : s.RequestKept s := ⟨rfl, rfl, rfl, rfl, rfl⟩

theorem State.RequestKept.trans {s v u : State} (h₁ : s.RequestKept v) (h₂ : v.RequestKept u) : s.RequestKept u :=
  ⟨h₂.1.trans h₁.1, h₁.2.trans h₂.2⟩

/-- The end of an event takes no trigger and fills no request. -/
theorem requestKept_settle (before s : State) : s.RequestKept (settle before s) := by
  simp [State.RequestKept, State.SlotsKept]

/-- What fills a request depends on the slots alone. -/
theorem filled_of_slotsKept {s v u w : State} {mode : CaptureMode} {c : Capture} (hs : s.SlotsKept v) (hu : u.RequestKept w)
    (h : v.report.Filled u.report mode c) : s.report.Filled w.report mode c := by
  obtain ⟨hone, htwo, hnewest, hmissed⟩ := hs
  obtain ⟨hrequest', hone', htwo', hnewest', hmissed'⟩ := hu
  unfold ReportUnit.Filled at h ⊢
  rwa [hone, htwo, hnewest, hmissed, ← hrequest', ← hone', ← htwo', ← hnewest', ← hmissed'] at h

theorem fillRequest_filled {s : State} {r : CaptureRequest} (h : s.report.request = some r) :
    s.report.Filled (fillRequest s).report s.par.captureMode (captureOf r s) := by
  unfold ReportUnit.Filled
  simp only [fillRequest, h, slotToFill]
  cases hone : s.report.slotOne with
  | none => simp [fillSlot]
  | some c₁ => cases htwo : s.report.slotTwo with
    | none => simp [fillSlot]
    | some c₂ => cases hmode : s.par.captureMode with
      | keepFirst => simp [countMissedCapture, countUp, saturatingUp, Config.counterMax]
      | keepLatest => cases hnewest : s.report.newestSlot <;> simp [fillSlot]

theorem fillRequest_of_none {s : State} (h : s.report.request = none) : fillRequest s = s := by
  simp only [fillRequest, h]

theorem fillIfStill_of_still {s : State} (hstill : s.modes.mode.runsPasses = false) (hidle : s.engine.flight = none) :
    fillIfStill s = fillRequest s := by
  simp [fillIfStill, Mode.fillsAtOnce, hstill, hidle]

theorem fillIfStill_of_moving {s : State} (h : s.modes.mode.runsPasses = true ∨ s.engine.flight ≠ none) : fillIfStill s = s := by
  refine if_neg fun hfills => ?_
  simp only [Mode.fillsAtOnce, Bool.and_eq_true, Bool.not_eq_true', Option.isNone_iff_eq_none] at hfills
  rcases h with h | h
  · rw [hfills.1] at h
    cases h
  · exact h hfills.2

/-- The request that a trigger leaves: its own, or the waiting one with a merged count one higher, not above 255. -/
theorem setRequest_request {s : State} {source : TriggerSource} {r : CaptureRequest}
    (h : s.report.request = none ∧ r = ⟨source, s.now, 0⟩ ∨
      ∃ r₀, s.report.request = some r₀ ∧ r = { r₀ with merged := min (r₀.merged + 1) 255 }) :
    (setRequest source s).report.request = some r ∧ s.SlotsKept (setRequest source s) := by
  rcases h with ⟨hnone, rfl⟩ | ⟨r₀, hsome, rfl⟩
  · simp [setRequest, hnone, State.SlotsKept]
  · simp [setRequest, hsome, State.SlotsKept, saturatingUp, Config.smallCounterMax]

/-- A trigger taken at `v`, within an event that found the machine at `s` and leaves it at `u` (R172). -/
theorem triggerTaken_of_takeTrigger {s v u : State} {source : TriggerSource} {enabled : Bool} {streams : PerStream StreamState}
    (henabled : enabled = triggerEnabled v.par source) (hs : s.RequestKept v) (hu : (takeTrigger source v).RequestKept u)
    (hpar : v.par = s.par) (hresult : v.engine.result = s.engine.result) (hnow : u.now = v.now)
    (hmode : u.modes.mode = v.modes.mode)
    (hflight : v.modes.mode.runsPasses = false → v.engine.flight = s.engine.flight)
    (haxles : ∀ a, (u.axles.get a).state = (v.axles.get a).state) (hstreams : v.streamStates = streams) :
    s.TriggerTaken u source enabled streams := by
  refine ⟨fun hoff => ?_, fun r hon hr => ?_⟩
  · rw [takeTrigger, ← henabled, hoff, if_neg Bool.false_ne_true] at hu
    exact hs.trans hu
  · obtain ⟨hrequest, hslots⟩ := id hs
    rw [takeTrigger, ← henabled, hon, if_pos rfl] at hu
    rw [hnow, ← hrequest] at hr
    obtain ⟨hset, hkept⟩ := setRequest_request hr
    refine ⟨fun hmoving => ?_, fun hstill hidle => ?_⟩
    · have hwaits : fillIfStill (setRequest source v) = setRequest source v := by
        refine fillIfStill_of_moving ?_
        simp only [setRequest_frame]
        by_cases hruns : v.modes.mode.runsPasses = true
        · exact .inl hruns
        · rw [hmode] at hmoving
          have hstill := Bool.eq_false_iff.2 hruns
          exact .inr (by rw [hflight hstill]; exact hmoving.resolve_left hruns)
      rw [hwaits] at hu
      exact ⟨hu.1.trans hset, (hslots.trans hkept).trans hu.2⟩
    · rw [hmode] at hstill
      rw [fillIfStill_of_still (by simpa using hstill) (by simp [hflight hstill, hidle])] at hu
      have hfilled := fillRequest_filled hset
      have hsetpar : (setRequest source v).par = s.par := .trans (by simp [State.par]) hpar
      have hcapture : captureOf r (setRequest source v) =
          { source := r.source, time := r.time, merged := r.merged, record := s.engine.result, mode := u.modes.mode,
            axles := ⟨u.axles.front.state, u.axles.rear.state⟩, streams := streams } := by
        have hfront : u.axles.front.state = v.axles.front.state := haxles .front
        have hrear : u.axles.rear.state = v.axles.rear.state := haxles .rear
        simp only [captureOf, setRequest_frame, hresult, ← hmode, hfront, hrear, ← hstreams]
        rfl
      rw [hsetpar, hcapture] at hfilled
      exact filled_of_slotsKept (hslots.trans hkept) hu hfilled

/-- A mode without passes is entered at `v`, within an event that found the machine at `s` and leaves it at `u` (R172). -/
theorem waitingFilled_of_enterMode {new : Mode} {cause : SafeCause} (h : new.runsPasses = false) {s v u : State}
    (hs : s.RequestKept v) (hu : (enterMode new cause v).RequestKept u) (hpar : v.par = s.par)
    (hresult : v.engine.result = s.engine.result) (hflight : v.engine.flight = s.engine.flight)
    (hmode : u.modes.mode = new) (haxles : ∀ a, (u.axles.get a).state = ((enterMode new cause v).axles.get a).state)
    (hstreams : v.streamStates = s.streamStates) : s.WaitingFilled u := by
  obtain ⟨w, hw⟩ : ∃ w, w = stoodStill v.modes.mode new cause v := ⟨_, rfl⟩
  obtain ⟨hengine, -, hreport, -, -, -, -, -, hstood, -, hmodes⟩ := stoodStill_frame (old := v.modes.mode) cause v h
  rw [← hw] at hengine hreport hstood hmodes
  have henter : enterMode new cause v = fillIfStill w := by rw [enterMode_still cause v h, hw]
  have hkept : v.RequestKept w := by simp [State.RequestKept, State.SlotsKept, hreport]
  have hwflight : w.engine.flight = s.engine.flight := by rw [hengine]; exact hflight
  rw [henter] at hu haxles
  simp only [fillIfStill_frame] at haxles
  refine ⟨fun hnot => ?_, fun r hr hidle => ?_⟩
  · refine (hs.trans hkept).trans ?_
    rcases hnot with hnone | hflies
    · have hsame : fillIfStill w = w := by
        unfold fillIfStill
        split
        · exact fillRequest_of_none ((hs.trans hkept).1.trans hnone)
        · rfl
      rwa [hsame] at hu
    · rwa [fillIfStill_of_moving (.inr (hwflight ▸ hflies))] at hu
  · rw [fillIfStill_of_still (by rw [hmodes]; exact h) (hwflight.trans hidle)] at hu
    have hfilled := fillRequest_filled ((hs.trans hkept).1.trans hr)
    have hwpar : w.par = s.par := .trans (by simp [State.par, hw, stoodStill]) hpar
    have hcapture : captureOf r w =
        { source := r.source, time := r.time, merged := r.merged, record := s.engine.result, mode := u.modes.mode,
          axles := ⟨u.axles.front.state, u.axles.rear.state⟩, streams := s.streamStates } := by
      have hfront : u.axles.front.state = w.axles.front.state := haxles .front
      have hrear : u.axles.rear.state = w.axles.rear.state := haxles .rear
      have hstates : w.streams.map (·.state) = s.streamStates := .trans (by simp [hw, stoodStill]; rfl) hstreams
      simp only [captureOf, hengine, hresult, hmodes, hmode, hfront, hrear, hstates]
      rfl
    rw [hwpar, hcapture] at hfilled
    exact filled_of_slotsKept (hs.trans hkept).2 hu hfilled

theorem fillIfStill_counters (s : State) : (fillIfStill s).report.counters =
    { s.report.counters with missedCaptures := (fillIfStill s).report.counters.missedCaptures } := by
  unfold fillIfStill
  split
  · obtain ⟨-, -, -, -, -, -, -, -, -, hcounters⟩ := fillRequest_report_frame s
    exact hcounters
  · rfl

theorem Supervisor.stoodDown_state (v : Supervisor) :
    v.stoodDown.state = if v.state.inService then .standby else v.state := by
  unfold Supervisor.stoodDown
  split <;> rfl

/-- What an entry into a mode without passes leaves: the engine with its timer stopped, the axles stood down. -/
theorem enterMode_still_frame {new : Mode} (cause : SafeCause) (s : State) (h : new.runsPasses = false) :
    (enterMode new cause s).engine = { s.engine with timer := none } ∧ (enterMode new cause s).grip = s.grip ∧
    (enterMode new cause s).table.grip = s.table.grip ∧
    (enterMode new cause s).table.supply = supplyAfterEntry s.modes.mode new s.table.supply ∧
    (∀ a, (enterMode new cause s).axles.get a = (s.axles.get a).stoodDown) ∧
    (∀ a, (enterMode new cause s).table.axle.get a =
      if (s.axles.get a).state.inService then some (symmetric 0) else s.table.axle.get a) ∧
    (enterMode new cause s).report.gripLimiting = s.report.gripLimiting ∧
    (enterMode new cause s).report.counters =
      { s.report.counters with missedCaptures := (enterMode new cause s).report.counters.missedCaptures } := by
  obtain ⟨hengine, hgrip, hreport, -, -, -, hrow, hsupply, hstood, haxle, -⟩ :=
    stoodStill_frame (old := s.modes.mode) (new := new) cause s h
  have hcounters := fillIfStill_counters (stoodStill s.modes.mode new cause s)
  rw [enterMode_still cause s h]
  simp only [fillIfStill_frame, fillIfStill_report_frame]
  rw [hreport] at hcounters ⊢
  exact ⟨hengine, hgrip, hrow, hsupply, hstood, haxle, rfl, hcounters⟩

/-! ## Station conflicts (R150, R144) -/

/-- A conflict as the link controller takes it, before the mode controller hears of it. -/
def conflictCounted (s : State) : State :=
  { s with
    link.cleanRun := if s.link.state = .muted then 0 else s.link.cleanRun
    link.conflicts := (s.now :: s.link.conflicts).take 3
    report.counters.stationConflicts := min (s.report.counters.stationConflicts + 1) 65535 }

theorem moveCleanRun_of_conflict {s : State} {f : WireFrame} (hown : ownStation s = some f.station)
    (hconflict : isConflict f s = true) :
    moveCleanRun f s = { s with link.cleanRun := if s.link.state = .muted then 0 else s.link.cleanRun } := by
  unfold moveCleanRun
  by_cases hmuted : s.link.state = .muted
  · simp only [hmuted, if_true, hown, ne_eq, not_true_eq_false, if_false, hconflict]
  · simp only [hmuted, if_false]

theorem takeValid_of_conflict {s : State} {f : WireFrame} (hparams : s.params.isSome = true)
    (hown : ownStation s = some f.station) (hunmatched : recognise s f = none) :
    takeValid f s = tellConflict (conflictCounted s) := by
  have hconflict : isConflict f s = true := by simp [isConflict, hparams, hown]
  obtain ⟨v, hv⟩ : ∃ v, v = moveCleanRun f s := ⟨_, rfl⟩
  have hmoved := hv.trans (moveCleanRun_of_conflict hown hconflict)
  have hcounted : takeConflict v = tellConflict (conflictCounted s) := by rw [hmoved]; rfl
  have hconflict' : isConflict f v = true := by rw [hmoved]; exact hconflict
  have hrecognition : (tellConflict (conflictCounted s)).recognition = s.recognition := by simp [conflictCounted]
  simp only [takeValid, ← hv, hconflict', if_true, hcounted]
  exact admitFrame_of_unmatched (by rwa [recognise, hrecognition])

theorem tellConflict_of_calm {s : State} (h : s.modes.mode.heedsConflicts = false ∨ conflictsCrowd s.link.conflicts = false) :
    tellConflict s = s := by
  refine if_neg ?_
  rcases h with h | h <;> simp [h]

theorem tellConflict_of_crowd {s : State} (hheeds : s.modes.mode.heedsConflicts = true)
    (hcrowd : conflictsCrowd s.link.conflicts = true) : tellConflict s = enterMode .safe .stationConflict s := by
  refine if_pos ?_
  simp [hheeds, hcrowd]

theorem Mode.heedsConflicts_of_other {m : Mode} (hstart : m ≠ .start) (hsafe : m ≠ .safe) : m.heedsConflicts = true := by
  cases m with
  | start => exact absurd rfl hstart
  | safe => exact absurd rfl hsafe
  | dozing | driving | fading | supplyDown | supplyHalted => rfl

/-- Settles O8. -/
theorem thirdConflictWithinASecondEntersSafe : Obligations.ThirdConflictWithinASecondEntersSafe := by
  unfold Obligations.ThirdConflictWithinASecondEntersSafe
  intro s t levels f hecho hf hvalid hparams hown hnone
  obtain ⟨v, hv⟩ : ∃ v, v = conflictCounted { s with now := t } := ⟨_, rfl⟩
  have heffect : afterEffect (.frameReception t levels) s = beginGap (tellConflict v) := by
    rw [hv, ← takeValid_of_conflict (s := { s with now := t }) hparams hown (recognise_of_unmatched (s := { s with now := t }) hnone)]
    exact receiveFrame_of_valid (s := { s with now := t }) hecho hf hvalid
  have hconflicts : v.link.conflicts = (t :: s.link.conflicts).take 3 := by rw [hv]; rfl
  have hmode : v.modes = s.modes := by rw [hv]; rfl
  refine ⟨fun hcalm => ?_, fun newer older rest hthree hsoon hstart hsafe => ?_⟩
  · have htold : tellConflict v = v := by
      refine tellConflict_of_calm ?_
      rw [hmode, hconflicts]
      rcases hcalm with hfew | hmode | hmode | ⟨newer, older, rest, hthree, hlate⟩
      · refine .inr ?_
        match hlist : s.link.conflicts, hfew with
        | [], _ => rfl
        | [x], _ => rfl
      · exact .inl (by rw [hmode]; rfl)
      · exact .inl (by rw [hmode]; rfl)
      · refine .inr ?_
        rw [hthree]
        exact decide_eq_false (Nat.not_lt.2 hlate)
    rw [htold] at heffect
    refine exec_unseen (fun h => by cases h) (heffect.trans ?_)
      ⟨rfl, flagRaised_same fun _ => rfl, rfl, fun _ => rfl, rfl, fun _ => rfl, marksQuiet_same rfl⟩
    rw [hv]
    rfl
  · have htold : tellConflict v = enterMode .safe .stationConflict v := by
      refine tellConflict_of_crowd (by rw [hmode]; exact Mode.heedsConflicts_of_other hstart hsafe) ?_
      rw [hconflicts, hthree]
      exact decide_eq_true hsoon
    rw [htold] at heffect
    obtain ⟨w, hw⟩ : ∃ w, w = enterMode .safe .stationConflict v := ⟨_, rfl⟩
    obtain ⟨hengine, -, -, hsupply, hstood, -, -, hcounters⟩ := enterMode_still_frame (new := .safe) .stationConflict v rfl
    rw [← hw] at hengine hsupply hstood hcounters
    obtain ⟨u, hu⟩ : ∃ u, u = settle s (beginGap w) := ⟨_, rfl⟩
    have hexec : exec (.frameReception t levels) s = .next u := by
      rw [exec_eq_settle (fun h => by cases h), heffect, hu, hw]
    have hwlink : w.link = if s.modes.mode = .supplyHalted then (leaveListen v).link else v.link := by
      rw [hw, enterMode_link, hmode]
      simp
    have hwaits : s.WaitingFilled u := by
      refine waitingFilled_of_enterMode (new := .safe) (cause := .stationConflict) (v := v) rfl
        (by rw [hv]; exact .refl s) ?_ (by rw [hv]; rfl) (by rw [hv]; rfl) (by rw [hv]; rfl) (by simp [hu, hw, beginGap]) ?_
        (by rw [hv]; rfl)
      · rw [hu, ← hw]
        exact requestKept_settle s (beginGap w)
      · simp [hu, ← hw, beginGap]
    have hmarks : marksQuiet s (beginGap w) = false := by
      simp only [marksQuiet, beginGap, hwlink]
      split
      · simp [leaveListen]
      · simp [hv, conflictCounted]
    obtain ⟨hsame, -⟩ := settle_sameLink hmarks
    rw [← hu] at hsame
    refine ⟨u, hexec, by simp [hu, hw, beginGap], ?_, ?_, ?_, ?_, ?_, fun hhalted => ?_, fun a => ?_, ?_, by simp [hu, hw, hv,
      beginGap, conflictCounted],
      by simp [hu, hw, hv, beginGap, conflictCounted], by simp [hu, hw, hv, beginGap, conflictCounted],
      by simp [hu, hw, hv, beginGap, conflictCounted], by simp [hu, hw, hv, beginGap, conflictCounted],
      by simp [hu, hw, hv, beginGap, conflictCounted], by simp [hu, hw, hv, beginGap, conflictCounted], hwaits⟩
    · have hkept : u.report.counters = w.report.counters := by simp [hu, beginGap]
      rw [hkept, hcounters, hv]
      rfl
    · simp [hu, beginGap, hengine]
    · simp [hu, beginGap, hengine, hv, conflictCounted]
    · simp [hu, beginGap, hengine, hv, conflictCounted]
    · rw [hsame]
      simp only [beginGap, hwlink]
      split
      · simp [leaveListen, hconflicts, hthree]
      · simp [hconflicts, hthree]
    · rw [hsame]
      simp only [beginGap, hwlink, if_pos hhalted, leaveListen]
      refine ⟨?_, trivial⟩
      split
      · exact fun h => by cases h
      · assumption
    · simp only [hu, settle_frame, beginGap, hstood, Supervisor.stoodDown_state]
      rw [hv]
      rfl
    · simp only [hu, settle_frame, beginGap, hsupply, supplyAfterEntry]
      rw [hv]
      rfl

end Sys2Proof.Machine

namespace Sys2Proof.Machine

/-! The drive link's transmissions: offers (O11), outcomes (O12, O13), the quiet phase (O14) and the loss of the link (O15). -/

/-! ## Gates and offers (R147, R152, R163) -/

theorem gateOpen_iff (s : State) (k : OwnKind) : gateOpen s k = true ↔
    if s.modes.mode = .safe ∧ s.modes.cause = .parameter then k = .status
    else (k = .frontCommand → s.records.status.front.accepting = true) ∧
      (k = .rearCommand → s.records.status.rear.accepting = true) := by
  have hfailure : parameterFailure s = true ↔ s.modes.mode = .safe ∧ s.modes.cause = .parameter := by
    simp [parameterFailure]
  by_cases h : s.modes.mode = .safe ∧ s.modes.cause = .parameter
  · simp only [if_pos h, gateOpen, hfailure.2 h, if_true, beq_iff_eq]
  · simp only [if_neg h, gateOpen, mt hfailure.1 h]
    cases k <;> simp

theorem gateOpen_of_same {s v : State} (hmodes : v.modes = s.modes) (hrecords : v.records = s.records) (k : OwnKind) :
    gateOpen v k = gateOpen s k := by
  unfold gateOpen parameterFailure
  rw [hmodes, hrecords]

theorem mem_openMail_iff (s : State) (k : OwnKind) :
    k ∈ openMail s ↔ s.link.mailboxes.get k ≠ none ∧ gateOpen s k = true := by
  have hall : k ∈ ownKinds := by cases k <;> decide
  simp [openMail, hall, Option.isSome_iff_ne_none]

theorem openMail_eq_nil_iff (s : State) :
    openMail s = [] ↔ ∀ k, s.link.mailboxes.get k ≠ none → gateOpen s k = false := by
  simp only [List.eq_nil_iff_forall_not_mem, mem_openMail_iff, not_and, Bool.not_eq_true]

theorem lowestTag_foldl {id : Identity} {k : OwnKind} {ks : List OwnKind} {best : Option OwnKind} (hmem : k ∈ ks ∨ best = some k)
    (hks : ∀ j ∈ ks, j ≠ k → ownTag id k < ownTag id j) (hbest : ∀ b, best = some b → b ≠ k → ownTag id k < ownTag id b) :
    ks.foldl (fun best k => match best with
      | none => some k
      | some b => if ownTag id k < ownTag id b then some k else some b) best = some k := by
  induction ks generalizing best with
  | nil => simpa using hmem
  | cons j ks ih =>
    rw [List.foldl_cons]
    have hrest : ∀ i ∈ ks, i ≠ k → ownTag id k < ownTag id i := fun i hi => hks i (.tail _ hi)
    have hj := hks j (.head _)
    cases best with
    | none =>
      refine ih ?_ hrest (fun b hb => by cases hb; exact hj)
      rcases hmem with hmem | hmem
      · rcases List.mem_cons.1 hmem with rfl | hmem
        · exact .inr rfl
        · exact .inl hmem
      · cases hmem
    | some b =>
      have hb := hbest b rfl
      refine ih ?_ hrest ?_
      · rcases hmem with hmem | hmem
        · rcases List.mem_cons.1 hmem with rfl | hmem
          · refine .inr ?_
            by_cases hbk : b = k
            · simp [hbk]
            · simp [hb hbk]
          · exact .inl hmem
        · cases hmem
          refine .inr ?_
          by_cases hjk : j = k
          · simp [hjk]
          · have := hj hjk
            simp only [ite_eq_right_iff, Option.some.injEq]
            omega
      · intro i hi hik
        simp only at hi
        split at hi
        · cases hi
          exact hj hik
        · cases hi
          exact hb hik

/-- The frame of the lowest tag is the one offered. -/
theorem lowestTag_of_lowest {id : Identity} {k : OwnKind} {ks : List OwnKind} (hmem : k ∈ ks)
    (h : ∀ j ∈ ks, j ≠ k → ownTag id k < ownTag id j) : lowestTag id ks = some k :=
  lowestTag_foldl (.inl hmem) h fun _ hb => by cases hb

theorem startLowest_of_empty {s : State} (h : openMail s = []) : startLowest s = s := by
  unfold startLowest
  split
  · rfl
  · rw [h]
    rfl

theorem startLowest_of_lowest {s : State} {id : Identity} {k : OwnKind} {f : OutFrame} (hid : s.link.identity = some id)
    (hf : s.link.mailboxes.get k = some f) (hopen : gateOpen s k = true)
    (h : ∀ j, j ≠ k → s.link.mailboxes.get j ≠ none → gateOpen s j = true → ownTag id k < ownTag id j) :
    startLowest s =
      { s with link.mailboxes := s.link.mailboxes.set k none, link.transmitting := some f, link.bus := .busy } := by
  have hlowest : lowestTag id (openMail s) = some k := by
    refine lowestTag_of_lowest ((mem_openMail_iff s k).2 ⟨by simp [hf], hopen⟩) fun j hj hjk => ?_
    obtain ⟨hmail, hgate⟩ := (mem_openMail_iff s j).1 hj
    exact h j hjk hmail hgate
  simp only [startLowest, hid, hlowest, setMailbox, hf]

theorem endQuietPhase_of_transmitting {s : State} {f : OutFrame} (h : s.link.transmitting = some f) : endQuietPhase s = s := by
  simp [endQuietPhase, quietPhaseOver, h]

/-- Settles O11. -/
theorem offerTakesTheLowestOpenTag : Obligations.OfferTakesTheLowestOpenTag := by
  unfold Obligations.OfferTakesTheLowestOpenTag
  intro s t levels bus hbus
  obtain ⟨v, hv⟩ : ∃ v, v = watchBus levels { s with now := t } := ⟨_, rfl⟩
  have hwatched : v = { s with now := t, link.bus := bus } := by rw [hv, ← hbus]; rfl
  have hexec {u : State} (h : offerNow v = u) (hread : s.ReadsAs u) : exec (.offer ⟨t, levels⟩) s = .next u :=
    exec_unseen (fun h => by cases h) (by rw [← h, hv]; rfl) hread
  have hnothing (h : offerNow v = v) : exec (.offer ⟨t, levels⟩) s = .next { s with now := t, link.bus := bus } :=
    hexec (h.trans hwatched) ⟨rfl, flagRaised_same fun _ => rfl, rfl, fun _ => rfl, rfl, fun _ => rfl, marksQuiet_same rfl⟩
  refine ⟨gateOpen_iff s, fun hclosed => hnothing (if_neg ?_), fun hquiet hshut => hnothing ?_,
    fun id k f hactive hidle hfree hid hf hopen hlowest => ?_⟩
  · rw [hwatched]
    rintro ⟨hactive, hidle, hfree⟩
    rcases hclosed with h | h | h
    · exact h hactive
    · exact h hidle
    · exact h hfree
  · have hempty : openMail v = [] := by
      rw [openMail_eq_nil_iff, hwatched]
      exact hshut
    unfold offerNow
    split
    · rw [startLowest_of_empty hempty, endQuietPhase_unquiet v (by rw [hwatched]; exact hquiet)]
    · rfl
  · have hstarted := startLowest_of_lowest (s := v) (id := id) (k := k) (f := f) (by rw [hwatched]; exact hid)
      (by rw [hwatched]; exact hf) (by rw [hwatched]; exact hopen) (by rw [hwatched]; exact hlowest)
    refine hexec ?_ ⟨rfl, flagRaised_same fun _ => rfl, rfl, fun _ => rfl, rfl, fun _ => rfl, marksQuiet_same rfl⟩
    rw [offerNow, if_pos (by rw [hwatched]; exact ⟨hactive, hidle, hfree⟩), hstarted,
      endQuietPhase_of_transmitting (f := f) rfl, hwatched]

/-! ## Outcomes (R153 to R155) -/

theorem whenEchoed_of_result {result : EchoResult} {echo : List BusLevel} {outcome : OutFrame → State → State} {s : State}
    {f : OutFrame} (hf : s.link.transmitting = some f) (h : echoOf s echo = some result) :
    whenEchoed result echo outcome s = outcome f s := by
  simp only [whenEchoed, hf, if_pos h]

theorem whenEchoed_of_other {result : EchoResult} {echo : List BusLevel} {outcome : OutFrame → State → State} {s : State}
    (h : echoOf s echo ≠ some result) : whenEchoed result echo outcome s = s := by
  rcases whenEchoed_cases result echo outcome s with ⟨f, -, hresult, -⟩ | ⟨-, heq⟩
  · exact absurd hresult h
  · exact heq

theorem echoOf_of_transmitting {s : State} {f : OutFrame} {id : Identity} (hf : s.link.transmitting = some f)
    (hid : s.link.identity = some id) (echo : List BusLevel) : echoOf s echo = some (judgeEcho (f.onWire id).levels echo) := by
  simp only [echoOf, hf, hid]

/-- An outcome that the bits read back do not show moves the clock alone. -/
theorem exec_of_unshown {c : Instr} (hc : c ≠ .powerOnReset) {s : State} {result : EchoResult} {echo : List BusLevel}
    {outcome : OutFrame → State → State} (heffect : afterEffect c s = whenEchoed result echo outcome { s with now := commandTime c })
    (h : echoOf s echo ≠ some result) : exec c s = .next { s with now := commandTime c } := by
  refine exec_unseen hc ?_ ⟨rfl, flagRaised_same fun _ => rfl, rfl, fun _ => rfl, rfl, fun _ => rfl, marksQuiet_same rfl⟩
  rw [heffect, whenEchoed_of_other (s := { s with now := commandTime c }) h]

theorem returnFrame_of_empty {s : State} {f : OutFrame} (h : s.link.mailboxes.get f.kind = none) :
    returnFrame f s = { s with link.mailboxes := s.link.mailboxes.set f.kind (some f) } := by
  simp [returnFrame, h, setMailbox]

theorem returnFrame_of_newer {s : State} {f newer : OutFrame} (h : s.link.mailboxes.get f.kind = some newer) :
    returnFrame f s = { s with report.counters.superseded :=
      if f.kind = .frontCommand ∨ f.kind = .rearCommand then min (s.report.counters.superseded + 1) 65535
      else s.report.counters.superseded } := by
  simp only [returnFrame, h, Option.isSome_some, if_true, discardOlder]
  cases f.kind <;> rfl

theorem abortFrame_of_few {s : State} {f : OutFrame} (hf : s.link.transmitting = some f) (h : s.link.echoCount < 15) :
    abortFrame f s = returnFrame f { s with
      link.transmitting := none, link.bus := .aborted, link.echoCount := s.link.echoCount + 1,
      report.counters.echoFaults := min (s.report.counters.echoFaults + 1) 65535 } := by
  have hbus : s.link.busReleased = .aborted := by simp [LinkController.busReleased, hf]
  have hcount : saturatingUp s.link.echoCount Config.echoLimit = s.link.echoCount + 1 :=
    saturatingUp_of_lt (by rw [Config.echoLimit]; omega)
  simp only [abortFrame, hbus, hcount]
  rfl

/-- Below the limit a mismatch aborts the frame and no more. -/
theorem mismatchFrame_of_few {s : State} {f : OutFrame} (h : s.link.echoCount < 15) :
    mismatchFrame f s = endQuietPhase (abortFrame f s) := by
  have hcount : (abortFrame f s).link.echoCount = s.link.echoCount + 1 := by
    simp only [abortFrame, returnFrame_link, countEchoFault, saturatingUp, Config.echoLimit]
    split <;> exact Nat.min_eq_left (by omega)
  have hlimit : ¬ Config.echoLimit ≤ (abortFrame f s).link.echoCount := by
    rw [hcount, Config.echoLimit]
    omega
  simp only [mismatchFrame, if_neg hlimit]

/-- Settles O13. -/
theorem lostAndMismatchedFramesReturn : Obligations.LostAndMismatchedFramesReturn := by
  unfold Obligations.LostAndMismatchedFramesReturn
  refine ⟨fun s t f id before after echo x y hquiet hf hid hsent hecho hxy => ?_, fun s echo => ⟨fun h => ?_, fun h => ?_, fun h => ?_,
    fun h => by simp only [echoOf, h]⟩⟩
  · have hjudged : echoOf { s with now := t } echo =
        some (if 1 ≤ before.length ∧ before.length ≤ 11 ∧ x = .recessive then .lost else .mismatch) := by
      rw [echoOf_of_transmitting (s := { s with now := t }) hf hid, hsent, hecho, judgeEcho_differs _ _ _ _ _ hxy]
      simp only [isTagBit, Bool.and_eq_true, decide_eq_true_eq, and_assoc]
    refine ⟨fun htag => ?_, fun htag hfew => ?_⟩
    · rw [if_pos htag] at hjudged
      have heffect : afterEffect (.lostArbitration ⟨t, echo⟩) s = returnFrame f { s with now := t, link.transmitting := none } := by
        refine (whenEchoed_of_result (s := { s with now := t }) hf hjudged).trans (endQuietPhase_unquiet _ ?_)
        rw [returnFrame_link]
        split <;> exact hquiet
      refine ⟨fun hempty => ?_, fun newer hnewer => ?_⟩
      · refine exec_unseen (fun h => by cases h) (heffect.trans (returnFrame_of_empty hempty))
          ⟨rfl, flagRaised_same fun _ => rfl, rfl, fun _ => rfl, rfl, fun _ => rfl, marksQuiet_same rfl⟩
      · refine exec_unseen (fun h => by cases h) (heffect.trans (returnFrame_of_newer hnewer))
          ⟨rfl, flagRaised_same fun _ => rfl, rfl, fun _ => rfl, rfl, fun _ => rfl, marksQuiet_same rfl⟩
    · rw [if_neg htag] at hjudged
      have haborted := abortFrame_of_few (s := { s with now := t }) hf hfew
      have hunquiet : endQuietPhase (abortFrame f { s with now := t }) = abortFrame f { s with now := t } := by
        refine endQuietPhase_unquiet _ ?_
        rw [haborted, returnFrame_link]
        split <;> exact hquiet
      have heffect := (whenEchoed_of_result (s := { s with now := t }) (outcome := mismatchFrame) hf hjudged).trans
        ((mismatchFrame_of_few (s := { s with now := t }) (f := f) hfew).trans (hunquiet.trans haborted))
      refine ⟨fun hempty => ?_, fun newer hnewer => ?_⟩
      · exact exec_unseen (c := .echoMismatch ⟨t, echo⟩) (fun h => by cases h) (heffect.trans (returnFrame_of_empty hempty))
          ⟨rfl, flagRaised_same fun _ => rfl, rfl, fun _ => rfl, rfl, fun _ => rfl, marksQuiet_same rfl⟩
      · exact exec_unseen (c := .echoMismatch ⟨t, echo⟩) (fun h => by cases h) (heffect.trans (returnFrame_of_newer hnewer))
          ⟨rfl, flagRaised_same fun _ => rfl, rfl, fun _ => rfl, rfl, fun _ => rfl, marksQuiet_same rfl⟩
  · exact exec_of_unshown (c := .cleanTransmission echo) (fun h => by cases h) rfl h
  · exact exec_of_unshown (c := .lostArbitration echo) (fun h => by cases h) rfl h
  · exact exec_of_unshown (c := .echoMismatch echo) (fun h => by cases h) rfl h

/-! ## The quiet phase (R158) -/

theorem quietPhaseOver_of_empty {s : State} (hquiet : s.link.quiet = true) (hactive : s.link.state = .active)
    (hidle : s.link.transmitting = none) (hempty : openMail s = []) : quietPhaseOver s = true := by
  simp [quietPhaseOver, hquiet, hactive, hidle, hempty]

theorem reportsChange_of_link {before s : State} (h : before.link.state ≠ s.link.state) : reportsChange before s = true := by
  have hreported : reported before ≠ reported s := fun heq => h (congrArg Reported.link heq)
  simp [reportsChange, hreported]

/-- A quiet phase that ends in LISTEN, its STATUS refused (R151, R158). -/
theorem exec_of_quietPhaseOver {c : Instr} (hc : c ≠ .powerOnReset) {s w : State} (heffect : afterEffect c s = endQuietPhase w)
    (hactive : s.link.state = .active) (hover : quietPhaseOver w = true) :
    ∃ u, exec c s = .next u ∧ u = settle s (endQuietPhase w) ∧
      u.link = { w.link with mailboxes := noMail, quiet := false, state := .listen } ∧
      u.unreported = { w with link := u.link }.unreported ∧ u.report.placement = w.report.placement + 1 := by
  have hended : endQuietPhase w = { w with link.mailboxes := noMail, link.quiet := false, link.state := .listen } := if_pos hover
  obtain ⟨v, hv⟩ : ∃ v, v = endQuietPhase w := ⟨_, rfl⟩
  have hmarks : marksQuiet s v = false := by rw [hv, hended]; rfl
  have hlink : (settle s v).link = { w.link with mailboxes := noMail, quiet := false, state := .listen } := by
    rw [settle_link_of_refusing hmarks (by rw [hv, hended]; rfl), hv, hended]
  refine ⟨settle s v, by rw [exec_eq_settle hc, heffect, hv], by rw [hv], hlink, ?_, ?_⟩
  · rw [settle_unreported s v hmarks, hlink, hv, hended]
  · rw [settle_placement, if_pos, hv, hended]
    refine reportsChange_of_link ?_
    rw [hv, hended, hactive]
    exact fun h => by cases h

/-- What a completion leaves where the link controller refuses placements. -/
theorem reportCompletion_of_refusing {f : OutFrame} {s : State} (h : refusesPlacement false s = true) :
    (reportCompletion f s).link = s.link ∧ (reportCompletion f s).report.counters = s.report.counters ∧
      (reportCompletion f s).report.placement = s.report.placement := by
  unfold reportCompletion
  split
  · exact ⟨rfl, rfl, rfl⟩
  · exact ⟨rfl, rfl, rfl⟩
  · unfold statusDelivered
    simp only
    split
    · exact ⟨rfl, rfl, rfl⟩
    · split <;> exact ⟨rfl, rfl, rfl⟩
  · unfold replyDelivered sendReply
    split
    · exact ⟨rfl, rfl, rfl⟩
    · split
      · exact ⟨rfl, rfl, rfl⟩
      · rw [if_pos h]
        exact ⟨rfl, rfl, rfl⟩
  · exact ⟨rfl, rfl, rfl⟩

/-- A frame that returns to its empty mailbox ends the quiet phase where its gate is closed, and keeps it going where it is open. -/
theorem endQuietPhase_of_returned {s : State} {f : OutFrame} (hquiet : s.link.quiet = true) (hactive : s.link.state = .active)
    (hidle : s.link.transmitting = none) (hempty : s.link.mailboxes.get f.kind = none)
    (hshut : ∀ k, s.link.mailboxes.get k ≠ none → gateOpen s k = false) :
    (gateOpen s f.kind = false → quietPhaseOver (returnFrame f s) = true) ∧
      (gateOpen s f.kind = true → endQuietPhase (returnFrame f s) = returnFrame f s) := by
  have hgate (k : OwnKind) : gateOpen (returnFrame f s) k = gateOpen s k := gateOpen_of_same (by simp) (by simp) k
  have hmail : (returnFrame f s).link = { s.link with mailboxes := s.link.mailboxes.set f.kind (some f) } := by
    rw [returnFrame_of_empty hempty]
  refine ⟨fun hclosed => ?_, fun hopen => ?_⟩
  · refine quietPhaseOver_of_empty (by rw [hmail]; exact hquiet) (by rw [hmail]; exact hactive) (by rw [hmail]; exact hidle) ?_
    rw [openMail_eq_nil_iff]
    intro k hk
    rw [hgate]
    by_cases hkind : k = f.kind
    · rw [hkind]
      exact hclosed
    · refine hshut k ?_
      rwa [hmail, PerKind.get_set, if_neg hkind] at hk
  · have hmem : f.kind ∈ openMail (returnFrame f s) := by
      rw [mem_openMail_iff, hmail]
      exact ⟨by simp, (hgate f.kind).trans hopen⟩
    refine if_neg ?_
    have hne : (openMail (returnFrame f s)).isEmpty = false := by
      cases hlist : openMail (returnFrame f s) with
      | nil => rw [hlist] at hmem; cases hmem
      | cons k ks => rfl
    simp [quietPhaseOver, hne]

/-- Settles O14. -/
theorem quietPhaseEndsInListen : Obligations.QuietPhaseEndsInListen := by
  unfold Obligations.QuietPhaseEndsInListen
  intro s t id hquiet hactive hid
  refine ⟨fun levels hidle hfree hshut => ?_, fun f hf hshut => ⟨?_, fun echo hlost hempty => ?_, fun echo hmismatch hempty hfew => ?_⟩⟩
  · obtain ⟨w, hw⟩ : ∃ w, w = watchBus levels { s with now := t } := ⟨_, rfl⟩
    have hwatched : w = { s with now := t, link.bus := .free } := by rw [hw, ← hfree]; rfl
    have hempty : openMail w = [] := by
      rw [openMail_eq_nil_iff, hwatched]
      exact hshut
    have heffect : afterEffect (.offer ⟨t, levels⟩) s = endQuietPhase w := by
      have hoffer : offerNow w = endQuietPhase (startLowest w) := if_pos (by rw [hwatched]; exact ⟨hactive, hidle, rfl⟩)
      rw [startLowest_of_empty hempty] at hoffer
      rw [← hoffer, hw]
      rfl
    obtain ⟨u, hexec, -, hlink, hsame, hplacement⟩ := exec_of_quietPhaseOver (fun h => by cases h) heffect hactive
      (quietPhaseOver_of_empty (by rw [hwatched]; exact hquiet) (by rw [hwatched]; exact hactive) (by rw [hwatched]; exact hidle) hempty)
    rw [hwatched] at hlink hsame hplacement
    exact ⟨u, hexec, hlink, hsame, hplacement⟩
  · obtain ⟨v, hv⟩ : ∃ v : State, v = { s with
      now := t, link.transmitting := none, link.bus := .gap 0, link.echoCount := s.link.echoCount - 1 } := ⟨_, rfl⟩
    have hrefuses : refusesPlacement false v = true := by simp [refusesPlacement, hv, hquiet]
    obtain ⟨hkept, hcounters, hplaced⟩ := reportCompletion_of_refusing (f := f) hrefuses
    obtain ⟨w, hw⟩ : ∃ w, w = reportCompletion f v := ⟨_, rfl⟩
    have heffect : afterEffect (.cleanTransmission ⟨t, (f.onWire id).levels⟩) s = endQuietPhase w := by
      have hecho : echoOf { s with now := t } (f.onWire id).levels = some .clean := by
        rw [echoOf_of_transmitting (s := { s with now := t }) hf hid, judgeEcho_self]
      rw [hw, hv]
      exact whenEchoed_of_result (s := { s with now := t }) hf hecho
    have hempty : openMail w = [] := by
      rw [openMail_eq_nil_iff]
      intro k hk
      rw [gateOpen_of_same (s := s) (by simp [hw, hv]) (by simp [hw, hv])]
      refine hshut k ?_
      rwa [hw, hkept, hv] at hk
    obtain ⟨u, hexec, hsettled, hlink, -, hplacement⟩ := exec_of_quietPhaseOver (fun h => by cases h) heffect hactive
      (quietPhaseOver_of_empty (by rw [hw, hkept, hv]; exact hquiet) (by rw [hw, hkept, hv]; exact hactive)
        (by rw [hw, hkept, hv]) hempty)
    rw [hw, hkept, hv] at hlink
    rw [hw, hplaced, hv] at hplacement
    refine ⟨u, hexec, hlink, by simp [hsettled, hw, hv], by simp [hsettled, hw, hv], by simp [hsettled, hw, hv],
      by simp [hsettled, hw, hv], by simp [hsettled, hw, hv], ?_, hplacement⟩
    have hreport : u.report.counters = w.report.counters := by
      simp only [hsettled, settle_report_frame]
      unfold endQuietPhase
      split <;> rfl
    rw [hreport, hw, hcounters, hv]
  · obtain ⟨v, hv⟩ : ∃ v : State, v = { s with now := t, link.transmitting := none } := ⟨_, rfl⟩
    have heffect : afterEffect (.lostArbitration ⟨t, echo⟩) s = endQuietPhase (returnFrame f v) := by
      rw [hv]
      exact whenEchoed_of_result (s := { s with now := t }) (outcome := loseFrame) hf hlost
    obtain ⟨hends, hgoes⟩ := endQuietPhase_of_returned (s := v) (f := f) (by rw [hv]; exact hquiet) (by rw [hv]; exact hactive)
      (by rw [hv]) (by rw [hv]; exact hempty) (by rw [hv]; exact hshut)
    have hreturned : returnFrame f v = { v with link.mailboxes := v.link.mailboxes.set f.kind (some f) } :=
      returnFrame_of_empty (by rw [hv]; exact hempty)
    rw [hreturned] at heffect hends hgoes
    refine ⟨fun hclosed => ?_, fun hopen => ?_⟩
    · obtain ⟨u, hexec, -, hlink, hsame, hplacement⟩ := exec_of_quietPhaseOver (fun h => by cases h) heffect hactive
        (hends (by rw [hv]; exact hclosed))
      rw [hv] at hlink hsame hplacement
      exact ⟨u, hexec, hlink, hsame, hplacement⟩
    · rw [hgoes (by rw [hv]; exact hopen), hv] at heffect
      exact exec_unseen (fun h => by cases h) heffect
        ⟨rfl, flagRaised_same fun _ => rfl, rfl, fun _ => rfl, rfl, fun _ => rfl, marksQuiet_same rfl⟩
  · obtain ⟨v, hv⟩ : ∃ v : State, v = { s with
      now := t, link.transmitting := none, link.bus := .aborted, link.echoCount := s.link.echoCount + 1,
      report.counters.echoFaults := min (s.report.counters.echoFaults + 1) 65535 } := ⟨_, rfl⟩
    have heffect : afterEffect (.echoMismatch ⟨t, echo⟩) s = endQuietPhase (returnFrame f v) := by
      have haborted := abortFrame_of_few (s := { s with now := t }) hf hfew
      rw [hv]
      refine (whenEchoed_of_result (s := { s with now := t }) (outcome := mismatchFrame) hf hmismatch).trans
        ((mismatchFrame_of_few (s := { s with now := t }) (f := f) hfew).trans ?_)
      rw [haborted]
    obtain ⟨hends, hgoes⟩ := endQuietPhase_of_returned (s := v) (f := f) (by rw [hv]; exact hquiet) (by rw [hv]; exact hactive)
      (by rw [hv]) (by rw [hv]; exact hempty) (by rw [hv]; exact hshut)
    have hreturned : returnFrame f v = { v with link.mailboxes := v.link.mailboxes.set f.kind (some f) } :=
      returnFrame_of_empty (by rw [hv]; exact hempty)
    rw [hreturned] at heffect hends hgoes
    refine ⟨fun hclosed => ?_, fun hopen => ?_⟩
    · have hover := hends (by rw [hv]; exact hclosed)
      obtain ⟨u, hexec, hsettled, hlink, -, hplacement⟩ := exec_of_quietPhaseOver (fun h => by cases h) heffect hactive hover
      have hended : endQuietPhase { v with link.mailboxes := v.link.mailboxes.set f.kind (some f) } =
          { v with link.mailboxes := noMail, link.quiet := false, link.state := .listen } := if_pos hover
      rw [hv] at hlink hplacement
      refine ⟨u, hexec, hlink, ?_, hplacement⟩
      rw [hsettled, hended, hv]
      simp
    · rw [hgoes (by rw [hv]; exact hopen), hv] at heffect
      exact exec_unseen (fun h => by cases h) heffect
        ⟨rfl, flagRaised_same fun _ => rfl, rfl, fun _ => rfl, rfl, fun _ => rfl, marksQuiet_same rfl⟩

/-! ## Completions (R153, R168, R174) -/

theorem reportCompletion_of_command {f : OutFrame} {a : Axle} {tenths : Int} {code : StateCode} {bound enable : Bool}
    (hkind : f.kind = commandKind a) (hcontent : f.content = .command tenths code bound enable) (s : State) :
    reportCompletion f s = commandDelivered a { sequence := f.sequence, tenths := tenths } s := by
  cases a <;> simp only [reportCompletion, hkind, hcontent, commandKind]

theorem reportCompletion_of_status {f : OutFrame} {q : BitVec 32} {fields : Reported} {attempts : Nat} {flags : PerStream Bool}
    (hkind : f.kind = .status) (hcontent : f.content = .status q fields attempts flags) (s : State) :
    reportCompletion f s = statusDelivered q s := by
  simp only [reportCompletion, hkind, hcontent]

theorem reportCompletion_of_reply {f : OutFrame} {code : ReplyCode} {index total refused : Nat} {body : List Word16}
    (hkind : f.kind = .reply) (hcontent : f.content = .reply code index total refused body) (s : State) :
    reportCompletion f s = replyDelivered s := by
  simp only [reportCompletion, hkind, hcontent]

theorem reportCompletion_of_unreported {f : OutFrame} (h : f.kind = .splitReport ∨ f.kind = .alert) (s : State) :
    reportCompletion f s = s := by
  rcases h with h | h <;> simp only [reportCompletion, h]

theorem delivered_eq_set_iff (q : BitVec 32) (x : ChangeFlag) : x.delivered q = .set ↔ x = .set := by
  cases x with
  | clear | set => rfl
  | carried n =>
    simp only [ChangeFlag.delivered, reduceCtorEq, iff_false]
    split <;> exact fun h => by cases h

theorem statusDelivered_of_unmarked {q : BitVec 32} {s : State}
    (h : s.supply.flag = false ∨ ∀ m, s.supply.reportedMark = some m → q.toNat < m.toNat) :
    statusDelivered q s = { s with streams := s.streams.map fun r => { r with flag := r.flag.delivered q } } := by
  unfold statusDelivered
  cases hmark : s.supply.reportedMark with
  | none => rfl
  | some m =>
    refine if_neg fun ⟨hflag, hle⟩ => ?_
    rcases h with h | h
    · rw [h] at hflag
      cases hflag
    · exact absurd hle (Nat.not_le.2 (h m hmark))

theorem statusDelivered_of_marked {q m : BitVec 32} {s : State} (hflag : s.supply.flag = true)
    (hmark : s.supply.reportedMark = some m) (hle : m.toNat ≤ q.toNat) :
    statusDelivered q s = { s with
      streams := s.streams.map fun r => { r with flag := r.flag.delivered q }, supply.flag := false,
      supply.reportedMark := none } := by
  simp only [statusDelivered, hmark, hflag, hle, and_self, if_true]

/-- An alert whose condition becomes false is clear at the end of the event (R170). -/
theorem settle_alert_of_falls {s v : State} {i : AlertId} (hwas : alertCondition s i = true) (his : alertCondition v i = false) :
    (settle s v).report.alerts.get i = .clear := by
  rw [settle_alerts]
  simp [weighAlerts, moveAlert, hwas, his]

theorem sendReply_of_last {r : Reply} (h : r.bodies = []) (s : State) : sendReply r s = abandonReply s := by
  simp only [sendReply, h]

theorem sendReply_of_refusing {r : Reply} {body : List Word16} {more : List (List Word16)} {s : State}
    (hbodies : r.bodies = body :: more) (h : refusesPlacement false s = true) :
    sendReply r s = { s with draws := s.draws + 1, report.query.busy := none } := by
  simp only [sendReply, hbodies, h, if_true]
  rfl

theorem sendReply_of_taking {r : Reply} {body : List Word16} {more : List (List Word16)} {s : State}
    (hbodies : r.bodies = body :: more) (h : refusesPlacement false s = false) :
    sendReply r s = { s with
      draws := s.draws + 1
      link.mailboxes.reply := some
        { kind := .reply, sequence := Config.freeSequence s.draws,
          content := .reply r.code (r.total - more.length) r.total s.report.query.refused body }
      report.query := { busy := some r, refused := 0 } } := by
  have hindex : r.total + 1 - r.bodies.length = r.total - more.length := by rw [hbodies, List.length_cons]; omega
  simp only [sendReply, hbodies, h, Bool.false_eq_true, if_false, takePlacement, replyFrame, discardOlder, OwnKind.isCommand, ite_self,
    ← hindex]
  rfl

/-- A completion leaves the quiet mark alone: a REPLY's next frame goes into a mailbox, and nothing else reaches the link. -/
theorem reportCompletion_quiet (f : OutFrame) (s : State) : (reportCompletion f s).link.quiet = s.link.quiet := by
  unfold reportCompletion replyDelivered
  repeat' split
  all_goals simp [commandDelivered]

/-- Settles O12. -/
theorem cleanTransmissionsReachTheirBlocks : Obligations.CleanTransmissionsReachTheirBlocks := by
  unfold Obligations.CleanTransmissionsReachTheirBlocks
  intro s done t f id echo hf hid hecho hquiet hdone
  have heffect : afterEffect (.cleanTransmission echo) s = reportCompletion f done := by
    have hclean : echoOf { s with now := t } (f.onWire id).levels = some .clean := by
      rw [echoOf_of_transmitting (s := { s with now := t }) hf hid, judgeEcho_self]
    have hunquiet : endQuietPhase (reportCompletion f done) = reportCompletion f done := by
      refine endQuietPhase_unquiet _ ?_
      rw [reportCompletion_quiet, hdone]
      exact hquiet
    rw [← hunquiet, hecho, hdone]
    exact whenEchoed_of_result (s := { s with now := t }) hf hclean
  have hexec {v : State} (h : reportCompletion f done = v) (hread : s.ReadsAs v) : exec (.cleanTransmission echo) s = .next v :=
    exec_unseen (fun h => by cases h) (heffect.trans h) hread
  refine ⟨fun a tenths code bound enable hkind hcontent => ?_, fun q fields attempts flags hkind hcontent => ⟨fun hunmarked => ?_,
    fun m hflag hmark hle => ?_⟩, fun code index total refused body r sent left hkind hcontent hbusy hbodies => ⟨fun hlast => ?_,
    fun b more hmore hlisten => ?_, fun hmore hlisten => ?_⟩, fun hkind => ?_⟩
  · refine hexec ((reportCompletion_of_command hkind hcontent done).trans (by rw [hdone]; rfl)) ?_
    refine readsAs_of_same (by rw [hdone]) (by rw [hdone]) (fun b => ?_) (by rw [hdone]) (by rw [hdone]) (by rw [hdone]) (by rw [hdone])
      (by rw [hdone]) (.inl (by rw [hdone])) (by rw [hdone]; exact ⟨rfl, rfl, rfl, rfl, rfl, rfl⟩)
    rw [PerAxle.get_set]
    split
    next h => rw [h]
    next => rfl
  · have hdelivered := (reportCompletion_of_status hkind hcontent done).trans
      (statusDelivered_of_unmarked (q := q) (s := done) (by rw [hdone]; exact hunmarked))
    refine ⟨_, hexec hdelivered ⟨?_, ?_, ?_, ?_, ?_, ?_, ?_⟩, rfl, fun i => ?_⟩
    · rw [hdone]
      rfl
    · refine Bool.eq_false_iff.2 fun hraised => ?_
      obtain ⟨i, hset, hwas⟩ := (flagRaised_iff _ _).1 hraised
      rw [PerStream.get_map, delivered_eq_set_iff, hdone] at hset
      exact hwas hset
    · rw [hdone]
    · rw [hdone]
      intro i
      cases i <;> rfl
    · rw [hdone]
    · rw [hdone]
      exact fun _ => rfl
    · rw [hdone]
      exact marksQuiet_same rfl
    · rw [PerStream.get_map, hdone]
      refine ⟨rfl, ?_⟩
      cases hflag : (s.streams.get i).flag <;> simp only [ChangeFlag.delivered]
  · have hdelivered := (reportCompletion_of_status hkind hcontent done).trans
      (statusDelivered_of_marked (q := q) (m := m) (s := done) (by rw [hdone]; exact hflag) (by rw [hdone]; exact hmark) hle)
    obtain ⟨v, hv⟩ : ∃ v : State, v = { done with
      streams := done.streams.map fun r => { r with flag := r.flag.delivered q }, supply.flag := false,
      supply.reportedMark := none } := ⟨_, rfl⟩
    rw [← hv] at hdelivered
    have hmarks : marksQuiet s v = false := marksQuiet_same (by rw [hv, hdone])
    have hchange : reportsChange s v = true := by
      have hreported : reported s ≠ reported v := fun heq => by
        have hfell : s.supply.flag = false := (congrArg Reported.supplyLow heq).trans (by rw [hv]; rfl)
        rw [hflag] at hfell
        cases hfell
      simp [reportsChange, hreported]
    refine ⟨settle s v, by rw [exec_eq_settle (fun h => by cases h), heffect, hdelivered], ?_, ?_, ?_, ?_⟩
    · refine (settle_unreported s v hmarks).trans ?_
      rw [hv]
      rfl
    · rw [settle_supply, hchange, if_pos rfl, hv]
      rfl
    · rw [settle_placement, hchange, if_pos rfl, hv, hdone]
    · exact settle_alert_of_falls (i := .supplyLow) hflag (by rw [hv]; rfl)
  · have hreply : reportCompletion f done = { done with report.query.busy := none } := by
      rw [reportCompletion_of_reply hkind hcontent, replyDelivered, show done.report.query.busy = some r by rw [hdone]; exact hbusy]
      exact sendReply_of_last (by simp only [hbodies, List.tail_cons, hlast]) done
    exact hexec hreply
      (by rw [hdone]; exact ⟨rfl, flagRaised_same fun _ => rfl, rfl, fun _ => rfl, rfl, fun _ => rfl, marksQuiet_same rfl⟩)
  · have hreply : reportCompletion f done = sendReply { r with bodies := left } done := by
      rw [reportCompletion_of_reply hkind hcontent, replyDelivered, show done.report.query.busy = some r by rw [hdone]; exact hbusy]
      simp only [hbodies, List.tail_cons]
    rw [sendReply_of_taking (r := { r with bodies := left }) hmore (by rw [hdone]; simp [refusesPlacement, hlisten, hquiet])] at hreply
    refine (hexec hreply ?_).trans ?_
    · rw [hdone]
      exact ⟨rfl, flagRaised_same fun _ => rfl, rfl, fun _ => rfl, rfl, fun _ => rfl, marksQuiet_same rfl⟩
    · rw [hdone]
  · have hreply : reportCompletion f done = sendReply { r with bodies := left } done := by
      rw [reportCompletion_of_reply hkind hcontent, replyDelivered, show done.report.query.busy = some r by rw [hdone]; exact hbusy]
      simp only [hbodies, List.tail_cons]
    obtain ⟨b, more, hleft⟩ := List.exists_cons_of_ne_nil hmore
    rw [sendReply_of_refusing (r := { r with bodies := left }) hleft (by rw [hdone]; simp [refusesPlacement, hlisten])] at hreply
    refine (hexec hreply ?_).trans ?_
    · rw [hdone]
      exact ⟨rfl, flagRaised_same fun _ => rfl, rfl, fun _ => rfl, rfl, fun _ => rfl, marksQuiet_same rfl⟩
    · rw [hdone]
  · refine hexec (reportCompletion_of_unreported hkind done) ?_
    rw [hdone]
    exact ⟨rfl, flagRaised_same fun _ => rfl, rfl, fun _ => rfl, rfl, fun _ => rfl, marksQuiet_same rfl⟩

end Sys2Proof.Machine

namespace Sys2Proof.Machine

/-! The sixteenth echo mismatch: the link is MUTED, and lost to a driving part (O15). -/

theorem returnFrame_report (f : OutFrame) (s : State) : (returnFrame f s).report =
    { s.report with counters.superseded := (returnFrame f s).report.counters.superseded } := by
  unfold returnFrame discardOlder
  repeat' split
  all_goals rfl

/-- A frame that returns waits in its mailbox, or a newer one does; the other mailboxes stand. -/
theorem returnFrame_waiting (f : OutFrame) (s : State) (k : OwnKind) :
    (returnFrame f s).link.mailboxes.get k ≠ none ↔ s.link.mailboxes.get k ≠ none ∨ f.kind = k := by
  rw [returnFrame_link]
  split
  next hwaits =>
    constructor
    · exact .inl
    · rintro (h | rfl)
      · exact h
      · exact Option.isSome_iff_ne_none.1 hwaits
  next =>
    rw [PerKind.get_set]
    by_cases hk : k = f.kind
    · simp [hk]
    · simp only [if_neg hk, ne_eq, (Ne.symm hk : ¬ f.kind = k), or_false]

/-- The frame of the sixteenth mismatch is aborted like any other. -/
theorem abortFrame_of_sixteenth {s : State} {f : OutFrame} (hf : s.link.transmitting = some f) (h : 15 ≤ s.link.echoCount) :
    abortFrame f s = returnFrame f { s with
      link.transmitting := none, link.bus := .aborted, link.echoCount := 16,
      report.counters.echoFaults := min (s.report.counters.echoFaults + 1) 65535 } := by
  have hbus : s.link.busReleased = .aborted := by simp [LinkController.busReleased, hf]
  have hcount : saturatingUp s.link.echoCount Config.echoLimit = 16 := Nat.min_eq_right (by rw [Config.echoLimit]; omega)
  simp only [abortFrame, hbus, hcount]
  rfl

theorem enterMuted_report (s : State) : (enterMuted s).report =
    { s.report with query.busy := if s.link.mailboxes.get .reply ≠ none then none else s.report.query.busy } := by
  have hwaits : s.link.mailboxes.reply.isSome = true ↔ s.link.mailboxes.get .reply ≠ none := Option.isSome_iff_ne_none
  simp only [enterMuted, hwaits]
  split <;> rfl

/-- The machine as the mode controller finds it when a mismatch has muted the link. -/
theorem muted_of_sixteenth {s w : State} {f : OutFrame} (hf : s.link.transmitting = some f) (h : 15 ≤ s.link.echoCount)
    (hw : w = enterMuted (abortFrame f s)) :
    w.link = { s.link with bus := .aborted, transmitting := none, echoCount := 16, state := .muted, mailboxes := noMail, cleanRun := 0 } ∧
      ∃ superseded, w.report = { s.report with
        counters.superseded := superseded
        counters.echoFaults := min (s.report.counters.echoFaults + 1) 65535
        query.busy := if s.link.mailboxes.get .reply ≠ none ∨ f.kind = .reply then none else s.report.query.busy } := by
  have haborted := abortFrame_of_sixteenth hf h
  constructor
  · rw [hw, enterMuted_link, haborted, returnFrame_link]
    split <;> rfl
  · refine ⟨(abortFrame f s).report.counters.superseded, ?_⟩
    rw [hw, enterMuted_report, haborted]
    simp only [returnFrame_waiting]
    rw [returnFrame_report]

theorem mismatchFrame_of_sixteenth {s : State} {f : OutFrame} (hf : s.link.transmitting = some f) (h : 15 ≤ s.link.echoCount) :
    mismatchFrame f s = endQuietPhase (linkLoss (enterMuted (abortFrame f s))) := by
  have hcount : (abortFrame f s).link.echoCount = 16 := by
    rw [abortFrame_of_sixteenth hf h, returnFrame_link]
    split <;> rfl
  simp only [mismatchFrame, hcount, Config.echoLimit, le_refl, if_true]

theorem linkLoss_of_moving {s : State} (h : s.modes.mode = .driving ∨ s.modes.mode = .fading) : linkLoss s = takeLinkLoss s := by
  rcases h with h | h <;> simp only [linkLoss, h]

theorem linkLoss_of_other {s : State} (hdriving : s.modes.mode ≠ .driving) (hfading : s.modes.mode ≠ .fading) : linkLoss s = s := by
  unfold linkLoss
  split
  next h => exact absurd h hdriving
  next h => exact absurd h hfading
  all_goals rfl

/-- A link loss reaches neither the link controller nor the query service, and of the counters the missed captures alone. -/
theorem linkLoss_keeps (s : State) : (linkLoss s).link = s.link ∧ (linkLoss s).report.query = s.report.query ∧
    (linkLoss s).report.counters.echoFaults = s.report.counters.echoFaults := by
  by_cases hmoving : s.modes.mode = .driving ∨ s.modes.mode = .fading
  · rw [linkLoss_of_moving hmoving, takeLinkLoss]
    obtain ⟨-, -, -, -, -, -, -, hcounters⟩ := enterMode_still_frame (new := .dozing) .none
      { resetOrDefer driveResets s with issuer.inService := ⟨false, false⟩ } rfl
    refine ⟨by simp [enterMode_link], by simp, ?_⟩
    rw [hcounters]
    simp
  · rw [not_or] at hmoving
    rw [linkLoss_of_other hmoving.1 hmoving.2]
    exact ⟨rfl, rfl, rfl⟩

/-- An idle engine loses its previous commands and its regulators with the link, and GRIP LIMITING ends. -/
theorem takeLinkLoss_of_idle {s : State} (hidle : s.engine.flight = none) :
    (takeLinkLoss s).engine = { s.engine with timer := none, previous := ⟨0, 0⟩ } ∧
      (takeLinkLoss s).report.gripLimiting = false ∧ (takeLinkLoss s).grip = ⟨.reset, .reset⟩ ∧
      (takeLinkLoss s).table.grip = ⟨none, none⟩ := by
  rw [takeLinkLoss, driveResets_of_idle hidle]
  obtain ⟨hengine, hgrip, hrow, -, -, -, hlimiting, -⟩ := enterMode_still_frame (new := .dozing) .none
    { s with
      engine.previous := ⟨0, 0⟩, grip := ⟨.reset, .reset⟩, table.grip := ⟨none, none⟩, report.gripLimiting := false,
      issuer.inService := ⟨false, false⟩ } rfl
  exact ⟨hengine, hlimiting, hgrip, hrow⟩

/-- With a pass in flight the resets of a link loss join the deferred ones, and the pass keeps what it computes from. -/
theorem takeLinkLoss_of_flying {s : State} (hflight : s.engine.flight ≠ none) :
    (takeLinkLoss s).engine = { s.engine with timer := none, deferred := s.engine.deferred ++ driveResets } ∧
      (takeLinkLoss s).report.gripLimiting = s.report.gripLimiting ∧ (takeLinkLoss s).grip = s.grip ∧
      (takeLinkLoss s).table.grip = s.table.grip := by
  obtain ⟨sn, hsn⟩ := Option.ne_none_iff_exists'.1 hflight
  rw [takeLinkLoss, resetOrDefer_of_flying _ hsn]
  obtain ⟨hengine, hgrip, hrow, -, -, -, hlimiting, -⟩ := enterMode_still_frame (new := .dozing) .none
    { s with engine.deferred := s.engine.deferred ++ driveResets, issuer.inService := ⟨false, false⟩ } rfl
  exact ⟨hengine, hlimiting, hgrip, hrow⟩

/-- A link loss moves a driving part to DOZING: the in-service marks fall, and the axles in service stand by. -/
theorem takeLinkLoss_stands (s : State) :
    (takeLinkLoss s).modes.mode = .dozing ∧ (takeLinkLoss s).issuer = { s.issuer with inService := ⟨false, false⟩ } ∧
      ∀ a, ((takeLinkLoss s).axles.get a).state =
        if (s.axles.get a).state.inService then .standby else (s.axles.get a).state := by
  obtain ⟨-, -, -, -, haxles, -⟩ := enterMode_still_frame (new := .dozing) .none
    { resetOrDefer driveResets s with issuer.inService := ⟨false, false⟩ } rfl
  refine ⟨by simp [takeLinkLoss], by simp [takeLinkLoss], fun a => ?_⟩
  rw [takeLinkLoss, haxles, Supervisor.stoodDown_state]
  simp

/-- A link loss takes no trigger, and fills a request that no pass in flight is left to fill. -/
theorem waitingFilled_of_linkLoss {s v u : State} (hs : s.RequestKept v) (hu : (takeLinkLoss v).RequestKept u)
    (hparams : v.params = s.params) (hengine : v.engine = s.engine) (hmode : u.modes.mode = .dozing)
    (haxles : u.axles = (takeLinkLoss v).axles) (hstreams : v.streamStates = s.streamStates) : s.WaitingFilled u := by
  obtain ⟨y, hy⟩ : ∃ y : State, y = { resetOrDefer driveResets v with issuer.inService := ⟨false, false⟩ } := ⟨_, rfl⟩
  have hkept : v.RequestKept y := by simp [hy, State.RequestKept, State.SlotsKept]
  have hlost : takeLinkLoss v = enterMode .dozing .none y := by rw [hy]; rfl
  rw [hlost] at hu haxles
  exact waitingFilled_of_enterMode rfl (hs.trans hkept) hu (by simp [hy, State.par, hparams]) (by simp [hy, hengine])
    (by simp [hy, hengine]) hmode (fun a => by rw [haxles]) (by rw [← hstreams, hy]; simp [State.streamStates])

/-- Settles O15. -/
theorem sixteenthMismatchMutesTheLink : Obligations.SixteenthMismatchMutesTheLink := by
  unfold Obligations.SixteenthMismatchMutesTheLink
  intro s echo hecho hmany
  obtain ⟨f, hf⟩ : ∃ f, s.link.transmitting = some f := by
    cases hf : s.link.transmitting with
    | none => simp [echoOf, hf] at hecho
    | some f => exact ⟨f, rfl⟩
  obtain ⟨w, hw⟩ : ∃ w, w = enterMuted (abortFrame f { s with now := echo.time }) := ⟨_, rfl⟩
  obtain ⟨hlink, superseded, hreport⟩ := muted_of_sixteenth (s := { s with now := echo.time }) hf hmany hw
  obtain ⟨hkept, hquery, hfaults⟩ := linkLoss_keeps w
  have heffect : afterEffect (.echoMismatch echo) s = linkLoss w := by
    refine (whenEchoed_of_result (s := { s with now := echo.time }) (outcome := mismatchFrame) hf hecho).trans ?_
    rw [mismatchFrame_of_sixteenth (s := { s with now := echo.time }) hf hmany, ← hw]
    refine if_neg ?_
    simp [quietPhaseOver, hkept, hlink]
  have hmarks : marksQuiet s (linkLoss w) = false := marksQuiet_same (by rw [hkept, hlink])
  obtain ⟨u, hu⟩ : ∃ u, u = settle s (linkLoss w) := ⟨_, rfl⟩
  obtain ⟨hsame, hmail⟩ := settle_sameLink hmarks
  rw [← hu, hkept] at hsame hmail
  have hempty (k : OwnKind) (hk : k.isReport = false) : u.link.mailboxes.get k = none := by
    rw [hmail k hk, hlink]
    cases k <;> rfl
  have hbusy : u.report.query.busy =
      if s.link.mailboxes.get .reply ≠ none ∨ f.kind = .reply then none else s.report.query.busy := by
    simp only [hu, settle_report_frame, hquery, hreport]
  refine ⟨u, by rw [exec_eq_settle (fun h => by cases h), heffect, hu], by rw [hsame, hlink], ?_, by rw [hsame, hlink], by rw [hsame, hlink],
    by rw [hsame, hlink], by rw [hsame, hlink], by rw [hsame, hlink], hempty .frontCommand rfl, hempty .rearCommand rfl,
    hempty .splitReport rfl, hempty .reply rfl, by rw [hsame, hlink], by rw [hsame, hlink], by simp [hu, hw], by simp [hu, hw],
    by simp [hu, hw], by simp [hu, hw], fun i => ?_, ?_, fun hreply => ?_, fun hnone hother => ?_, fun hmoving => ?_,
    fun hdriving hfading => ?_⟩
  · simp only [hu, settle_report_frame, hfaults, hreport]
  · rw [hu, settle_unflagged hmarks]
    simp [hw]
  · simp only [hu, settle_report_frame, hquery, hreport]
  · rw [hbusy, if_pos]
    rcases hreply with h | ⟨g, hg, hkind⟩
    · exact .inl h
    · obtain rfl : f = g := Option.some.inj (hf.symm.trans hg)
      exact .inr hkind
  · rw [hbusy, if_neg]
    rintro (h | h)
    · exact h hnone
    · exact hother f hf h
  · have hwmodes : w.modes = s.modes := by simp [hw]
    have hwengine : w.engine = s.engine := by simp [hw]
    have hloss : linkLoss w = takeLinkLoss w := linkLoss_of_moving (by rw [hwmodes]; exact hmoving)
    rw [hloss] at hu
    obtain ⟨hmode, hissuer, hstate⟩ := takeLinkLoss_stands w
    refine ⟨by simp only [hu, settle_frame, hmode], ?_, fun hidle => ?_, fun hflight => ?_, fun a => ?_, ?_⟩
    · rw [hu]
      simp only [settle_frame, hissuer]
      simp [hw]
    · obtain ⟨hengine, hlimiting, hgrip, hrow⟩ := takeLinkLoss_of_idle (s := w) (by rw [hwengine]; exact hidle)
      rw [hu]
      simp only [settle_frame, settle_report_frame, hengine, hlimiting, hgrip, hrow, hwengine, true_and]
      intro a
      cases a <;> exact ⟨rfl, rfl⟩
    · obtain ⟨hengine, hlimiting, hgrip, hrow⟩ := takeLinkLoss_of_flying (s := w) (by rw [hwengine]; exact hflight)
      rw [hu]
      simp only [settle_frame, settle_report_frame, hengine, hlimiting, hgrip, hrow, hwengine, hreport]
      simp [hw, driveResets]
    · rw [hu]
      simp only [settle_frame, hstate]
      simp [hw]
    · refine waitingFilled_of_linkLoss (v := w) ?_ (hu ▸ requestKept_settle s _) (by simp [hw]) hwengine
        (by simp only [hu, settle_frame, hmode]) (by rw [hu]; simp only [settle_frame]) (by simp [hw, State.streamStates])
      unfold State.RequestKept State.SlotsKept
      rw [hreport]
      exact ⟨rfl, rfl, rfl, rfl, rfl⟩
  · have hloss : linkLoss w = w := linkLoss_of_other (by simpa [hw] using hdriving) (by simpa [hw] using hfading)
    rw [hloss] at hu
    refine ⟨by simp [hu, hw], by simp [hu, hw], by simp [hu, hw], by simp [hu, hw], by simp [hu, hw], by simp [hu, hw], ?_⟩
    rw [hu]
    refine State.RequestKept.trans ?_ (requestKept_settle s w)
    unfold State.RequestKept State.SlotsKept
    rw [hreport]
    exact ⟨rfl, rfl, rfl, rfl, rfl⟩

end Sys2Proof.Machine

namespace Sys2Proof.Machine

/-! Holds and the pass timer (O28, O29). -/

/-! ## Holds that expire (R58) -/

theorem requestPass_eq (s : State) : requestPass s = { s with engine := (requestPass s).engine } := by
  unfold requestPass
  split
  · split <;> rfl
  · rfl

theorem holdDue_eq_false {s : State} {x : Time}
    (h : reached s.now x = false ∨ ∃ e ∈ s.intake, e.role = .stream .stability ∧ earlier e.arrival x = true) : holdDue s x = false := by
  rcases h with h | ⟨e, he, hrole, hearlier⟩
  · simp [holdDue, h]
  · have : entryWaits .stability x s = true := by
      rw [← Bool.not_eq_false, entryWaits_eq_false_iff]
      exact fun hnone => by simp [hnone e he hrole] at hearlier
    simp [holdDue, this]

theorem holdDue_eq_true {s : State} {x : Time} (h : reached s.now x = true)
    (hnone : ∀ e ∈ s.intake, e.role = .stream .stability → earlier e.arrival x = false) : holdDue s x = true := by
  simp [holdDue, h, entryWaits_eq_false_iff.2 hnone]

theorem expireCell_of_due {due : Time → Bool} {c : StabilityCap} {x : Time} (hexpiry : c.expiry = some x) (hdue : due x = true) :
    expireCell due (some c) = none := by
  simp [expireCell, hexpiry, hdue]

/-- The STABILITY row without the caps whose holds are due. -/
def State.capsExpired (due : Time → Bool) (s : State) : State :=
  { s with table.stability := s.table.stability.map (expireCell due) }

/-- A hold that expires changes the row, so that a pass is requested. -/
theorem expireHolds_of_due {due : Time → Bool} {s : State} {a : Axle} {c : StabilityCap} {x : Time}
    (hcell : s.table.stability.get a = some c) (hexpiry : c.expiry = some x) (hdue : due x = true) :
    expireHolds due s = requestPass (s.capsExpired due) := by
  have hchanged : stabilityChanged s.table.stability (s.capsExpired due) = true := by
    refine Bool.of_not_eq_false fun hsame => ?_
    have hcap := stabilityChanged_eq_false_iff.1 hsame a
    simp [State.capsExpired, hcell, expireCell_of_due hexpiry hdue] at hcap
  unfold expireHolds
  exact congrArg (requestPassIf · (s.capsExpired due)) hchanged

/-- Settles O28: the caps whose holds are due leave the row, and the change requests a pass. -/
theorem holdExpiryRemovesTheCaps : Obligations.HoldExpiryRemovesTheCaps := by
  unfold Obligations.HoldExpiryRemovesTheCaps
  intro s t
  obtain ⟨w, hw⟩ : ∃ w : State, w = { s with now := t } := ⟨_, rfl⟩
  have heffect : afterEffect (.holdExpiry t) s = expireHolds (holdDue w) w := by rw [hw]; rfl
  refine ⟨fun hnone => ?_, fun a c x hcell hexpiry hreached hfirst => ?_⟩
  · have hkept : expireHolds (holdDue w) w = w := expireHolds_of_none_due fun a c x hcell hexpiry =>
      holdDue_eq_false (by rw [hw] at hcell ⊢; exact hnone a c x hcell hexpiry)
    rw [exec_unseen (fun h => by cases h) (heffect.trans hkept), hw]
    rw [hw]
    exact ⟨rfl, flagRaised_same fun _ => rfl, rfl, fun _ => rfl, rfl, fun _ => rfl, marksQuiet_same rfl⟩
  · have hdue : holdDue w x = true := holdDue_eq_true (by rw [hw]; exact hreached) (by rw [hw]; exact hfirst)
    obtain ⟨v, hv⟩ : ∃ v, v = w.capsExpired (holdDue w) := ⟨_, rfl⟩
    have hrequest : expireHolds (holdDue w) w = requestPass v := by
      rw [hv]
      exact expireHolds_of_due (by rw [hw]; exact hcell) hexpiry hdue
    have hreads : s.ReadsAs (requestPass v) := readsAs_of_same (by simp [hv, hw, State.capsExpired])
      (by simp [hv, hw, State.capsExpired]) (by simp [hv, hw, State.capsExpired]) (by simp [hv, hw, State.capsExpired])
      (by simp [hv, hw, State.capsExpired]) (by simp [hv, hw, State.capsExpired]) (by simp [hv, hw, State.capsExpired])
      (by simp [hv, hw, State.capsExpired]) (.inl (by simp [hv, hw, State.capsExpired]))
      (by simp [hv, hw, State.capsExpired])
    have hmodes : v.modes = s.modes := by rw [hv, hw]; rfl
    have hengine : v.engine = s.engine := by rw [hv, hw]; rfl
    have hcells (b : Axle) : (requestPass v).table.stability.get b = expireCell (holdDue w) (s.table.stability.get b) := by
      simp [hv, hw, State.capsExpired]
    refine ⟨requestPass v, exec_unseen (fun h => by cases h) (heffect.trans hrequest) hreads, ?_, ?_, fun b k hk hfallback => ?_,
      fun b k y hk hexpiry' hlasts => ?_, fun hstill => ?_, fun sn hruns hflight => ?_, fun hruns hidle => ?_⟩
    · rw [hcells, hcell, expireCell_of_due hexpiry hdue]
    · rw [requestPass_eq, hv, hw]
      rfl
    · rw [hcells, hk]
      simp [expireCell, hfallback]
    · rw [hcells, hk, expireCell_of_not_due]
      rintro v' x' hv' hx'
      obtain rfl : k = v' := Option.some.inj hv'
      obtain rfl : y = x' := Option.some.inj (hexpiry'.symm.trans hx')
      exact holdDue_eq_false (.inl (by rw [hw]; exact hlasts))
    · rw [requestPass_of_still (hmodes ▸ hstill), hengine]
    · rw [requestPass_of_flying (hmodes ▸ hruns) (hengine ▸ hflight)]
      simp only [hengine]
    · rw [requestPass_of_idle (hmodes ▸ hruns) (hengine ▸ hidle)]
      exact ⟨takeSnapshot v, rfl, rfl, by rw [hv, hw]; rfl, by rw [hv, hw]; rfl⟩

/-! ## The pass timer (R4) -/

/-- Settles O29: the timer stops, and a pass is requested. -/
theorem passTimerExpiryRequestsAPass : Obligations.PassTimerExpiryRequestsAPass := by
  unfold Obligations.PassTimerExpiryRequestsAPass
  refine ⟨fun m => by cases m <;> decide, fun s t p hp => ⟨fun hnone => ?_, fun d hd hdue hruns => ?_⟩⟩
  · have hnever : timerDue t s.engine.timer = false := by
      cases hd : s.engine.timer with
      | none => rfl
      | some d => exact hnone d hd
    refine exec_unseen (fun h => by cases h) ?_
      ⟨rfl, flagRaised_same fun _ => rfl, rfl, fun _ => rfl, rfl, fun _ => rfl, marksQuiet_same rfl⟩
    simp [afterEffect, commandTime, commandEffect, expirePassTimer, hnever]
  · have hexpires : timerDue t s.engine.timer = true := by rw [hd]; exact hdue
    have heffect : afterEffect (.passTimerExpiry t) s = requestPass { s with now := t, engine.timer := none } := by
      simp [afterEffect, commandTime, commandEffect, expirePassTimer, hexpires, stopPassTimer]
    refine ⟨fun sn hflight => ?_, fun hidle => ?_⟩
    · refine exec_unseen (fun h => by cases h) (heffect.trans (requestPass_of_flying (sn := sn) hruns hflight))
        ⟨rfl, flagRaised_same fun _ => rfl, rfl, fun _ => rfl, rfl, fun _ => rfl, marksQuiet_same rfl⟩
    · refine exec_unseen (fun h => by cases h) ((heffect.trans (requestPass_of_idle hruns hidle)).trans ?_)
        ⟨rfl, flagRaised_same fun _ => rfl, rfl, fun _ => rfl, rfl, fun _ => rfl, marksQuiet_same rfl⟩
      simp only [startPass, State.par, hp]
      rfl

/-! ## Windows that expire (R32, R35, R37, R38) -/

theorem earlier_iff (a b : Time) : earlier a b = true ↔ 2 ^ 31 ≤ (a - b).toNat := by
  rw [earlier, BitVec.msb_eq_decide, decide_eq_true_iff]

theorem reached_iff (now due : Time) : reached now due = true ↔ (now - due).toNat < 2 ^ 31 := by
  rw [reached, Bool.not_eq_true', ← Bool.not_eq_true, earlier_iff, not_le]

theorem later_toNat (d : Time) (ms : Nat) : (later d ms).toNat = (d.toNat + ms) % 2 ^ 32 := by
  simp [later, BitVec.toNat_add]

theorem expireIfDue_of_due {s : State} {i : StreamId} {d : Time} (hd : (s.streams.get i).deadline = some d)
    (hreached : reached s.now d = true) (hfirst : ∀ e ∈ s.intake, e.role = .stream i → earlier e.arrival d = false) :
    expireIfDue i s = expireWindow i d s := by
  simp only [expireIfDue, windowDue_eq_some_iff.2 ⟨hd, hreached, entryWaits_eq_false_iff.2 hfirst⟩]

theorem expireIfDue_of_not_due {s : State} {i : StreamId}
    (h : ∀ d, (s.streams.get i).deadline = some d →
      reached s.now d = false ∨ ∃ e ∈ s.intake, e.role = .stream i ∧ earlier e.arrival d = true) : expireIfDue i s = s := by
  have hnone : windowDue i s = none := by
    refine Option.eq_none_iff_forall_ne_some.2 fun d hdue => ?_
    obtain ⟨hd, hreached, hfirst⟩ := windowDue_eq_some_iff.1 hdue
    rcases h d hd with h | ⟨e, he, hrole, hearlier⟩
    · simp [hreached] at h
    · simp [entryWaits_eq_false_iff.1 hfirst e he hrole] at hearlier
  simp only [expireIfDue, hnone]

/-- A stream that is not LATE keeps its record when its window expires. -/
theorem expireWindow_of_not_late {s : State} {i : StreamId} (d : Time) (h : (s.streams.get i).state ≠ .late) :
    expireWindow i d s = { s with streams := s.streams.set i ((s.streams.get i).expired d) } := by
  simp [expireWindow, h, setStream]

/-- A machine that differs in no block that the report unit reads, the records of the streams aside: their states stand, and no
flag is raised. -/
theorem readsAs_of_shown {s v : State} (hstates : ∀ j, (v.streams.get j).state = (s.streams.get j).state)
    (hflags : flagRaised s v = false) (hrecords : v.records.reference = s.records.reference)
    (haxles : ∀ a, (v.axles.get a).state = (s.axles.get a).state) (hmodes : v.modes = s.modes)
    (hexception : v.exception.isSome = s.exception.isSome) (hflag : v.supply.flag = s.supply.flag) (hparams : v.params = s.params)
    (hlink : v.link.state = s.link.state) (hquiet : v.link.quiet = s.link.quiet ∨ v.link.quiet = false)
    (hreport : v.report.alerts = s.report.alerts ∧ v.report.leading = s.report.leading ∧ v.report.powerRun = s.report.powerRun ∧
      v.report.gripLimiting = s.report.gripLimiting ∧ v.report.slotOne.isSome = s.report.slotOne.isSome ∧
      v.report.slotTwo.isSome = s.report.slotTwo.isSome) : s.ReadsAs v := by
  obtain ⟨hreported, -, halerts, hconditions, -, hsources, hmarks⟩ : s.ReadsAs { v with streams := s.streams } :=
    readsAs_of_same rfl hrecords haxles hmodes hexception hflag hparams hlink hquiet hreport
  have hshown : v.streams.map (·.state) = s.streams.map (·.state) := PerStream.ext_get fun j => by simp [hstates j]
  refine ⟨?_, hflags, halerts, fun i => ?_, hparams, fun c => ?_, hmarks⟩
  · rw [hreported]
    simp only [reported, hshown]
  · rw [hconditions]
    have hdemand := hstates .demand
    have hreference := hstates .reference
    simp only [PerStream.get] at hdemand hreference
    cases i <;> simp only [alertCondition, hdemand, hreference]
  · rw [hsources]
    cases c <;> rfl

theorem reportsChange_of_streamState {before s : State} {i : StreamId}
    (h : (before.streams.get i).state ≠ (s.streams.get i).state) : reportsChange before s = true := by
  have hreported : reported before ≠ reported s := fun heq => h (by
    have := congrArg (fun r => r.streams.get i) heq
    simpa [reported] using this)
  simp [reportsChange, hreported]

/-- Settles O26: the expiry itself is `StreamRecord.expired`, and its STATUS carries the change flag. -/
theorem windowExpiryWaitsForEarlierEntries : Obligations.WindowExpiryWaitsForEarlierEntries := by
  unfold Obligations.WindowExpiryWaitsForEarlierEntries
  refine ⟨fun now d ms => ⟨earlier_iff now d, reached_iff now d, later_toNat d ms, ?_⟩,
    fun s t i => ⟨fun hnone => ?_, fun d hd hdue hfirst => ?_⟩⟩
  · have hbefore : d - 1 - d = 4294967295#32 := by bv_omega
    have hafter : d + 1 - d = 1#32 := by bv_omega
    have hself : d - d = 0#32 := by bv_omega
    simp only [reached, earlier, hbefore, hafter, hself]
    decide
  · exact exec_unseen (fun h => by cases h) (expireIfDue_of_not_due (s := { s with now := t }) hnone)
      ⟨rfl, flagRaised_same fun _ => rfl, rfl, fun _ => rfl, rfl, fun _ => rfl, marksQuiet_same rfl⟩
  have heffect (h : (s.streams.get i).state ≠ .late) : afterEffect (.windowExpiry t i) s =
      { s with now := t, streams := s.streams.set i ((s.streams.get i).expired d) } :=
    (expireIfDue_of_due (s := { s with now := t }) hd hdue hfirst).trans (expireWindow_of_not_late d h)
  refine ⟨fun hfresh => ?_, fun hlost => ?_⟩
  · obtain ⟨v, hv⟩ : ∃ v : State, v = { s with now := t, streams := s.streams.set i ((s.streams.get i).expired d) } := ⟨_, rfl⟩
    have hrecord : v.streams.get i = { s.streams.get i with
        state := .late, deadline := some (later d ((s.streams.get i).window.getD 0)), flag := .set } := by
      simp [hv, StreamRecord.expired, hfresh, windowOf]
    have hchange : reportsChange s v = true := reportsChange_of_streamState (i := i) (by rw [hfresh, hrecord]; exact fun h => by cases h)
    have hplacement : v.report.placement = s.report.placement := by rw [hv]
    refine ⟨settle s v, by rw [exec_eq_settle (fun h => by cases h), heffect (by rw [hfresh]; decide), hv], ?_, ?_, ?_⟩
    · rw [State.sameButReports, settle_unreported s v (marksQuiet_same (by rw [hv])), hv]
      have hmap : (s.streams.set i ((s.streams.get i).expired d)).map StreamRecord.unflagged =
          (s.streams.set i { s.streams.get i with
            state := .late, deadline := some (later d ((s.streams.get i).window.getD 0)) }).map StreamRecord.unflagged := by
        refine PerStream.ext_get fun j => ?_
        rw [PerStream.get_map, PerStream.get_map, PerStream.get_set, PerStream.get_set]
        by_cases hj : j = i
        · simp [hj, StreamRecord.expired, hfresh, StreamRecord.unflagged, windowOf]
        · rw [if_neg hj, if_neg hj]
      simp only [State.unreported, hmap]
    · rw [settle_placement, if_pos hchange, hplacement]
    · rw [settle_streams, if_pos hchange, hrecord, hplacement]
      rfl
  · have hrecord : (s.streams.get i).expired d = { s.streams.get i with
        qualifying := 0, deadline := some (later d ((s.streams.get i).window.getD 0)) } := by
      simp [StreamRecord.expired, hlost, windowOf]
    rw [hrecord] at heffect
    obtain ⟨r, hr⟩ : ∃ r, r = { s.streams.get i with
        qualifying := 0, deadline := some (later d ((s.streams.get i).window.getD 0)) } := ⟨_, rfl⟩
    rw [← hr] at heffect ⊢
    have hkept (j : StreamId) : ((s.streams.set i r).get j).state = (s.streams.get j).state ∧
        ((s.streams.set i r).get j).flag = (s.streams.get j).flag := by
      rw [PerStream.get_set]
      by_cases hj : j = i
      · rw [if_pos hj, hj, hr]
        exact ⟨rfl, rfl⟩
      · rw [if_neg hj]
        exact ⟨rfl, rfl⟩
    exact exec_unseen (fun h => by cases h) (heffect (by rw [hlost]; decide))
      (readsAs_of_shown (fun j => (hkept j).1) (flagRaised_same fun j => (hkept j).2) rfl (fun _ => rfl) rfl rfl rfl rfl rfl (.inl rfl)
        ⟨rfl, rfl, rfl, rfl, rfl, rfl⟩)

end Sys2Proof.Machine

namespace Sys2Proof.Machine

/-! Input lines and the status timer (O36, O40). -/

/-! ## The filters (R137) -/

theorem changeLine_of_same {l : LineId} {level : Level} {s : State} (h : level = (s.filters.get l).line) :
    changeLine l level s = s := by
  simp [changeLine, h]

theorem changeLine_of_unset {l : LineId} {level : Level} {s : State} (h : level ≠ (s.filters.get l).line) (hp : s.params = none) :
    changeLine l level s = { s with filters := s.filters.set l { s.filters.get l with line := level } } := by
  simp only [changeLine, if_neg h, hp]

theorem changeLine_of_watched {l : LineId} {level : Level} {s : State} {p : Params} (h : level ≠ (s.filters.get l).line)
    (hp : s.params = some p) : changeLine l level s =
      { s with filters := s.filters.set l (watchLine s.now (p.filterTime.get l) level (s.filters.get l)) } := by
  simp only [changeLine, if_neg h, hp]

theorem watchLine_of_accepted (now : Time) (time : Nat) {level : Level} {f : InputFilter} (h : level = f.accepted) :
    watchLine now time level f = { line := level, accepted := f.accepted, candidate := none, timer := none } := by
  simp [watchLine, h]

theorem watchLine_of_opposite (now : Time) (time : Nat) {level : Level} {f : InputFilter} (h : level ≠ f.accepted) :
    watchLine now time level f =
      { line := level, accepted := f.accepted, candidate := some level, timer := some (later now time) } := by
  simp [watchLine, h]

theorem expireFilter_of_not_due {s : State} {l : LineId} {d : Time} (hd : (s.filters.get l).timer = some d)
    (hdue : reached s.now d = false) : expireFilter l s = s := by
  simp [expireFilter, hd, timerDue, hdue]

theorem expireFilter_of_due {s : State} {l : LineId} {d : Time} {level : Level} (hd : (s.filters.get l).timer = some d)
    (hdue : reached s.now d = true) (hlevel : (s.filters.get l).candidate = some level) :
    expireFilter l s = handAccepted l level (acceptLevel l level s) := by
  simp [expireFilter, hd, timerDue, hdue, hlevel]

/-- An accepted level that neither fades the part nor takes a trigger. -/
theorem handAccepted_of_idle {s : State} {l : LineId} {level : Level}
    (h : level = .inactive ∨ l = .hold ∧ s.modes.mode ≠ .driving ∨ l = .mark ∧ s.par.enables.mark = false) :
    handAccepted l level s = s := by
  rcases h with rfl | ⟨rfl, hmode⟩ | ⟨rfl, hoff⟩
  · cases l <;> rfl
  · cases level
    · rfl
    · exact fadeCause_of_other hmode
  · cases level
    · rfl
    · simp [handAccepted, takeTrigger, triggerEnabled, hoff]

/-! ## Triggers (R172) -/

/-- The request that a trigger leaves in a mode that runs passes or with a pass in flight: it waits for the pass end. -/
theorem takeTrigger_of_waiting {s : State} {source : TriggerSource} {r : CaptureRequest} (hon : triggerEnabled s.par source = true)
    (hr : s.report.request = none ∧ r = ⟨source, s.now, 0⟩ ∨
      ∃ r₀, s.report.request = some r₀ ∧ r = { r₀ with merged := min (r₀.merged + 1) 255 })
    (hmoving : s.modes.mode.runsPasses = true ∨ s.engine.flight ≠ none) :
    takeTrigger source s = { s with report.request := some r } := by
  have hset : setRequest source s = { s with report.request := some r } := by
    rcases hr with ⟨hnone, rfl⟩ | ⟨r₀, hsome, rfl⟩
    · simp [setRequest, hnone]
    · simp [setRequest, hsome, saturatingUp, Config.smallCounterMax]
  rw [takeTrigger, if_pos hon, hset]
  exact fillIfStill_of_moving hmoving

theorem takeTrigger_counters (source : TriggerSource) (s : State) : (takeTrigger source s).report.counters =
    { s.report.counters with missedCaptures := (takeTrigger source s).report.counters.missedCaptures } := by
  unfold takeTrigger
  split
  · rw [fillIfStill_counters]
    simp
  · rfl

theorem reportsChange_of_mode {before s : State} (h : before.modes.mode ≠ s.modes.mode) : reportsChange before s = true := by
  have hreported : reported before ≠ reported s := fun heq => h (congrArg Reported.mode heq)
  simp [reportsChange, hreported]

/-- Settles O36. -/
theorem filtersAcceptALevelThatLasts : Obligations.FiltersAcceptALevelThatLasts := by
  unfold Obligations.FiltersAcceptALevelThatLasts
  have hunseen (s : State) (t : Time) (filters : PerLine InputFilter) (request : Option CaptureRequest) :
      s.ReadsAs { s with now := t, filters := filters, report.request := request } :=
    ⟨rfl, flagRaised_same fun _ => rfl, rfl, fun _ => rfl, rfl, fun _ => rfl, marksQuiet_same rfl⟩
  refine ⟨fun s t l level => ?_, fun s t l level d accepted hd haccepted => ?_⟩
  · refine ⟨fun hsame => ?_, fun hchange hp => ?_, fun p hchange hp hopposite => ?_, fun p hchange hp hback => ?_⟩
    · exact exec_unseen (fun h => by cases h) (changeLine_of_same (s := { s with now := t }) hsame)
        (hunseen s t s.filters s.report.request)
    · exact exec_unseen (fun h => by cases h) (changeLine_of_unset (s := { s with now := t }) hchange hp)
        (hunseen s t _ s.report.request)
    · rw [← watchLine_of_opposite t (p.filterTime.get l) hopposite]
      exact exec_unseen (fun h => by cases h) (changeLine_of_watched (s := { s with now := t }) hchange hp)
        (hunseen s t _ s.report.request)
    · rw [← watchLine_of_accepted t (p.filterTime.get l) hback]
      exact exec_unseen (fun h => by cases h) (changeLine_of_watched (s := { s with now := t }) hchange hp)
        (hunseen s t _ s.report.request)
  · refine ⟨fun hearly => ?_, fun hdue hlevel => ⟨fun hidle => ?_, fun hl hactive hdriving => ?_, fun r hl hactive hon hr =>
      ⟨fun hmoving => ?_, fun hstill hnone => ?_⟩⟩⟩
    · exact exec_unseen (fun h => by cases h) (expireFilter_of_not_due (s := { s with now := t }) hd hearly)
        (hunseen s t s.filters s.report.request)
    all_goals
      obtain ⟨v, hv⟩ : ∃ v : State, v = { s with now := t, filters := accepted } := ⟨_, rfl⟩
      have heffect : afterEffect (.filterTimerExpiry t l) s = handAccepted l level v := by
        rw [hv, haccepted]
        exact expireFilter_of_due (s := { s with now := t }) hd hdue hlevel
    · rw [handAccepted_of_idle (by rw [hv]; exact hidle), hv] at heffect
      exact exec_unseen (fun h => by cases h) heffect (hunseen s t accepted s.report.request)
    · subst hl hactive
      have hfade : handAccepted .hold .active v = requestPass (writeMode .fading .none v) :=
        fadeCause_of_driving (by rw [hv]; exact hdriving)
      obtain ⟨u, hu⟩ : ∃ u, u = settle s (requestPass (writeMode .fading .none v)) := ⟨_, rfl⟩
      have hchange : reportsChange s (requestPass (writeMode .fading .none v)) = true :=
        reportsChange_of_mode (by simp [writeMode, hdriving])
      have hengine : u.engine = (requestPass (writeMode .fading .none v)).engine := by simp [hu]
      refine ⟨u, by rw [exec_eq_settle (fun h => by cases h), heffect, hfade, hu], by simp [hu, hv, writeMode], by simp [hu, hv,
        writeMode], by simp [hu, hv, writeMode],
        by simp [hu, hv, writeMode], by simp [hu, hv, writeMode], by simp [hu, hv, writeMode], by simp [hu, hv, writeMode],
        by simp [hu, hv, writeMode],
        by simp [hu, hv, writeMode], ?_, fun hnone => ?_, fun sn hflight => ?_⟩
      · rw [hu, settle_placement, if_pos hchange]
        simp [hv, writeMode]
      · rw [requestPass_of_idle (s := writeMode .fading .none v) rfl (by rw [hv]; exact hnone)] at hengine
        exact ⟨takeSnapshot (writeMode .fading .none v), by rw [hengine]; rfl, rfl, by simp [takeSnapshot, writeMode, hv, haccepted, PerLine.set]⟩
      · rw [hengine, requestPass_of_flying (s := writeMode .fading .none v) (sn := sn) rfl (by rw [hv]; exact hflight), hv]
        rfl
    · subst hl hactive
      refine exec_unseen (fun h => by cases h) (heffect.trans ?_) (hunseen s t accepted (some r))
      rw [hv]
      exact takeTrigger_of_waiting (s := { s with now := t, filters := accepted }) hon hr hmoving
    · subst hl hactive
      obtain ⟨u, hu⟩ : ∃ u, u = settle s (takeTrigger .mark v) := ⟨_, rfl⟩
      have htaken : s.TriggerTaken u .mark true s.streamStates :=
        triggerTaken_of_takeTrigger (v := v) (by rw [hv]; exact hon.symm) (by rw [hv]; exact .refl _)
          (hu ▸ requestKept_settle s (takeTrigger .mark v)) (by rw [hv]; rfl) (by rw [hv]) (by simp [hu]) (by simp [hu])
          (fun _ => by rw [hv]) (by simp [hu]) (by rw [hv]; rfl)
      have hfilled := (htaken.2 r rfl (by simpa [hu, hv] using hr)).2 (by simpa [hu, hv] using hstill) hnone
      have hmodes : u.modes = s.modes := by simp [hu, hv]
      have haxles : u.axles = s.axles := by simp [hu, hv]
      refine ⟨u, by rw [exec_eq_settle (fun h => by cases h), heffect, hu]; rfl, ?_, ?_, hmodes, by simp [hu, hv],
        by simp [hu, hv], by simp [hu, hv], by simp [hu, hv], haxles, by simp [hu, hv], by simp [hu, hv]⟩
      · rw [State.FilledNow, hmodes, haxles] at hfilled
        exact hfilled
      · have hcounters := takeTrigger_counters .mark v
        rw [hu]
        simp only [settle_report_frame]
        rw [hcounters, hv]

/-! ## The status timer (R167, R168) -/

theorem refusesPlacement_eq_false_iff (s : State) : refusesPlacement false s = false ↔ s.takesFrames := by
  simp [refusesPlacement, State.takesFrames]

theorem placeStatus_unreported (entering : Bool) (s : State) : (placeStatus entering s).unreported = s.unreported := by
  rw [placeStatus, placeFrame_unreported _ _ _ (.inl rfl)]
  simp only [numberStatus, markAfterPlacement]
  split <;> rfl

/-- A STATUS that the status timer places raises no flag, since it carries them all, and leaves all that STATUS reports. -/
theorem readsAs_placeStatus (s : State) (t : Time) (timer : Option Time) :
    s.ReadsAs (placeStatus false { s with now := t, report.statusTimer := timer }) := by
  obtain ⟨w, hw⟩ : ∃ w : State, w = { s with now := t, report.statusTimer := timer } := ⟨_, rfl⟩
  rw [← hw]
  have hflag : flagRaised s (placeStatus false w) = false := by
    rw [← Bool.not_eq_true, flagRaised_iff]
    rintro ⟨i, hset, -⟩
    rw [placeStatus_flag] at hset
    cases hflag : (w.streams.get i).flag <;> simp [hflag, ChangeFlag.carry] at hset
  refine readsAs_of_shown (fun j => by simp [hw]) hflag (by simp [hw]) (by simp [hw]) (by simp [hw]) (by simp [hw]) ?_
    (by simp [hw]) (by simp [hw]) (.inl (by simp [hw])) ?_
  · rw [placeStatus_supply, hw]
    simp
  · rw [placeStatus_report, hw]
    exact ⟨rfl, rfl, rfl, rfl, rfl, rfl⟩

theorem expireStatusTimer_of_due {s : State} {d : Time} (hd : s.report.statusTimer = some d) (hdue : reached s.now d = true) :
    expireStatusTimer s = placeStatus false { s with report.statusTimer := some (later d (statusPeriod s)) } := by
  simp [expireStatusTimer, hd, hdue]

theorem flagBits_get (s : State) (i : StreamId) : (flagBits s).get i = ((s.streams.get i).flag != .clear) := by
  rw [flagBits, PerStream.get_map]
  cases (s.streams.get i).flag <;> rfl

/-- Settles O40: the timer's STATUS is the only change of its event. -/
theorem statusTimerExpiryPlacesStatus : Obligations.StatusTimerExpiryPlacesStatus := by
  unfold Obligations.StatusTimerExpiryPlacesStatus
  intro s t d period n fields hd hdue hn hperiod hfields
  have hkept : statusPeriod { s with now := t } = period := by
    rcases hperiod with ⟨hmode, hcause, rfl⟩ | ⟨hnot, p, hp, rfl⟩
    · simp [statusPeriod, parameterFailure, hmode, hcause, Config.failurePeriod]
    · have hwell : parameterFailure { s with now := t } = false := by
        simpa [parameterFailure] using hnot
      rw [statusPeriod, hwell, if_neg Bool.false_ne_true, State.par, hp]
      rfl
  obtain ⟨w, hw⟩ : ∃ w : State, w = { s with now := t, report.statusTimer := some (later d period) } := ⟨_, rfl⟩
  have heffect : afterEffect (.statusTimerExpiry t) s = placeStatus false w := by
    rw [hw, ← hkept]
    exact expireStatusTimer_of_due (s := { s with now := t }) hd hdue
  have hframe : statusFrame w =
      ⟨.status, Config.freeSequence s.draws, .status n fields s.port.attempts (flagBits w)⟩ := by
    rw [statusFrame, hfields, ← hn, hw]
    rfl
  have hlink : (placeStatus false w).link =
      if refusesPlacement false s then s.link
      else { s.link with mailboxes := s.link.mailboxes.set .status (some (statusFrame w)) } := by
    rw [placeStatus, placeFrame_link, hw]
    rfl
  refine ⟨placeStatus false w, flagBits w, exec_unseen (fun h => by cases h) heffect (hw ▸ readsAs_placeStatus s t _), ?_, ?_, ?_,
    ?_, fun i => ?_, fun i => ?_, fun htakes => ?_, fun hrefuses => ?_, ?_⟩
  · rw [State.sameButReports, placeStatus_unreported, hw]
  · rw [placeStatus_report, hw]
    exact hn
  · rw [placeStatus_report, hw]
  · rw [hlink]
    split <;> rfl
  · rw [placeStatus_flag, hw, hn]
    cases (s.streams.get i).flag <;> rfl
  · rw [flagBits_get, hw]
  · rw [hlink, (refusesPlacement_eq_false_iff s).2 htakes, ← hframe]
    rfl
  · rw [hlink, if_pos (Bool.of_not_eq_false fun h => hrefuses ((refusesPlacement_eq_false_iff s).1 h))]
  · rw [placeStatus_supply, hw]
    simp only [markAfterPlacement, hn]
    split <;> rfl

end Sys2Proof.Machine

namespace Sys2Proof.Machine

/-! Queries and ALERT SEEN (O25, O41, O42). -/

/-! ## The query service (R174) -/

theorem serveQuery_of_idle {s : State} (hconfigured : s.recognition ≠ []) (hidle : s.report.query.busy = none) (answer : Reply)
    (effected : State) : serveQuery answer effected s = sendReply answer effected := by
  simp [serveQuery, hconfigured, hidle]

theorem serveQuery_of_busy {s : State} (hconfigured : s.recognition ≠ []) {r : Reply} (hbusy : s.report.query.busy = some r)
    (answer : Reply) (effected : State) : serveQuery answer effected s =
      { s with report.query.refused := min (s.report.query.refused + 1) 65535 } := by
  simp only [serveQuery, List.isEmpty_iff, hconfigured, if_false, hbusy]
  rfl

theorem dataReply_eq {bodies : List (List Word16)} {body : List Word16} {more : List (List Word16)} (h : body :: more = bodies) :
    dataReply bodies = ⟨.data, more.length + 1, body :: more⟩ := by
  subst h
  rfl

/-- The reply of an idle service in LISTEN or under the quiet mark is refused and lost. -/
theorem sendReply_of_idle_refusing {r : Reply} {body : List Word16} {more : List (List Word16)} {s : State}
    (hbodies : r.bodies = body :: more) (hidle : s.report.query.busy = none) (h : ¬ s.takesFrames) :
    sendReply r s = { s with draws := s.draws + 1 } := by
  rw [sendReply_of_refusing hbodies (Bool.of_not_eq_false fun htakes => h ((refusesPlacement_eq_false_iff s).1 htakes))]
  have hquery : ({ busy := none, refused := s.report.query.refused } : QueryService) = s.report.query := by rw [← hidle]
  exact congrArg (fun q => ({ s with draws := s.draws + 1, report.query := q } : State)) hquery

theorem takesFrames_iff_not (s : State) : ¬ s.takesFrames ↔ s.link.state = .listen ∨ s.link.quiet = true := by
  rw [State.takesFrames, not_and_or, not_not, Bool.not_eq_false]

/-! ## Arguments -/

theorem slotOfArgument_of_other {v : Word16} (h₁ : v ≠ 1) (h₂ : v ≠ 2) : slotOfArgument v = none := by
  simp only [slotOfArgument, if_neg h₁, if_neg h₂]

theorem streamOfArgument_of_other {v : Word16} (h : v.toNat = 0 ∨ 7 < v.toNat) : streamOfArgument v = none := by
  unfold streamOfArgument
  split
  case h_8 => rfl
  all_goals omega

/-- A query in a busy service is refused, whatever it asks. -/
theorem query_of_busy {s : State} (hconfigured : s.recognition ≠ []) {r : Reply} (hbusy : s.report.query.busy = some r) (v : Word16) :
    let refused := { s with report.query.refused := min (s.report.query.refused + 1) 65535 }
    queryReadCounters s = refused ∧ queryReadException s = refused ∧ queryReleaseException s = refused ∧
      queryReadCapture v s = refused ∧ queryReleaseCapture v s = refused ∧ queryReadStreamCounts v s = refused := by
  have hserve := serveQuery_of_busy hconfigured hbusy
  refine ⟨hserve _ _, ?_, hserve _ _, ?_, ?_, ?_⟩
  · unfold queryReadException
    split <;> exact hserve _ _
  · unfold queryReadCapture
    split
    · exact hserve _ _
    · split <;> exact hserve _ _
  · unfold queryReleaseCapture
    split <;> exact hserve _ _
  · unfold queryReadStreamCounts
    split <;> exact hserve _ _

/-- Settles O41. -/
theorem queriesAreServedOrRefused : Obligations.QueriesAreServedOrRefused := by
  unfold Obligations.QueriesAreServedOrRefused
  intro s t c hconfigured
  obtain ⟨w, hw⟩ : ∃ w : State, w = { s with now := t } := ⟨_, rfl⟩
  have hconfigured' : w.recognition ≠ [] := by rw [hw]; exact hconfigured
  refine ⟨fun code body more hasks hidle => ?_, fun released hrelease hidle => ?_, fun r hbusy hasks => ?_⟩
  · have hserved : c ≠ .powerOnReset ∧ afterEffect c s = serveQuery ⟨code, more.length + 1, body :: more⟩ w w := by
      rw [hw]
      rcases hasks with ⟨k, rfl, rfl, rfl, hbody⟩ | ⟨v, i, r, rfl, rfl, rfl, hmem, hbody⟩ |
        ⟨a, m, n, pre, limit, further, rfl, hheld, rfl, hbody⟩ | ⟨role, m, index, raw, further, number, rfl, hheld, rfl, hmem, hbody⟩ |
        ⟨rfl, hempty, rfl, rfl, rfl⟩ | ⟨v, k, r, hslot, rfl, rfl, rfl, hbody⟩ | ⟨rfl, hempty, rfl, rfl, rfl⟩ |
        ⟨rfl, hempty, rfl, rfl, rfl⟩ | ⟨v, hc, h₁, h₂, rfl, rfl, rfl⟩ | ⟨v, rfl, hv, rfl, rfl, rfl⟩
      · exact ⟨(fun h => by cases h), by rw [← dataReply_eq hbody]; rfl⟩
      · refine ⟨(fun h => by cases h), ?_⟩
        have hstream : streamOfArgument v = some i := by
          simp only [List.mem_cons, Prod.mk.injEq, List.not_mem_nil, or_false] at hmem
          rcases hmem with ⟨rfl, rfl⟩ | ⟨rfl, rfl⟩ | ⟨rfl, rfl⟩ | ⟨rfl, rfl⟩ | ⟨rfl, rfl⟩ | ⟨rfl, rfl⟩ | ⟨rfl, rfl⟩ <;> rfl
        rw [← dataReply_eq hbody]
        simp only [afterEffect, commandTime, commandEffect, queryReadStreamCounts, hstream]
        rfl
      · refine ⟨(fun h => by cases h), ?_⟩
        rw [← dataReply_eq hbody]
        simp only [afterEffect, commandTime, commandEffect, queryReadException, hheld, exceptionBodies]
        cases a <;> rfl
      · refine ⟨(fun h => by cases h), ?_⟩
        have hnumber : BitVec.ofNat 4 role.number = number := by
          simp only [List.mem_cons, Prod.mk.injEq, List.not_mem_nil, or_false] at hmem
          rcases hmem with ⟨rfl, rfl⟩ | ⟨rfl, rfl⟩ | ⟨rfl, rfl⟩ | ⟨rfl, rfl⟩ | ⟨rfl, rfl⟩ | ⟨rfl, rfl⟩ | ⟨rfl, rfl⟩ | ⟨rfl, rfl⟩ |
            ⟨rfl, rfl⟩ <;> rfl
        rw [← dataReply_eq hbody, ← hnumber]
        simp only [afterEffect, commandTime, commandEffect, queryReadException, hheld, exceptionBodies]
        rfl
      · refine ⟨(fun h => by cases h), ?_⟩
        simp only [afterEffect, commandTime, commandEffect, queryReadException, hempty]
        rfl
      · refine ⟨(fun h => by cases h), ?_⟩
        rw [← dataReply_eq hbody]
        rcases hslot with ⟨rfl, hslot⟩ | ⟨rfl, hslot⟩
        · have harg : slotOfArgument 1 = some .one := rfl
          simp only [afterEffect, commandTime, commandEffect, queryReadCapture, harg, State.slot, hslot]
          rfl
        · have harg : slotOfArgument 2 = some .two := rfl
          simp only [afterEffect, commandTime, commandEffect, queryReadCapture, harg, State.slot, hslot]
          rfl
      · refine ⟨(fun h => by cases h), ?_⟩
        have harg : slotOfArgument 1 = some .one := rfl
        simp only [afterEffect, commandTime, commandEffect, queryReadCapture, harg, State.slot, hempty]
        rfl
      · refine ⟨(fun h => by cases h), ?_⟩
        have harg : slotOfArgument 2 = some .two := rfl
        simp only [afterEffect, commandTime, commandEffect, queryReadCapture, harg, State.slot, hempty]
        rfl
      · have harg := slotOfArgument_of_other h₁ h₂
        rcases hc with rfl | rfl
        · refine ⟨(fun h => by cases h), ?_⟩
          simp only [afterEffect, commandTime, commandEffect, queryReadCapture, harg]
          rfl
        · refine ⟨(fun h => by cases h), ?_⟩
          simp only [afterEffect, commandTime, commandEffect, queryReleaseCapture, harg]
          rfl
      · refine ⟨(fun h => by cases h), ?_⟩
        simp only [afterEffect, commandTime, commandEffect, queryReadStreamCounts, streamOfArgument_of_other hv]
        rfl
    obtain ⟨hc, hserved⟩ := hserved
    have hidle' : w.report.query.busy = none := by rw [hw]; exact hidle
    rw [serveQuery_of_idle hconfigured' hidle'] at hserved
    refine ⟨fun hlost => ?_, fun htakes => ?_⟩
    · have hrefuses : ¬ w.takesFrames := (takesFrames_iff_not w).2 (by rw [hw]; exact hlost)
      rw [sendReply_of_idle_refusing rfl hidle' hrefuses, hw] at hserved
      exact exec_unseen hc hserved ⟨rfl, flagRaised_same fun _ => rfl, rfl, fun _ => rfl, rfl, fun _ => rfl, marksQuiet_same rfl⟩
    · have htaken : refusesPlacement false w = false := (refusesPlacement_eq_false_iff w).2 (by rw [hw]; exact htakes)
      have hfirst : more.length + 1 - more.length = 1 := by omega
      rw [sendReply_of_taking rfl htaken, hfirst, hw] at hserved
      exact exec_unseen hc hserved ⟨rfl, flagRaised_same fun _ => rfl, rfl, fun _ => rfl, rfl, fun _ => rfl, marksQuiet_same rfl⟩
  · have hserved : c ≠ .powerOnReset ∧ afterEffect c s = serveQuery ⟨.released, 1, [[]]⟩ released w := by
      rw [hw]
      rcases hrelease with ⟨rfl, rfl⟩ | ⟨rfl, rfl⟩ | ⟨rfl, rfl⟩
      · exact ⟨(fun h => by cases h), rfl⟩
      · exact ⟨(fun h => by cases h), rfl⟩
      · exact ⟨(fun h => by cases h), rfl⟩
    obtain ⟨hc, hserved⟩ := hserved
    have hreleased : released.report.query = s.report.query ∧ released.link = s.link ∧ released.draws = s.draws := by
      rcases hrelease with ⟨-, rfl⟩ | ⟨-, rfl⟩ | ⟨-, rfl⟩ <;> exact ⟨rfl, rfl, rfl⟩
    obtain ⟨hquery, hlink, hdraws⟩ := hreleased
    rw [serveQuery_of_idle hconfigured' (by rw [hw]; exact hidle)] at hserved
    have hmarks : marksQuiet s (sendReply ⟨.released, 1, [[]]⟩ released) = false := marksQuiet_same (by simp [hlink])
    refine ⟨settle s (sendReply ⟨.released, 1, [[]]⟩ released), by rw [exec_eq_settle hc, hserved], fun hlost => ?_,
      fun htakes => ?_⟩
    · have hrefuses : ¬ released.takesFrames := (takesFrames_iff_not released).2 (by rw [hlink]; exact hlost)
      rw [State.sameButReports, settle_unreported _ _ hmarks,
        sendReply_of_idle_refusing rfl (by rw [hquery]; exact hidle) hrefuses]
      rfl
    · have htaken : refusesPlacement false released = false :=
        (refusesPlacement_eq_false_iff released).2 (by rw [State.takesFrames, hlink]; exact htakes)
      rw [State.sameButReports, settle_unreported _ _ hmarks, sendReply_of_taking rfl htaken, hdraws, hquery]
      rfl
  · have hbusy' : w.report.query.busy = some r := by rw [hw]; exact hbusy
    obtain ⟨hcounters, hexception, hrelease, hrest⟩ := query_of_busy hconfigured' hbusy' 0
    have hrefused : c ≠ .powerOnReset ∧
        afterEffect c s = { w with report.query.refused := min (w.report.query.refused + 1) 65535 } := by
      rw [hw] at hcounters hexception hrelease ⊢
      rcases hasks with rfl | rfl | rfl | ⟨v, rfl | rfl | rfl⟩
      · exact ⟨(fun h => by cases h), hcounters⟩
      · exact ⟨(fun h => by cases h), hexception⟩
      · exact ⟨(fun h => by cases h), hrelease⟩
      all_goals
        obtain ⟨-, -, -, hread, hfree, hcounts⟩ := query_of_busy hconfigured' hbusy' v
        rw [hw] at hread hfree hcounts
      · exact ⟨(fun h => by cases h), hread⟩
      · exact ⟨(fun h => by cases h), hfree⟩
      · exact ⟨(fun h => by cases h), hcounts⟩
    rw [hw] at hrefused
    exact exec_unseen hrefused.1 hrefused.2
      ⟨rfl, flagRaised_same fun _ => rfl, rfl, fun _ => rfl, rfl, fun _ => rfl, marksQuiet_same rfl⟩

/-! ## The hand-on of a decode (R28, R46) -/

/-- What the end of an event compares with the machine before it does not depend on the intake queue. -/
theorem settle_before_intake (s v : State) (rest : List IntakeEntry) : settle { s with intake := rest } v = settle s v := rfl

/-- The decode of an entry that is no stream's frame ends with its hand-on: no hold and no window waits for it. -/
theorem decodeHead_of_query {s : State} {e : IntakeEntry} {rest : List IntakeEntry} (hhead : s.headIs e rest .query) :
    decodeHead s = handQuery (payloadWord e.payload 1) (payloadWord e.payload 2) { s with intake := rest } := by
  obtain ⟨hintake, hrole, hlength⟩ := hhead
  simp [decodeHead, hintake, treatEntry, hlength, hrole, failingField, handEntry, countClamp, closeHolds, closeWindow]

theorem decodeHead_of_alertSeen {s : State} {e : IntakeEntry} {rest : List IntakeEntry} (hhead : s.headIs e rest .alertSeen) :
    decodeHead s = noteAlert (payloadWord e.payload 1) { s with intake := rest } := by
  obtain ⟨hintake, hrole, hlength⟩ := hhead
  simp [decodeHead, hintake, treatEntry, hlength, hrole, failingField, handEntry, countClamp, closeHolds, closeWindow]

theorem handQuery_of_unknown {kind : Word16} (h : kind.toNat = 0 ∨ 6 < kind.toNat) (argument : Word16) (s : State) :
    handQuery kind argument s = serveQuery (bareReply .unknown) s s := by
  unfold handQuery
  split
  case h_7 => rfl
  all_goals omega

/-- Settles O25: the decode is the command of the query's kind on the rest of the queue. -/
theorem queryEntriesAreHandedOn : Obligations.QueryEntriesAreHandedOn := by
  unfold Obligations.QueryEntriesAreHandedOn
  intro s t e rest
  have heffect (hhead : s.headIs e rest .query) : afterEffect (.decode t) s =
      handQuery (payloadWord e.payload 1) (payloadWord e.payload 2) { s with now := t, intake := rest } :=
    decodeHead_of_query (s := { s with now := t }) hhead
  have hhanded {c : Instr} (hc : c ≠ .powerOnReset)
      (h : afterEffect (.decode t) s = afterEffect c { s with intake := rest }) :
      exec (.decode t) s = exec c { s with intake := rest } := by
    rw [exec_eq_settle (fun h => by cases h), exec_eq_settle hc, h]
    exact congrArg Host.Outcome.next (settle_before_intake s _ rest).symm
  obtain ⟨w, hw⟩ : ∃ w : State, w = { s with now := t, intake := rest } := ⟨_, rfl⟩
  refine ⟨fun hhead => ⟨fun hkind => ?_, fun hkind => ?_, fun hkind => ?_, fun hkind => ?_, fun hkind => ?_, fun hkind => ?_⟩,
    fun hhead hkind hconfigured hlisten hquiet => ⟨fun hidle => ?_, fun r hbusy => ?_⟩,
    fun hhead hkind hconfigured hlost hidle => ?_, fun hhead => 
      hhanded (fun h => by cases h) (decodeHead_of_alertSeen (s := { s with now := t }) hhead)⟩
  iterate 6
    · refine hhanded (fun h => by cases h) ((heffect hhead).trans ?_)
      rw [hkind]
      rfl
  all_goals
    have heffect' := heffect hhead
    rw [handQuery_of_unknown hkind, ← hw] at heffect'
    have hconfigured' : w.recognition ≠ [] := by rw [hw]; exact hconfigured
  · have htaken : refusesPlacement false w = false := (refusesPlacement_eq_false_iff w).2 (by rw [hw]; exact ⟨hlisten, hquiet⟩)
    rw [serveQuery_of_idle hconfigured' (by rw [hw]; exact hidle), sendReply_of_taking rfl htaken, hw] at heffect'
    exact exec_unseen (fun h => by cases h) heffect'
      ⟨rfl, flagRaised_same fun _ => rfl, rfl, fun _ => rfl, rfl, fun _ => rfl, marksQuiet_same rfl⟩
  · rw [serveQuery_of_busy hconfigured' (r := r) (by rw [hw]; exact hbusy), hw] at heffect'
    exact exec_unseen (fun h => by cases h) heffect'
      ⟨rfl, flagRaised_same fun _ => rfl, rfl, fun _ => rfl, rfl, fun _ => rfl, marksQuiet_same rfl⟩
  · rw [serveQuery_of_idle hconfigured' (by rw [hw]; exact hidle), sendReply_of_idle_refusing rfl (by rw [hw]; exact hidle)
      ((takesFrames_iff_not w).2 (by rw [hw]; exact hlost)), hw] at heffect'
    exact exec_unseen (fun h => by cases h) heffect'
      ⟨rfl, flagRaised_same fun _ => rfl, rfl, fun _ => rfl, rfl, fun _ => rfl, marksQuiet_same rfl⟩

/-! ## ALERT SEEN (R170, R171) -/

theorem alertOfNumber_eq_some_iff (n : Nat) (i : AlertId) : alertOfNumber n = some i ↔ n = i.number := by
  constructor
  · intro h
    exact (by simpa using List.find?_some h : i.number = n).symm
  · rintro rfl
    cases i <;> rfl

theorem AlertId.number_injective {i j : AlertId} (h : i.number = j.number) : i = j :=
  Option.some.inj (((alertOfNumber_eq_some_iff _ i).2 rfl).symm.trans ((alertOfNumber_eq_some_iff _ j).2 h))

theorem noteAlert_of_number {v : Word16} {i : AlertId} (h : v.toNat = i.number) (s : State) : noteAlert v s =
    { s with report.alerts := PerAlert.of fun j =>
        if j = i ∧ s.report.alerts.get i = .raised then .noted else s.report.alerts.get j } := by
  simp only [noteAlert, (alertOfNumber_eq_some_iff _ i).2 h]

theorem noteAlert_of_unraised {v : Word16} {s : State} (h : ∀ i : AlertId, v.toNat = i.number → s.report.alerts.get i ≠ .raised) :
    noteAlert v s = s := by
  cases hnumber : alertOfNumber v.toNat with
  | none => simp only [noteAlert, hnumber]
  | some i =>
    rw [noteAlert_of_number ((alertOfNumber_eq_some_iff _ i).1 hnumber)]
    have hraised := h i ((alertOfNumber_eq_some_iff _ i).1 hnumber)
    simp [hraised]

/-- One alert at most is the lead that R171 gives. -/
theorem PerAlert.ledBy_unique {alerts : PerAlert AlertState} {p : Params} {l m : Option AlertId} (hl : alerts.ledBy p l)
    (hm : alerts.ledBy p m) : l = m := by
  cases l with
  | none =>
    cases m with
    | none => rfl
    | some j =>
      obtain ⟨hraised, hreaches, -⟩ := hm.2 j rfl
      exact absurd (hl.1 rfl j hraised) (Nat.not_lt.2 hreaches)
  | some i =>
    obtain ⟨hraised, hreaches, hbest⟩ := hl.2 i rfl
    cases m with
    | none => exact absurd (hm.1 rfl i hraised) (Nat.not_lt.2 hreaches)
    | some j =>
      obtain ⟨hraised', -, hbest'⟩ := hm.2 j rfl
      obtain ⟨hrank, hnumber⟩ := hbest j hraised'
      obtain ⟨hrank', hnumber'⟩ := hbest' i hraised
      have hsame := Nat.le_antisymm hrank hrank'
      exact congrArg some (AlertId.number_injective (Nat.le_antisymm (hnumber hsame) (hnumber' hsame.symm)))

/-- An alert that leads goes on leading when another is no longer RAISED. -/
theorem PerAlert.ledBy_of_fewer {alerts fewer : PerAlert AlertState} {p : Params} {l : Option AlertId} (h : alerts.ledBy p l)
    (hkept : ∀ i, l = some i → fewer.get i = .raised) (hfewer : ∀ j, fewer.get j = .raised → alerts.get j = .raised) :
    fewer.ledBy p l := by
  refine ⟨fun hnone j hj => h.1 hnone j (hfewer j hj), fun i hi => ?_⟩
  obtain ⟨-, hreaches, hbest⟩ := h.2 i hi
  exact ⟨hkept i hi, hreaches, fun j hj => hbest j (hfewer j hj)⟩

/-- The link controller after an event that neither marks the link quiet, reports a change nor moves the lead. -/
theorem settle_link_of_leading {s v : State} (hmarks : marksQuiet s v = false) (hchange : reportsChange s v = false)
    (hlead : (settle s v).report.leading = v.report.leading) : (settle s v).link = v.link := by
  have hlink : (settle s v).link = (leadSettled s v).link := by
    rw [settle_eq, hmarks, if_neg Bool.false_ne_true, reportChanges_eq, reportsChange_alertsSettled, hchange]
    rfl
  rw [hlink, leadSettled_alert_kept hlead]

/-- Settles O42. -/
theorem alertSeenNotesARaisedAlert : Obligations.AlertSeenNotesARaisedAlert := by
  unfold Obligations.AlertSeenNotesARaisedAlert
  intro s t n p hp hfollow
  have hled : s.report.alerts.ledBy p s.report.leading := (hfollow.2 p hp).2
  refine ⟨fun i hi hraised => ?_, fun hnone => ?_⟩
  · obtain ⟨v, hv⟩ : ∃ v, v = noteAlert n { s with now := t } := ⟨_, rfl⟩
    obtain ⟨u, hu⟩ : ∃ u, u = settle s v := ⟨_, rfl⟩
    have hnoted : v = { s with now := t, report.alerts := PerAlert.of fun j => if j = i then .noted else s.report.alerts.get j } := by
      rw [hv, noteAlert_of_number (s := { s with now := t }) hi]
      simp [hraised]
    have hpar : v.par = p := by simp [hnoted, State.par, hp]
    have hweighed : weighAlerts s v = v := weighAlerts_same s v fun j => by rw [hnoted]; cases j <;> rfl
    have halerts : u.report.alerts = v.report.alerts := by rw [hu, settle_alerts, hweighed]
    have hget (j : AlertId) : u.report.alerts.get j = if j = i then .noted else s.report.alerts.get j := by
      rw [halerts, hnoted, PerAlert.get_of]
    have hmoved : s.report.alerts ≠ v.report.alerts := fun h => by
      have hi := hget i
      rw [halerts, ← h, hraised, if_pos rfl] at hi
      cases hi
    have hleading : u.report.leading = leadingAlert p u.report.alerts := by
      rw [halerts, hu, settle_leading, hweighed, if_neg hmoved, hpar]
    have hledBy : u.report.alerts.ledBy p u.report.leading := hleading ▸ leadingAlert_ledBy p u.report.alerts
    have hother : u.report.leading ≠ some i := fun h => by
      have hleads := (hledBy.2 i h).1
      rw [hget, if_pos rfl] at hleads
      cases hleads
    have hmarks : marksQuiet s v = false := marksQuiet_same (by rw [hnoted])
    have hchange : reportsChange s v = false := by
      rw [reportsChange, flagRaised_same fun j => by rw [hnoted], hnoted]
      simp [reported]
    refine ⟨u, by rw [exec_eq_settle (fun h => by cases h), hu, hv]; rfl, ?_, by rw [hget, if_pos rfl],
      fun j hj => by rw [hget, if_neg hj], hledBy, hother, ?_, fun hlead => ?_, fun hlead htakes => ?_⟩
    · rw [State.sameButReports, hu, settle_unreported s v hmarks, hnoted]
      rfl
    · rw [hu, settle_placement, hchange, hnoted]
      rfl
    · have hsame : u.report.leading = s.report.leading := by
        refine PerAlert.ledBy_unique hledBy (PerAlert.ledBy_of_fewer hled (fun j hj => ?_) fun j hj => ?_)
        · rw [hget, if_neg (fun h : j = i => hlead (h ▸ hj))]
          exact (hled.2 j hj).1
        · rw [hget] at hj
          split at hj
          · cases hj
          · exact hj
      refine ⟨hsame, ?_⟩
      rw [hu, settle_link_of_leading hmarks hchange (by rw [← hu, hsame, hnoted]), hnoted]
    · obtain ⟨hlink, -⟩ := settle_sameLink hmarks
      have htaken : (settle s v).takesFrames := by
        rw [State.takesFrames, hlink, hnoted]
        exact htakes
      have hplaced := settle_alert_placed (before := s) (s := v) (by rw [← hu, hnoted, hlead]; exact hother) htaken
      rw [hweighed, ← hu] at hplaced
      have hdraws : v.draws = s.draws := by rw [hnoted]
      refine hplaced.trans (congrArg some ?_)
      simp only [alertFrame, hpar, hdraws, ← halerts]
      rfl
  · exact exec_unseen (fun h => by cases h) (noteAlert_of_unraised (s := { s with now := t }) hnone)
      ⟨rfl, flagRaised_same fun _ => rfl, rfl, fun _ => rfl, rfl, fun _ => rfl, marksQuiet_same rfl⟩

end Sys2Proof.Machine

namespace Sys2Proof.Machine

/-! The supply events (O38, O39). -/

/-! ## Shared: the records of the streams, and an entry that makes the link quiet -/

theorem settle_stream_unflagged (before s : State) (i : StreamId) :
    ((settle before s).streams.get i).unflagged = (s.streams.get i).unflagged := by
  rw [settle_streams]
  split <;> rfl

/-- An event that marks the link quiet and reports a change leaves its STATUS in the mailbox: the quiet phase goes on (R158). -/
theorem settle_link_of_quietEntry {before s : State} (hmarks : marksQuiet before s = true) (hchange : reportsChange before s = true)
    (hactive : s.link.state = .active) (hmode : s.modes.mode ≠ .safe) :
    ∃ v, v = reportChanges true before (alertsSettled before s) ∧ sameLink v s ∧ (settle before s).link = v.link ∧
      v.link.mailboxes.status.isSome = true := by
  obtain ⟨w, hw⟩ : ∃ w, w = alertsSettled before s := ⟨_, rfl⟩
  obtain ⟨v, hv⟩ : ∃ v, v = reportChanges true before w := ⟨_, rfl⟩
  have hsettled : sameLink w s := by rw [hw]; exact sameLink_alertsSettled before s
  have hsame : sameLink v s := by
    rw [hv]
    exact sameLink_trans (sameLink_reportChanges true before w) hsettled
  have hplaced : v = placeStatus true w := by
    rw [hv, reportChanges_eq, hw, reportsChange_alertsSettled, if_pos hchange]
  have hstate : w.link.state = .active := by rw [hsettled.1]; exact hactive
  have htaken : refusesPlacement true (numberStatus w) = false := by
    simp [refusesPlacement, hstate]
  have hstatus : v.link.mailboxes.get .status = some (statusFrame w) := by
    rw [hplaced, placeStatus, placeFrame_link, htaken]
    rfl
  have hover : quietPhaseOver v = false := by
    have hwell : parameterFailure v = false := by
      have hmode' : v.modes.mode ≠ .safe := by simpa [hplaced, hw] using hmode
      simp [parameterFailure, hmode']
    have hopen : OwnKind.status ∈ openMail v := by
      rw [mem_openMail_iff]
      exact ⟨by rw [hstatus]; exact Option.some_ne_none _, by simp [gateOpen, hwell]⟩
    have hmail : (openMail v).isEmpty = false := by
      rw [Bool.eq_false_iff, ne_eq, List.isEmpty_iff]
      exact List.ne_nil_of_mem hopen
    simp [quietPhaseOver, hmail]
  refine ⟨v, by rw [hv, hw], hsame, ?_, Option.isSome_iff_exists.2 ⟨_, hstatus⟩⟩
  rw [settle_eq, if_pos hmarks, ← hw, ← hv, endQuietPhase_link, hover]
  rfl

/-! ## The low event (R138, R140) -/

theorem takeLowEvent_of_due {s : State} {d : Time} (hok : s.supply.judgement = .ok) (hd : s.supply.lowTimer = some d)
    (hdue : reached s.now d = true) : takeLowEvent s = tellLow (judgeLow s) :=
  if_pos ⟨hok, by rw [hd]; exact hdue⟩

theorem tellLow_of_dozing {s : State} (h : s.modes.mode = .dozing) : tellLow s = enterMode .supplyHalted .none s := by
  simp only [tellLow, h]

theorem tellLow_of_moving {s : State} (h : s.modes.mode = .driving ∨ s.modes.mode = .fading) :
    tellLow s = enterMode .supplyDown .none s := by
  rcases h with h | h <;> simp only [tellLow, h]

theorem tellLow_of_supplyDown {s : State} (h : s.modes.mode = .supplyDown) :
    tellLow s = { s with modes.restorePending := false } := by
  simp only [tellLow, h]

theorem tellLow_of_stopped {s : State} (h : s.modes.mode = .start ∨ s.modes.mode = .supplyHalted ∨ s.modes.mode = .safe) :
    tellLow s = s := by
  rcases h with h | h | h <;> simp only [tellLow, h]

/-- The machine as SUPPLY DOWN's trigger finds it: an IDLE engine's SUPPLY cells stand at the previous commands (R61). -/
def supplyDownEntered (s : State) : State :=
  if s.engine.flight.isNone then setSupplyCeilings (writeMode .supplyDown .none s) else writeMode .supplyDown .none s

theorem enterMode_supplyDown_eq (s : State) :
    enterMode .supplyDown .none s = requestPass (takeTrigger .supplyDown (supplyDownEntered s)) := enterMode_supplyDown .none s

theorem supplyDownEntered_eq (s : State) : supplyDownEntered s =
    { s with
      modes := { s.modes with mode := .supplyDown, cause := .none }
      table.supply := if s.engine.flight.isNone then s.engine.previous.map fun v => some (symmetric (magnitude v))
        else s.table.supply } := by
  rw [supplyDownEntered]
  split
  · simp [setSupplyCeilings, writeMode]
  · simp [writeMode]

theorem requestPass_engine_frame (s : State) : (requestPass s).engine.previous = s.engine.previous ∧
    (requestPass s).engine.deferred = s.engine.deferred ∧ (requestPass s).engine.passNumber = s.engine.passNumber ∧
    (requestPass s).engine.result = s.engine.result := by
  unfold requestPass
  repeat' split
  all_goals exact ⟨rfl, rfl, rfl, rfl⟩

/-- The low event leaves the regulators and the previous commands alone. -/
theorem tellLow_keeps (s : State) : (tellLow s).grip = s.grip ∧ (tellLow s).engine.previous = s.engine.previous := by
  have hdown : (enterMode .supplyDown .none s).grip = s.grip ∧
      (enterMode .supplyDown .none s).engine.previous = s.engine.previous := by
    rw [enterMode_supplyDown_eq, supplyDownEntered_eq, (requestPass_engine_frame _).1]
    simp
  unfold tellLow
  split
  · obtain ⟨hengine, hgrip, -⟩ := enterMode_still_frame (new := .supplyHalted) .none s rfl
    rw [hengine, hgrip]
    exact ⟨rfl, rfl⟩
  · exact hdown
  · exact hdown
  all_goals exact ⟨rfl, rfl⟩

/-- Settles O38: one mode move, or none, after the judgement. -/
theorem lowEventHaltsOrRampsThePart : Obligations.LowEventHaltsOrRampsThePart := by
  unfold Obligations.LowEventHaltsOrRampsThePart
  intro s t d hok hd hdue
  obtain ⟨v, hv⟩ : ∃ v, v = judgeLow { s with now := t } := ⟨_, rfl⟩
  have heffect : afterEffect (.lowEvent t) s = tellLow v := by
    rw [hv]
    exact takeLowEvent_of_due (s := { s with now := t }) hok hd hdue
  obtain ⟨u, hu⟩ : ∃ u, u = settle s (tellLow v) := ⟨_, rfl⟩
  have hsupply : u.supply = v.supply := by
    rw [hu, settle_supply]
    have hlow : v.supply.judgement = .low := by rw [hv]; rfl
    simp [markAfterPlacement, hlow]
  obtain ⟨hgrip, hprevious⟩ := tellLow_keeps v
  have hkept : s.RequestKept v := by rw [hv]; exact .refl s
  have hvgrip : v.grip = s.grip := by rw [hv]; rfl
  have hmodes : v.modes = s.modes := by rw [hv]; rfl
  have hengine : v.engine = s.engine := by rw [hv]; rfl
  refine ⟨u, by rw [exec_eq_settle (fun h => by cases h), heffect, hu], by rw [hsupply, hv]; rfl, by rw [hsupply, hv]; rfl,
    by rw [hsupply, hv]; rfl, by rw [hsupply, hv]; rfl, ?_, by simp [hu, hv], by simp [hu, hv], by simp [hu, hv], by simp [hu, hv],
    by simp only [hu, settle_frame, hgrip, hvgrip], by simp [hu, hv], fun i => ?_, by simp [hu, hprevious, hengine],
    fun hdozing => ?_, fun hmoving => ?_, fun hdown => ?_,
    fun hstopped => ?_⟩
  · rw [hsupply, hv]
    simp [judgeLow, runWhile, Config.restoreDelay]
  · rw [hu, settle_stream_unflagged]
    simp [hv]
  · have hentry : tellLow v = enterMode .supplyHalted .none v := tellLow_of_dozing (by rw [hmodes]; exact hdozing)
    obtain ⟨hengine', -⟩ := enterMode_still_frame (new := .supplyHalted) .none v rfl
    rw [hentry] at hu
    refine ⟨by simp [hu], by simp [hu, hengine'], fun hactive hloud => ?_, ?_⟩
    · have hlink : (enterMode .supplyHalted .none v).link = { s.link with quiet := true } := by
        rw [enterMode_link, if_pos rfl, hv]
        rfl
      obtain ⟨w, -, hsame, hw, hstatus⟩ := settle_link_of_quietEntry (before := s) (s := enterMode .supplyHalted .none v)
        (by simp [marksQuiet, hlink, hloud]) (reportsChange_of_mode (by simp [hdozing])) (by rw [hlink]; exact hactive)
        (by simp)
      rw [← hu] at hw
      rw [hw]
      exact ⟨by rw [hsame.1, hlink], by rw [hsame.1, hlink]; exact hactive, hstatus⟩
    · exact waitingFilled_of_enterMode (new := .supplyHalted) (cause := .none) rfl hkept (hu ▸ requestKept_settle s _) (by rw [hv]; rfl)
        (by rw [hengine]) (by rw [hengine]) (by simp [hu]) (fun a => by simp [hu]) (by rw [hv]; rfl)
  · have hentry : tellLow v = requestPass (takeTrigger .supplyDown (supplyDownEntered v)) := by
      rw [tellLow_of_moving (by rw [hmodes]; exact hmoving), enterMode_supplyDown_eq]
    obtain ⟨w, hw⟩ : ∃ w, w = supplyDownEntered v := ⟨_, rfl⟩
    rw [hentry, ← hw] at hu
    rw [supplyDownEntered_eq] at hw
    have hwengine : w.engine = s.engine := by rw [hw]; exact hengine
    obtain ⟨y, hy⟩ : ∃ y, y = takeTrigger .supplyDown w := ⟨_, rfl⟩
    rw [← hy] at hu
    have hyengine : y.engine = s.engine := by simp [hy, hwengine]
    have hyruns : y.modes.mode.runsPasses = true := by
      have hmode : y.modes.mode = .supplyDown := by simp [hy, hw]
      rw [hmode]
      rfl
    refine ⟨by simp [hu, hy, hw], by simp [hu, hy, hw, hv], ?_, fun hidle => ⟨fun a => ?_, ?_⟩, fun sn hflight => ⟨?_, ?_⟩⟩
    · refine triggerTaken_of_takeTrigger (v := w) (by rw [hw, hv]; rfl) (by rw [hw]; exact hkept) ?_ (by rw [hw, hv]; rfl)
        (by rw [hwengine]) (by simp [hu, hy]) (by simp [hu, hy]) (fun _ => by rw [hwengine]) (by simp [hu, hy])
        (by rw [hw, hv]; rfl)
      have hrequested : y.RequestKept (requestPass y) := by simp [State.RequestKept, State.SlotsKept]
      rw [← hy, hu]
      exact hrequested.trans (requestKept_settle s (requestPass y))
    · have hrow : u.table.supply = s.engine.previous.map fun m => some (symmetric (magnitude m)) := by
        simp [hu, hy, hw, hengine, hidle]
      rw [hrow, PerAxle.get_map]
      rfl
    · rw [requestPass_of_idle hyruns (by rw [hyengine]; exact hidle)] at hu
      exact ⟨takeSnapshot y, by simp [hu, startPass], by simp [takeSnapshot, hy, hw], by simp [takeSnapshot, hu, startPass]⟩
    · simp [hu, hy, hw, hv, hflight]
    · rw [hu]
      simp only [settle_frame, requestPass_of_flying hyruns (by rw [hyengine]; exact hflight), hyengine]
  · rw [tellLow_of_supplyDown (by rw [hmodes]; exact hdown)] at hu
    exact ⟨by simp [hu, hmodes], by simp [hu, hengine], hkept.trans (hu ▸ requestKept_settle s _)⟩
  · rw [tellLow_of_stopped (by rw [hmodes]; exact hstopped)] at hu
    exact ⟨by simp [hu, hmodes], by simp [hu, hengine], by simp [hu, hv], by simp [hu, hv],
      hkept.trans (hu ▸ requestKept_settle s v)⟩

/-! ## The warm restart (R47, R145, R148, R169, R170) -/

theorem warmRestart_blocks (s : State) :
    (warmRestart s).modes = { mode := .dozing, cause := .none, restorePending := false } ∧
      (warmRestart s).engine = s.engine.restarted ∧ (warmRestart s).grip = ⟨.reset, .reset⟩ ∧
      (warmRestart s).issuer = { s.issuer with inService := ⟨false, false⟩ } ∧ (warmRestart s).axles = ⟨.reset, .reset⟩ ∧
      (warmRestart s).streams = s.streams.map (·.restarted) ∧ (warmRestart s).intake = [] ∧
      (warmRestart s).table = acceptedTable s.par := by
  have hpar : (fillRequest s).par = s.par := by simp [State.par]
  simp only [warmRestart, restartReport, restartAlerts, restartLink, leaveListen, restartBlocks, fillRequest_frame, hpar, and_self]

theorem warmRestart_link (s : State) : (warmRestart s).link =
    { s.link with
      quiet := false, state := if s.link.state = .listen then .active else s.link.state, bus := s.link.busReleased,
      mailboxes := noMail, transmitting := none } := by
  simp only [warmRestart, restartReport, restartAlerts, restartLink, leaveListen, restartBlocks, fillRequest_frame]

theorem raiseAlert_raised (rank : Nat) : raiseAlert rank (raiseAlert rank .clear) = raiseAlert rank .clear := by
  by_cases h : rank = 0 <;> simp [raiseAlert, h]

/-- The alerts that a warm restart leaves are weighed already: the event moves none of them. -/
theorem settle_warmRestart_alerts {s v : State} (hflag : v.supply.flag = s.supply.flag) (i : AlertId) :
    (settle s (warmRestart v)).report.alerts.get i = (warmRestart v).report.alerts.get i := by
  have hpar : (warmRestart v).par = v.par := by simp [State.par]
  have hrestart := warmRestart_alerts v i
  rw [settle_alerts]
  simp only [weighAlerts, PerAlert.get_of, moveAlert, hpar]
  split
  · rfl
  next hmoved =>
    have hother : ¬ (i = .supplyLow ∧ v.supply.flag = true) := by
      rintro ⟨rfl, -⟩
      exact hmoved (by simp [alertCondition, hflag])
    rw [if_neg hother] at hrestart
    rw [hrestart]
    split
    · exact raiseAlert_raised _
    · rfl

/-- After a warm restart no condition holds but SUPPLY LOW's and EXCEPTION HELD's. -/
theorem alertCondition_warmRestart {v : State} {i : AlertId} (h : i ≠ .supplyLow) :
    alertCondition (warmRestart v) i = (decide (i = .exceptionHeld) && v.exception.isSome) := by
  obtain ⟨-, -, -, -, haxles, hstreams, -⟩ := warmRestart_blocks v
  have hdemand : (warmRestart v).streams.demand.state = .unheard := by rw [hstreams]; rfl
  have hreference : (warmRestart v).streams.reference.state = .unheard := by rw [hstreams]; rfl
  have hpower : (warmRestart v).report.powerRun = 0 := rfl
  have hlimiting : (warmRestart v).report.gripLimiting = false := rfl
  cases i <;> simp [alertCondition, haxles, hdemand, hreference, hpower, hlimiting, Supervisor.reset, StreamState.believed,
    Config.powerRunMax] at h ⊢

/-- A warm restart within an event: all but the alerts follows from the restart itself, and the alerts weighed after it stand. -/
theorem warmRestarted_settle {s v : State}
    (hstreams : ∀ i, (v.streams.get i).repeats = (s.streams.get i).repeats ∧
      (v.streams.get i).malformed = (s.streams.get i).malformed ∧ (v.streams.get i).window = (s.streams.get i).window)
    (hrecognition : v.recognition = s.recognition) (hlink : { v.link with mailboxes := noMail } = { s.link with mailboxes := noMail })
    (hfilters : v.filters = s.filters) (hparams : v.params = s.params) (hflag : v.supply.flag = s.supply.flag)
    (halerts : v.report.alerts = s.report.alerts) : s.WarmRestarted (settle s (warmRestart v)) := by
  obtain ⟨hmodes, hengine, hgrip, hissuer, haxles, hstream, hintake, htable⟩ := warmRestart_blocks v
  have hlink' := warmRestart_link v
  have hmarks : marksQuiet s (warmRestart v) = false := by simp [marksQuiet, hlink']
  obtain ⟨hsame, hmail⟩ := settle_sameLink hmarks
  obtain ⟨u, hu⟩ : ∃ u, u = settle s (warmRestart v) := ⟨_, rfl⟩
  rw [← hu, hlink'] at hsame hmail
  have hlinkOf {α : Type} (f : LinkController → α) (h : f { v.link with mailboxes := noMail } = f v.link)
      (h' : f { s.link with mailboxes := noMail } = f s.link) : f v.link = f s.link := by
    rw [← h, hlink, h']
  have hstate : v.link.state = s.link.state := hlinkOf (·.state) rfl rfl
  have hecho : v.link.echoCount = s.link.echoCount := hlinkOf (·.echoCount) rfl rfl
  have hclean : v.link.cleanRun = s.link.cleanRun := hlinkOf (·.cleanRun) rfl rfl
  have hconflicts : v.link.conflicts = s.link.conflicts := hlinkOf (·.conflicts) rfl rfl
  have hbus : v.link.busReleased = s.link.busReleased := hlinkOf (·.busReleased) rfl rfl
  have hbus' : s.link.busReleased = if s.link.transmitting = none then s.link.bus else .aborted := by
    cases h : s.link.transmitting <;> simp [LinkController.busReleased, h]
  have hreport : u.report.query = { busy := none, refused := 0 } ∧ u.report.powerRun = 0 ∧ u.report.gripLimiting = false := by
    simp only [hu, settle_report_frame]
    exact ⟨rfl, rfl, rfl⟩
  obtain ⟨hquery, hpower, hlimiting⟩ := hreport
  rw [← hu]
  refine ⟨by simp only [hu, settle_frame, hmodes], ?_, ?_, ?_, ?_, ?_, ?_, fun a => ?_, ?_, fun a => ?_, fun i => ?_, ?_, ?_, fun a => ?_,
    by rw [hsame], by rw [hsame]; simp only [hstate], by rw [hsame]; exact hecho, by rw [hsame]; exact hclean, by rw [hsame],
    by rw [hsame]; exact hbus.trans hbus', by rw [hsame]; exact hconflicts, hmail .frontCommand rfl, hmail .rearCommand rfl,
    hmail .splitReport rfl, hmail .reply rfl, ?_, ?_, hquery, hpower, hlimiting, ?_, fun i hi => ?_⟩
  · simp only [hu, settle_frame, hengine]; rfl
  · simp only [hu, settle_frame, hengine]; rfl
  · simp only [hu, settle_frame, hengine]; rfl
  · simp only [hu, settle_frame, hengine]; rfl
  · simp only [hu, settle_frame, hengine]; rfl
  · simp only [hu, settle_frame, hengine]; rfl
  · simp only [hu, settle_frame, hgrip]; cases a <;> rfl
  · simp only [hu, settle_frame, hissuer]
  · simp only [hu, settle_frame, haxles]; cases a <;> rfl
  · obtain ⟨hrepeats, hmalformed, hwindow⟩ := hstreams i
    rw [← hrepeats, ← hmalformed, ← hwindow, hu]
    simp only [settle_stream_frame, hstream, PerStream.get_map]
    exact ⟨rfl, rfl, rfl, rfl, rfl, rfl, rfl, rfl⟩
  · simp only [hu, settle_frame, hintake]
  · simp [hu, hrecognition]
  · simp only [hu, settle_frame, htable]; cases a <;> exact ⟨rfl, rfl, rfl, rfl, rfl⟩
  · simp [hu, hfilters]
  · simp [hu, hparams]
  · have halert := settle_warmRestart_alerts hflag .supplyLow
    rw [← hu, warmRestart_alerts, halerts, hflag] at halert
    refine halert.trans ?_
    cases hlow : s.supply.flag
    · have hcondition : alertCondition (warmRestart v) .supplyLow = false := by simp [alertCondition, hflag, hlow]
      simp [hcondition]
    · simp
      rfl
  · have hpar : v.par = s.par := by simp [State.par, hparams]
    have hexception : u.exception = v.exception := by simp [hu]
    rw [hu, settle_warmRestart_alerts hflag, ← hu, warmRestart_alerts, if_neg fun h => hi h.1, alertCondition_warmRestart hi, hpar, hexception]
    by_cases hheld : i = .exceptionHeld
    · subst hheld
      cases v.exception with
      | none => simp
      | some h =>
        by_cases hrank : s.par.ranks.exceptionHeld = 0
        · simp [raiseAlert, PerAlert.get, hrank]
        · simp [raiseAlert, PerAlert.get, hrank]
    · simp [hheld]

/-- A warm restart keeps the slots as the filling of a waiting request leaves them. -/
theorem requestKept_warmRestart (s : State) : (fillRequest s).RequestKept (warmRestart s) := ⟨rfl, rfl, rfl, rfl, rfl⟩

/-- A warm restart first fills a request that waits, from the machine as it was (R172, log entry 22). -/
theorem filled_of_warmRestart {s v u : State} (hs : s.RequestKept v) (hu : (warmRestart v).RequestKept u) (hpar : v.par = s.par) :
    (s.report.request = none → s.RequestKept u) ∧
      ∀ r, s.report.request = some r → s.report.Filled u.report s.par.captureMode (captureOf r v) := by
  have hkept := (requestKept_warmRestart v).trans hu
  refine ⟨fun hnone => ?_, fun r hr => ?_⟩
  · rw [fillRequest_of_none (hs.1.trans hnone)] at hkept
    exact hs.trans hkept
  · rw [← hpar]
    exact filled_of_slotsKept hs.2 hkept (fillRequest_filled (hs.1.trans hr))

/-! ## The restore event (R138, R141, R142) -/

theorem takeRestoreEvent_of_due {s : State} {d : Time} (hlow : s.supply.judgement = .low) (hd : s.supply.restoreTimer = some d)
    (hdue : reached s.now d = true) : takeRestoreEvent s = tellRestored (judgeRestored s) :=
  if_pos ⟨hlow, by rw [hd]; exact hdue⟩

theorem tellRestored_of_supplyDown {s : State} (h : s.modes.mode = .supplyDown) :
    tellRestored s = { s with modes.restorePending := true } := by
  simp only [tellRestored, h]

theorem tellRestored_of_supplyHalted {s : State} (h : s.modes.mode = .supplyHalted) : tellRestored s = warmRestart s := by
  simp only [tellRestored, h]

theorem tellRestored_of_other {s : State} (hdown : s.modes.mode ≠ .supplyDown) (hhalted : s.modes.mode ≠ .supplyHalted) :
    tellRestored s = s := by
  unfold tellRestored
  split
  next h => exact absurd h hdown
  next h => exact absurd h hhalted
  all_goals rfl

/-- The restore event leaves the sequences, the pass number, the pass result record and the conflicts alone. -/
theorem tellRestored_keeps (s : State) : (tellRestored s).issuer.sequence = s.issuer.sequence ∧
    (tellRestored s).engine.passNumber = s.engine.passNumber ∧ (tellRestored s).engine.result = s.engine.result ∧
    (tellRestored s).link.conflicts = s.link.conflicts := by
  unfold tellRestored
  split
  case h_2 =>
    obtain ⟨-, hengine, -, hissuer, -⟩ := warmRestart_blocks s
    rw [hengine, hissuer, warmRestart_link]
    exact ⟨rfl, rfl, rfl, rfl⟩
  all_goals exact ⟨rfl, rfl, rfl, rfl⟩

/-- Settles O39. -/
theorem restoreEventWarmRestartsAHaltedPart : Obligations.RestoreEventWarmRestartsAHaltedPart := by
  unfold Obligations.RestoreEventWarmRestartsAHaltedPart
  intro s t d hlow hd hdue
  obtain ⟨v, hv⟩ : ∃ v, v = judgeRestored { s with now := t } := ⟨_, rfl⟩
  have heffect : afterEffect (.restoreEvent t) s = tellRestored v := by
    rw [hv]
    exact takeRestoreEvent_of_due (s := { s with now := t }) hlow hd hdue
  obtain ⟨u, hu⟩ : ∃ u, u = settle s (tellRestored v) := ⟨_, rfl⟩
  obtain ⟨hissuer, hpass, hresult, hconflicts⟩ := tellRestored_keeps v
  have hmodes : v.modes = s.modes := by rw [hv]; rfl
  have htimer : v.supply.lowTimer = if s.supply.sense = .below then some (later t 2) else none := by
    rw [hv]
    simp [judgeRestored, runWhile, Config.lowDelay]
  have hlowTimer : u.supply.lowTimer = v.supply.lowTimer := by simp [hu]
  refine ⟨u, by rw [exec_eq_settle (fun h => by cases h), heffect, hu], by simp [hu, hv, judgeRestored], by simp [hu, hv, judgeRestored],
    by simp [hu, hv, judgeRestored], hlowTimer.trans htimer, by simp [hu, hv], by simp [hu, hv], ?_, ?_, ?_, ?_, fun hdown => ?_,
    fun hhalted => ?_, fun hdown hhalted => ?_⟩
  · simp only [hu, settle_frame, hissuer]
    rw [hv]
    rfl
  · simp only [hu, settle_frame, hpass]
    rw [hv]
    rfl
  · simp only [hu, settle_frame, hresult]
    rw [hv]
    rfl
  · simp only [hu, settle_link_frame, hconflicts]
    rw [hv]
    rfl
  · rw [hlowTimer, hu, tellRestored_of_supplyDown (by rw [hmodes]; exact hdown), settle_of_readsAs, hv]
    · rfl
    · rw [hv]
      exact ⟨rfl, flagRaised_same fun _ => rfl, rfl, fun _ => rfl, rfl, fun _ => rfl, marksQuiet_same rfl⟩
  · have hrestart : tellRestored v = warmRestart v := tellRestored_of_supplyHalted (by rw [hmodes]; exact hhalted)
    rw [hrestart] at hu
    have hkept : s.RequestKept v := by rw [hv]; exact .refl s
    obtain ⟨hnone, hsome⟩ := filled_of_warmRestart (u := u) hkept (hu ▸ requestKept_settle s _) (by rw [hv]; rfl)
    refine ⟨?_, hnone, fun r hr => ?_⟩
    · rw [hu]
      exact warmRestarted_settle (fun i => by rw [hv]; exact ⟨rfl, rfl, rfl⟩) (by rw [hv]; rfl) (by rw [hv]; rfl) (by rw [hv]; rfl)
        (by rw [hv]; rfl) (by rw [hv]; rfl) (by rw [hv]; rfl)
    · have hfilled := hsome r hr
      simp only [captureOf, hmodes, hhalted] at hfilled
      rw [hv] at hfilled
      exact hfilled
  · rw [hlowTimer, hu, tellRestored_of_other (by rw [hmodes]; exact hdown) (by rw [hmodes]; exact hhalted), settle_of_readsAs, hv]
    · rfl
    · rw [hv]
      exact ⟨rfl, flagRaised_same fun _ => rfl, rfl, fun _ => rfl, rfl, fun _ => rfl, marksQuiet_same rfl⟩

end Sys2Proof.Machine

namespace Sys2Proof.Machine

/-! The end of a read attempt (O4, O5). -/

/-! ## The words of the memory (R161) -/

theorem readByte_of_lt {bytes : List (BitVec 8)} {i : Nat} (h : i < bytes.length) : readByte bytes i = bytes.getD i 0 := by
  simp [readByte, List.getD_eq_getElem?_getD, h]

/-- The words that a block of 192 bytes spells. -/
theorem blockWords_eq {bytes : List (BitVec 8)} {words : List Word16} (hwords : words.length = 96) (hbytes : bytes.length = 192)
    (h : ∀ k, k < 96 → words.getD k 0 = bytes.getD (2 * k) 0 ++ bytes.getD (2 * k + 1) 0) : blockWords bytes = words := by
  refine List.ext_getElem (by simp [blockWords, blockBytes, hwords]) fun k hk hk' => ?_
  have hk96 : k < 96 := hwords ▸ hk'
  have hword : words.getD k 0 = words[k] := by simp [List.getD_eq_getElem?_getD, hk']
  rw [← hword, h k hk96, ← readByte_of_lt (by omega), ← readByte_of_lt (by omega)]
  simp [blockWords]

/-! ## The STATUS of an event (R167) -/

/-- The STATUS that an event places, where the link controller takes it. -/
theorem settle_status_placed {before s : State} (hmarks : marksQuiet before s = false) (hchange : reportsChange before s = true)
    (htakes : s.takesFrames) :
    (settle before s).link.mailboxes.get .status = some (statusFrame (alertsSettled before s)) := by
  have htaken : refusesPlacement false (numberStatus (alertsSettled before s)) = false := by
    obtain ⟨hlink, -⟩ := sameLink_alertsSettled before s
    have hnumbered : (numberStatus (alertsSettled before s)).link = (alertsSettled before s).link := rfl
    rw [refusesPlacement_eq_false_iff, State.takesFrames, hnumbered, hlink]
    exact htakes
  rw [settle_eq, hmarks, if_neg Bool.false_ne_true, reportChanges_eq, reportsChange_alertsSettled, if_pos hchange, placeStatus,
    placeFrame_link, htaken]
  rfl

/-- Without parameters no line is routed: both keep their level. -/
theorem settle_lines_of_unset {before s : State} (h : s.params = none) :
    (settle before s).report.sta = s.report.sta ∧ (settle before s).report.stb = s.report.stb := by
  have hparams : (leadSettled before s).params = none := by simp [leadSettled, h]
  rw [settle_report]
  simp only [lineAfter, hparams, and_self]

/-! ## A failed attempt (R161, R163) -/

theorem endAttempt_of_reading {bytes : List (BitVec 8)} {s : State} (h : s.port.reading = true) :
    endAttempt bytes s = judgeBlock (blockWords bytes) s := by
  simp [endAttempt, h]

theorem judgeBlock_of_repeated {words : List Word16} {s : State} (hfails : blockAccepted words = false) (hfew : s.port.attempts < 3) :
    judgeBlock words s = { s with port := { attempts := s.port.attempts + 1, reading := true, sent := [3, 0, 0] } } := by
  have hleft : s.port.attempts < Config.maxAttempts := hfew
  simp only [judgeBlock, hfails, Bool.false_eq_true, if_false, if_pos hleft]
  rfl

theorem judgeBlock_of_last {words : List Word16} {s : State} (hfails : blockAccepted words = false) (hlast : s.port.attempts = 3) :
    judgeBlock words s = failStart s := by
  have hnone : ¬ s.port.attempts < Config.maxAttempts := by rw [hlast]; decide
  simp only [judgeBlock, hfails, Bool.false_eq_true, if_false, if_neg hnone]

/-- Settles O5. -/
theorem failedAttemptIsRepeatedOrEndsInSafe : Obligations.FailedAttemptIsRepeatedOrEndsInSafe := by
  unfold Obligations.FailedAttemptIsRepeatedOrEndsInSafe
  intro s t bytes words hstart hreading hwords hbytes hspell hfails
  have heffect : afterEffect (.readAttemptEnd t bytes) s = judgeBlock words { s with now := t } := by
    rw [← blockWords_eq hwords hbytes hspell]
    exact endAttempt_of_reading (s := { s with now := t }) hreading
  refine ⟨fun hfew => ?_, fun hlast => ?_⟩
  · rw [judgeBlock_of_repeated (s := { s with now := t }) hfails hfew] at heffect
    exact exec_unseen (fun h => by cases h) heffect
      ⟨rfl, flagRaised_same fun _ => rfl, rfl, fun _ => rfl, rfl, fun _ => rfl, marksQuiet_same rfl⟩
  · obtain ⟨hmode, hparams, hrecognition, hintake, hquiet, -⟩ := hstart hreading
    obtain ⟨w, hw⟩ : ∃ w : State, w = { s with
      now := t, port := s.port.endAttempt, link.identity := some failureIdentity, link.state := .active,
      report.statusTimer := some (later t Config.failurePeriod) } := ⟨_, rfl⟩
    obtain ⟨v, hv⟩ : ∃ v, v = enterMode .safe .parameter w := ⟨_, rfl⟩
    have hfail : afterEffect (.readAttemptEnd t bytes) s = v := by
      rw [heffect, judgeBlock_of_last (s := { s with now := t }) hfails hlast, hv, hw]
      rfl
    obtain ⟨hengine, -, -, -, -, -, -, hcounters⟩ := enterMode_still_frame (new := .safe) .parameter w rfl
    rw [← hv] at hengine hcounters
    have hlink : v.link = w.link := by
      have hnot : ¬ w.modes.mode = .supplyHalted := by rw [hw]; simp [hmode]
      rw [hv, enterMode_link, if_neg (by decide), if_neg fun h => hnot h.2]
    have hvparams : v.params = none := by simp [hv, hw, hparams]
    have hmarks : marksQuiet s v = false := marksQuiet_same (by rw [hlink, hw])
    have htakes : v.takesFrames := by
      rw [State.takesFrames, hlink, hw]
      exact ⟨(fun h => by cases h), hquiet⟩
    have hchange : reportsChange s v = true := reportsChange_of_mode (by simp [hv, hmode])
    have hstatus := settle_status_placed hmarks hchange htakes
    obtain ⟨hsame, -⟩ := settle_sameLink hmarks
    obtain ⟨u, hu⟩ : ∃ u, u = settle s v := ⟨_, rfl⟩
    obtain ⟨hsta, hstb⟩ := settle_lines_of_unset (before := s) hvparams
    rw [← hu] at hsame hstatus hsta hstb
    have hport : v.port = { attempts := 3, reading := false, sent := [] } := by
      simp [hv, hw, MemoryPort.endAttempt, hlast]
    have hplacement : v.report.placement = s.report.placement := by simp [hv, hw]
    have hcontent : (statusFrame (alertsSettled s v)).content =
        .status (s.report.placement + 1) (reported v) 3 (flagBits (alertsSettled s v)) := by
      simp [statusFrame, reported_alertsSettled, alertsSettled_report, hport, hplacement]
    refine ⟨u, reported v, flagBits (alertsSettled s v), by rw [exec_eq_settle (fun h => by cases h), hfail, hu], by simp [hu, hv],
      by simp [hu, hv], by simp [hu, hport], by simp [hu, hvparams], by simp [hu, hv, hw, hrecognition], by rw [hsame, hlink,
      hw], by rw [hsame, hlink, hw]; rfl,
      by simp [hu, hv, hw, Config.failurePeriod], ?_, by simp [reported, hv], by simp [reported, hv], by simp [hu, hv, hw, hintake],
      by rw [hsta]; simp [hv, hw], by rw [hstb]; simp [hv, hw], ?_, ?_⟩
    · have hmailbox : u.link.mailboxes.status = some (statusFrame (alertsSettled s v)) := hstatus
      rw [hmailbox, Option.map_some, hcontent]
    · simp only [hu, settle_frame, hengine]
      rw [hw]
    · have hsettled : u.report.counters = v.report.counters := by simp only [hu, settle_report_frame]
      rw [hsettled, hcounters, hw]

/-! ## The fields of a block (section 9.7) -/

theorem blockWord_of_lt {words : List Word16} {k : Nat} (h : k < words.length) : blockWord words k = words.getD k 0 := by
  simp [blockWord, List.getD_eq_getElem?_getD, h]

theorem blockNat_of_lt {words : List Word16} {k : Nat} (h : k < words.length) : blockNat words k = wordAt words k := by
  rw [blockNat, blockWord_of_lt h, wordAt]

theorem blockInts_of_lt {words : List Word16} {k n : Nat} (h : k + n ≤ words.length) : blockInts words k n = wordsAt words k n := by
  refine List.map_congr_left fun i hi => ?_
  have := List.mem_range.1 hi
  rw [blockInt, blockNat_of_lt (by omega)]

theorem extract_toNat (x : Word16) (start n : Nat) : (x.extractLsb' start n).toNat = x.toNat / 2 ^ start % 2 ^ n := by
  rw [BitVec.extractLsb'_toNat, Nat.shiftRight_eq_div_pow]

theorem bit_iff (x : Word16) (i : Nat) : x.getLsbD i = true ↔ x.toNat / 2 ^ i % 2 = 1 := by
  rw [BitVec.getLsbD, Nat.testBit_eq_decide_div_mod_eq, decide_eq_true_iff]

theorem blockSpeedFactor_eq {words : List Word16} {k : Nat} (h : k + 1 < words.length) :
    blockSpeedFactor words k = wordAt words k % 4 * 65536 + wordAt words (k + 1) := by
  rw [blockSpeedFactor, toNat_append_eq_add, extract_toNat, blockWord_of_lt (by omega), blockWord_of_lt h]
  simp [wordAt]

theorem lineSourceOf_eq (code : BitVec 3) :
    [LineSource.none, .driving, .axleImpaired, .safe, .supplyLow, .alertLeading, .powerScaled, .captureHeld][code.toNat]? =
      some (lineSourceOf code) := by
  revert code
  decide

theorem blockLine_readFrom {words : List Word16} {k : Nat} (h : k < words.length) :
    (blockLine words k).readFrom (wordAt words k) := by
  have hcode : ((blockWord words k).extractLsb' 0 3).toNat = wordAt words k % 8 := by
    rw [extract_toNat, blockWord_of_lt h]
    simp [wordAt]
  refine ⟨?_, ?_⟩
  · rw [← hcode]
    exact lineSourceOf_eq _
  · rw [blockLine, bit_iff, blockWord_of_lt h]
    rfl

/-- A block holds its parameters in the word order of section 9.7. -/
theorem blockParams_readFrom {words : List Word16} (hwords : words.length = 96) : (blockParams words).readFrom words := by
  have hnat (k : Nat) (h : k < 96) : blockNat words k = wordAt words k := blockNat_of_lt (by omega)
  have hint (k : Nat) (h : k < 96) : blockInt words k = wordAt words k := by rw [blockInt, hnat k h]
  have hbits (k start n : Nat) (h : k < 96) : ((blockWord words k).extractLsb' start n).toNat = wordAt words k / 2 ^ start % 2 ^ n := by
    rw [extract_toNat, blockWord_of_lt (by omega)]
    rfl
  have hbit (k i : Nat) (h : k < 96) : (blockWord words k).getLsbD i = true ↔ wordAt words k / 2 ^ i % 2 = 1 := by
    rw [bit_iff, blockWord_of_lt (by omega)]
    rfl
  have hlow (k n : Nat) (h : k < 96) : ((blockWord words k).extractLsb' 0 n).toNat = wordAt words k % 2 ^ n := by
    rw [hbits k 0 n h, pow_zero, Nat.div_one]
  have hlowest : (blockWord words 90).getLsbD 0 = true ↔ wordAt words 90 % 2 = 1 := by
    rw [hbit 90 0 (by decide), pow_zero, Nat.div_one]
  have hpair (k m : Nat) (hk : k < 96) (hm : m < 96) :
      (⟨blockInt words k, blockInt words m⟩ : PerAxle Int) = ⟨wordAt words k, wordAt words m⟩ := by rw [hint k hk, hint m hm]
  have hranks (i : AlertId) : (blockParams words).ranks.get i = wordAt words (78 + i.number) := by
    cases i <;> exact hnat _ (by decide)
  have hlatest : (blockWord words 90).getLsbD 8 = true ↔ wordAt words 90 / 256 % 2 = 1 := hbit 90 8 (by decide)
  refine ⟨hlow 1 4 (by decide), ?_, hbits 11 8 3 (by decide), hlow 11 3 (by decide),
    hbits 12 8 3 (by decide), hlow 12 3 (by decide), hbits 13 8 3 (by decide),
    hlow 13 3 (by decide), hnat 14 (by decide), ?_, hpair 21 22 (by decide) (by decide), ?_,
    hpair 27 28 (by decide) (by decide), hpair 29 30 (by decide) (by decide), hint 31 (by decide), blockInts_of_lt (by omega),
    blockInts_of_lt (by omega), blockInts_of_lt (by omega), hint 55 (by decide), hint 56 (by decide), hint 57 (by decide),
    hint 58 (by decide), hint 59 (by decide), hint 60 (by decide), hint 61 (by decide), hint 62 (by decide), hint 63 (by decide),
    hint 64 (by decide), hint 65 (by decide), hint 66 (by decide), hint 67 (by decide), hint 68 (by decide), hint 69 (by decide),
    hint 70 (by decide), hint 71 (by decide), hpair 72 73 (by decide) (by decide), hint 74 (by decide), hint 75 (by decide),
    hpair 76 77 (by decide) (by decide), hnat 78 (by decide), hranks, hnat 89 (by decide), ?_, hbit 90 4 (by decide),
    hbit 90 3 (by decide), hbit 90 2 (by decide), hbit 90 1 (by decide), hlowest,
    blockLine_readFrom (by omega), blockLine_readFrom (by omega), ?_⟩
  · simp [blockParams, blockRoles, tableRoles, List.range_succ, hbits]
  · simp [blockParams, hnat]
  · simp only [blockParams]
    rw [blockSpeedFactor_eq (by omega), blockSpeedFactor_eq (by omega)]
    push_cast
    rfl
  · simp only [blockParams, hlatest]
  · simp [blockParams, hnat]

/-! ## The four checks of R162 -/

theorem wordSum_eq_foldl (ws : List Word16) : ws.foldl (· + ·) 0 = wordSum ws := rfl

theorem blockWords_all {words : List Word16} (hwords : words.length = 96) : (List.range 96).map (blockWord words) = words := by
  refine List.ext_getElem (by simp [hwords]) fun k hk hk' => ?_
  rw [List.getElem_map, List.getElem_range, blockWord_of_lt hk', List.getD_eq_getElem?_getD, List.getElem?_eq_getElem hk']
  rfl

theorem blockFormat_iff {words : List Word16} (hwords : words.length = 96) :
    blockFormat words = true ↔ wordAt words 0 / 256 = 1 ∧ wordAt words 0 % 256 = 96 := by
  rw [blockFormat, beq_iff_eq, ← BitVec.toNat_inj, blockWord_of_lt (by omega)]
  change wordAt words 0 = 352 ↔ _
  omega

theorem blockSum_iff {words : List Word16} (hwords : words.length = 96) :
    blockSum words = true ↔ (words.map fun w => w.toNat).sum % 65536 = 0 := by
  rw [blockSum, beq_iff_eq, blockWords_all hwords, wordSum_eq_foldl, ← BitVec.toNat_inj, wordSum_toNat]
  rfl

theorem strictlyRising_iff (l : List Int) : strictlyRising l = true ↔ l.Pairwise (fun lower higher => lower < higher) := by
  rw [← List.isChain_iff_pairwise]
  induction l with
  | nil => simp [strictlyRising]
  | cons a l ih =>
    cases l with
    | nil => simp [strictlyRising]
    | cons b l => rw [strictlyRising, Bool.and_eq_true, ih, decide_eq_true_iff, List.isChain_cons_cons]

theorem agree_iff (p : Params) : p.consistent = true ↔ p.Agree := by
  rw [consistent_iff, strictlyRising_iff, Params.Agree, List.Nodup, List.pairwise_map]
  simp only [ne_eq, Prod.mk.injEq]

/-- The words `k`, `k + 1`, …, `n` of them, lie in a range. -/
def wordsIn (words : List Word16) (k n lo hi : Nat) : Prop :=
  ∀ i, i < n → lo ≤ blockNat words (k + i) ∧ blockNat words (k + i) ≤ hi

theorem wordsIn_one (words : List Word16) (k lo hi : Nat) :
    wordsIn words k 1 lo hi ↔ lo ≤ blockNat words k ∧ blockNat words k ≤ hi := by
  refine ⟨fun h => h 0 Nat.one_pos, fun h i hi => ?_⟩
  obtain rfl : i = 0 := by omega
  exact h

theorem wordsIn_succ (words : List Word16) (k n lo hi : Nat) : wordsIn words k (n + 1) lo hi ↔
    wordsIn words k n lo hi ∧ lo ≤ blockNat words (k + n) ∧ blockNat words (k + n) ≤ hi := by
  refine ⟨fun h => ⟨fun i hi => h i (by omega), h n n.lt_succ_self⟩, fun ⟨h, hlast⟩ i hi => ?_⟩
  by_cases hi' : i = n
  · exact hi' ▸ hlast
  · exact h i (by omega)

theorem wordsIn_two (words : List Word16) (k lo hi : Nat) : wordsIn words k 2 lo hi ↔
    (lo ≤ blockNat words k ∧ blockNat words k ≤ hi) ∧ lo ≤ blockNat words (k + 1) ∧ blockNat words (k + 1) ≤ hi := by
  rw [wordsIn_succ, wordsIn_one]

theorem wordsIn_append (words : List Word16) (k n m lo hi : Nat) :
    wordsIn words k (n + m) lo hi ↔ wordsIn words k n lo hi ∧ wordsIn words (k + n) m lo hi := by
  refine ⟨fun h => ⟨fun i hi => h i (by omega), fun i hi => ?_⟩, fun ⟨h, h'⟩ i hi => ?_⟩
  · rw [Nat.add_assoc]
    exact h (n + i) (by omega)
  · by_cases hi' : i < n
    · exact h i hi'
    · have hrest := h' (i - n) (by omega)
      rwa [Nat.add_assoc, Nat.add_sub_cancel' (by omega)] at hrest

theorem blockInts_in (words : List Word16) (k n lo hi : Nat) :
    (∀ v ∈ blockInts words k n, (lo : Int) ≤ v ∧ v ≤ (hi : Int)) ↔ wordsIn words k n lo hi := by
  simp only [blockInts, List.mem_map, List.mem_range, forall_exists_index, and_imp, forall_apply_eq_imp_iff₂, blockInt, Int.ofNat_le,
    wordsIn]

theorem blockInRange_iff (words : List Word16) : blockInRange words = true ↔
    (∀ r ∈ blockRanges, wordsIn words r.1 r.2.1 r.2.2.1 r.2.2.2) ∧
      1 ≤ blockSpeedFactor words 23 ∧ 1 ≤ blockSpeedFactor words 25 := by
  simp only [blockInRange, Bool.and_eq_true, List.all_eq_true, List.mem_range, decide_eq_true_iff, wordsIn, and_assoc]

/-- Check 3 of R162 puts every field in its range, and no other. -/
theorem blockInRange_iff_inRange (words : List Word16) : blockInRange words = true ↔ (blockParams words).InRange := by
  have hfactor (k : Nat) : blockSpeedFactor words k ≤ 262143 := by
    have := ((((blockWord words k).extractLsb' 0 2) ++ blockWord words (k + 1) : BitVec 18)).isLt
    exact Nat.le_of_lt_succ this
  have hcast {n lo hi : Nat} : lo ≤ n ∧ n ≤ hi ↔ (lo : Int) ≤ n ∧ (n : Int) ≤ hi := by omega
  simp only [blockInRange_iff, blockRanges, List.forall_mem_cons, List.not_mem_nil, IsEmpty.forall_iff, implies_true, wordsIn_one,
    wordsIn_two]
  rw [show 16 = 8 + 8 from rfl, wordsIn_append]
  constructor
  · rintro ⟨⟨h14, h15, h16, h17, h18, h19, h20, ⟨h21, h22⟩, h27, h31, h32, ⟨h39, h47⟩, h55, ⟨h56, h57⟩, h58, h62, h63, h64,
      ⟨h65, h66⟩, h67, h68, h69, ⟨h70, h71⟩, ⟨h72, h73⟩, h74, h75, ⟨h76, h77⟩, h78, h79, h89, ⟨h93, h94⟩, -⟩, h23, h25⟩
    refine ⟨h15, h16, h17, h18, h19, h20, hcast.1 h31, hcast.1 h70, hcast.1 h71, fun a => ?_, h78, (blockInts_in words 32 7 0 25000).2 h32,
      fun v hv => ?_, hcast.1 h55, hcast.1 h56, hcast.1 h57, hcast.1 h68, hcast.1 h69, (blockInts_in words 58 4 20 300).2 h58,
      hcast.1 h62, hcast.1 h63, hcast.1 h64,
      hcast.1 h65, hcast.1 h66, hcast.1 h67, hcast.1 h74, hcast.1 h75, fun l => ?_, h14, fun i => ?_, h89⟩
    · cases a
      · exact ⟨hcast.1 (h27 0 (by decide)), hcast.1 (h27 2 (by decide)), hcast.1 h72, hcast.1 h21, hcast.1 ⟨h23, hfactor 23⟩, hcast.1 h76⟩
      · exact ⟨hcast.1 (h27 1 (by decide)), hcast.1 (h27 3 (by decide)), hcast.1 h73, hcast.1 h22, hcast.1 ⟨h25, hfactor 25⟩, hcast.1 h77⟩
    · rcases List.mem_append.1 hv with h | h
      · exact (blockInts_in words 39 8 0 1000).2 h39 v h
      · exact (blockInts_in words 47 8 0 1000).2 h47 v h
    · cases l
      · exact h93
      · exact h94
    · cases i
      · exact (h79 0 (by decide)).2
      · exact (h79 1 (by decide)).2
      · exact (h79 2 (by decide)).2
      · exact (h79 3 (by decide)).2
      · exact (h79 4 (by decide)).2
      · exact (h79 5 (by decide)).2
      · exact (h79 6 (by decide)).2
      · exact (h79 7 (by decide)).2
      · exact (h79 8 (by decide)).2
      · exact (h79 9 (by decide)).2
  · rintro ⟨h15, h16, h17, h18, h19, h20, h31, h70, h71, haxle, h78, h32, hshares, h55, h56, h57, h68, h69, h58, h62, h63, h64, h65,
      h66, h67, h74, h75, hfilter, h14, hrank, h89⟩
    obtain ⟨h27, h29, h72, h21, h23, h76⟩ := haxle .front
    obtain ⟨h28, h30, h73, h22, h25, h77⟩ := haxle .rear
    have h39 := (blockInts_in words 39 8 0 1000).1 fun v hv => hshares v (List.mem_append_left _ hv)
    have h47 := (blockInts_in words 47 8 0 1000).1 fun v hv => hshares v (List.mem_append_right _ hv)
    have hdriveline : wordsIn words 27 4 500 16000 := by
      rw [show 4 = 2 + 2 from rfl, wordsIn_append, wordsIn_two, wordsIn_two]
      exact ⟨⟨hcast.2 h27, hcast.2 h28⟩, hcast.2 h29, hcast.2 h30⟩
    have hranks : wordsIn words 79 10 0 15 := fun i hi => ⟨Nat.zero_le _, by
      interval_cases i
      · exact hrank .demandLost
      · exact hrank .frontDerated
      · exact hrank .rearDerated
      · exact hrank .frontFaulted
      · exact hrank .rearFaulted
      · exact hrank .powerScaled
      · exact hrank .referenceLost
      · exact hrank .gripLimiting
      · exact hrank .exceptionHeld
      · exact hrank .supplyLow⟩
    exact ⟨⟨h14, h15, h16, h17, h18, h19, h20, ⟨hcast.2 h21, hcast.2 h22⟩, hdriveline, hcast.2 h31, (blockInts_in words 32 7 0 25000).1 h32,
      ⟨h39, h47⟩, hcast.2 h55, ⟨hcast.2 h56, hcast.2 h57⟩, (blockInts_in words 58 4 20 300).1 h58, hcast.2 h62, hcast.2 h63,
      hcast.2 h64, ⟨hcast.2 h65, hcast.2 h66⟩,
      hcast.2 h67, hcast.2 h68, hcast.2 h69, ⟨hcast.2 h70, hcast.2 h71⟩, ⟨hcast.2 h72, hcast.2 h73⟩, hcast.2 h74, hcast.2 h75,
      ⟨hcast.2 h76, hcast.2 h77⟩, h78, hranks,
      h89, ⟨hfilter .hold, hfilter .mark⟩, trivial⟩, Int.ofNat_le.1 h23.1, Int.ofNat_le.1 h25.1⟩

/-! ## An accepted block (R164) -/

theorem judgeBlock_of_accepted {words : List Word16} {s : State} (h : blockAccepted words = true) :
    judgeBlock words s = acceptBlock (blockParams words) s := by
  simp only [judgeBlock, h, if_true]

theorem recognitionTable_entries (p : Params) :
    (recognitionTable p).map (fun e => (e.role, e.station, e.kind)) = p.roles.map fun e => (e.role, e.station, e.kind) := by
  simp [recognitionTable, Function.comp_def]

/-- The lengths that R24 fixes, in the order of the recognition table. -/
theorem recognitionTable_lengths (words : List Word16) :
    (recognitionTable (blockParams words)).map (fun e => e.expectedLength) = [3, 6, 6, 2, 2, 3, 1, 2, 1] := rfl

theorem beginWatching_of_inactive (now : Time) (time : Nat) {f : InputFilter} (h : f.line = .inactive) :
    beginWatching now time f = f := by
  simp [beginWatching, h]

theorem beginWatching_of_active (now : Time) (time : Nat) {f : InputFilter} (h : f.line = .active) : beginWatching now time f =
    { line := .active, accepted := f.accepted, candidate := some .active, timer := some (later now time) } := by
  simp [beginWatching, h]

/-- The ALERT of a new leading alert stays in its mailbox while the event places its STATUS. -/
theorem reportChanges_alert {entering : Bool} {before s : State} (hnew : (settle before s).report.leading ≠ s.report.leading)
    (htaken : refusesPlacement (marksQuiet before s) s = false) :
    (reportChanges entering before (alertsSettled before s)).link.mailboxes.get .alert =
      some (alertFrame (weighAlerts before s) (settle before s).report.leading) := by
  rw [← leadSettled_alert_placed hnew htaken, reportChanges_eq]
  split
  · rw [placeStatus, placeFrame_link]
    split
    · rfl
    · rw [PerKind.get_set, if_neg (by simp [statusFrame])]
      rfl
  · rfl

/-- The machine with a block accepted, before its mode is entered. -/
def State.blockTaken (s : State) (p : Params) (t : Time) : State := acceptLink p (acceptTables p { s with now := t })

/-- The mode after START (R132). -/
def modeAfterStart (j : Judgement) : Mode := if j = .ok then .dozing else .supplyHalted

theorem modeAfterStart_still (j : Judgement) : (modeAfterStart j).runsPasses = false := by
  cases j <;> rfl

/-- The link controller after an accepted block: ACTIVE, with its identity, quiet where the part is halted. -/
theorem blockAccepted_link (s : State) (p : Params) (t : Time) :
    (enterMode (modeAfterStart s.supply.judgement) .none (s.blockTaken p t)).link =
      { s.link with
        identity := some { station := p.ownStation, classes := p.classes }, state := .active,
        quiet := decide (s.supply.judgement ≠ .ok) } := by
  rw [enterMode_link]
  cases h : s.supply.judgement <;> rfl

/-- The end of the event that accepts a block: the link controller holds the STATUS and, for a new lead, the ALERT. -/
theorem settle_link_of_accepted {s v : State} {p : Params} (hquiet : s.link.quiet = false) (hmode : s.modes.mode = .start)
    (hv : v.modes.mode ≠ .safe) (hstart : v.modes.mode ≠ .start) (hactive : v.link.state = .active) (hpar : v.par = p)
    (hkept : v.report.leading = none) :
    (settle s v).link.state = .active ∧ (settle s v).link.quiet = v.link.quiet ∧
      ∀ i, (settle s v).report.leading = some i → ∃ f raised noted, (settle s v).link.mailboxes.alert = some f ∧
        f.content = .alert i.number (BitVec.ofNat 8 (p.ranks.get i)) raised noted := by
  have hchange : reportsChange s v = true := reportsChange_of_mode (by rw [hmode]; exact hstart.symm)
  have hlink : ∃ e, (settle s v).link = (reportChanges e s (alertsSettled s v)).link := by
    cases hmarks : marksQuiet s v
    · exact ⟨false, by rw [settle_eq, hmarks]; rfl⟩
    · obtain ⟨w, hw, -, hsettled, -⟩ := settle_link_of_quietEntry hmarks hchange hactive hv
      exact ⟨true, by rw [hsettled, hw]⟩
  obtain ⟨e, hlink⟩ := hlink
  obtain ⟨hsame, -⟩ := sameLink_trans (sameLink_reportChanges e s (alertsSettled s v)) (sameLink_alertsSettled s v)
  rw [← hlink] at hsame
  refine ⟨by rw [hsame]; exact hactive, by rw [hsame], fun i hi => ?_⟩
  have htaken : refusesPlacement (marksQuiet s v) v = false := by
    cases hloud : v.link.quiet <;> simp [refusesPlacement, marksQuiet, hactive, hquiet, hloud]
  have halert := reportChanges_alert (entering := e) (by rw [hi, hkept]; exact Option.some_ne_none i) htaken
  rw [← hlink, hi] at halert
  obtain ⟨number, rank, hcontent, -, hlead⟩ := alertFrame_content (weighAlerts s v) (some i)
  obtain ⟨rfl, rfl⟩ := hlead i rfl
  have hranks : (weighAlerts s v).par = p := hpar
  rw [hranks] at hcontent
  exact ⟨_, _, _, halert, hcontent⟩

/-- What the acceptance of a block writes, before the end of its event (R132, R137, R164). -/
theorem blockTaken_blocks (s : State) (p : Params) (t : Time) :
    (s.blockTaken p t).port = s.port.endAttempt ∧ (s.blockTaken p t).params = some p ∧
      (s.blockTaken p t).recognition = recognitionTable p ∧
      (s.blockTaken p t).streams = configureStreams p s.streams ∧
      (s.blockTaken p t).records = { s.records with power := ⟨p.fallbackDischarge, p.fallbackCharge⟩ } ∧
      (s.blockTaken p t).table = { s.table with driveline := (acceptedTable p).driveline, axle := (acceptedTable p).axle } ∧
      (s.blockTaken p t).filters = ⟨beginWatching t p.filterTime.hold s.filters.hold, beginWatching t p.filterTime.mark s.filters.mark⟩ ∧
      (s.blockTaken p t).report.statusTimer = some (later t p.statusPeriod) ∧
      (s.blockTaken p t).report.leading = s.report.leading ∧ (s.blockTaken p t).report.placement = s.report.placement ∧
      (s.blockTaken p t).report.counters = s.report.counters ∧ (s.blockTaken p t).engine = s.engine ∧
      (s.blockTaken p t).grip = s.grip ∧ (s.blockTaken p t).axles = s.axles ∧ (s.blockTaken p t).intake = s.intake ∧
      (s.blockTaken p t).exception = s.exception ∧ (s.blockTaken p t).issuer = s.issuer ∧ (s.blockTaken p t).supply = s.supply :=
  ⟨rfl, rfl, rfl, rfl, rfl, rfl, rfl, rfl, rfl, rfl, rfl, rfl, rfl, rfl, rfl, rfl, rfl, rfl⟩

/-- Settles O4. -/
theorem acceptedBlockEndsStart : Obligations.AcceptedBlockEndsStart := by
  unfold Obligations.AcceptedBlockEndsStart
  refine ⟨fun words p hwords hp => ?_, fun s t bytes words p hstart halerts hreading hwords hbytes hspell haccepted hp => ?_⟩
  · subst hp
    refine ⟨blockParams_readFrom hwords, ?_⟩
    rw [blockAccepted_iff, blockFormat_iff hwords, blockSum_iff hwords, blockInRange_iff_inRange, agree_iff]
  obtain ⟨hmode, hparams, -, hintake, hquiet, hfront, hrear, hunheard⟩ := hstart hreading
  obtain ⟨hclear, hnolead⟩ := halerts.1 hparams
  obtain ⟨w, hw⟩ : ∃ w, w = s.blockTaken p t := ⟨_, rfl⟩
  obtain ⟨hport, hset, htable, hstreams, hrecords, hcells, hfilters, htimer, hleading, hplacement, hcounters, hengine, hgrip,
    haxles, hintake', hexception, hissuer, hsupply⟩ := blockTaken_blocks s p t
  rw [← hw] at hport hset htable hstreams hrecords hcells hfilters htimer hleading hplacement hcounters hengine hgrip haxles
  rw [← hw] at hintake' hexception hissuer hsupply
  obtain ⟨v, hv⟩ : ∃ v, v = enterMode (modeAfterStart s.supply.judgement) .none w := ⟨_, rfl⟩
  have heffect : afterEffect (.readAttemptEnd t bytes) s = v := by
    have hjudged := endAttempt_of_reading (bytes := bytes) (s := { s with now := t }) hreading
    rw [blockWords_eq hwords hbytes hspell, judgeBlock_of_accepted haccepted, hp] at hjudged
    rw [hv, hw]
    exact hjudged
  obtain ⟨u, hu⟩ : ∃ u, u = settle s v := ⟨_, rfl⟩
  have hlink := blockAccepted_link s p t
  obtain ⟨hengine', hgrip', -, -, -, haxle, -, hcounters'⟩ := enterMode_still_frame .none w (modeAfterStart_still s.supply.judgement)
  rw [← hw] at hlink
  rw [← hv] at hlink hengine' hgrip' haxle hcounters'
  have hvmode : v.modes.mode = modeAfterStart s.supply.judgement := by simp [hv]
  have hvparams : v.params = some p := by simp [hv, hset]
  have hmoved : reportsChange s v = true :=
    reportsChange_of_mode (by rw [hmode, hvmode, modeAfterStart]; split <;> decide)
  obtain ⟨hactive, hloud, halert⟩ := settle_link_of_accepted (s := s) (v := v) (p := p) hquiet hmode
    (by rw [hvmode, modeAfterStart]; split <;> decide) (by rw [hvmode, modeAfterStart]; split <;> decide) (by rw [hlink])
    (par_of_params hvparams) (by simp [hv, hleading, hnolead])
  rw [← hu] at hactive hloud halert
  have hidentity : u.link.identity = v.link.identity := by simp [hu]
  refine ⟨u, by rw [exec_eq_settle (fun h => by cases h), heffect, hu], by simp only [hu, settle_frame, hvmode]; rfl, by simp [hu, hv],
    by simp [hu, hv, hport, MemoryPort.endAttempt], by simp [hu, hvparams],
    by simp only [hu, settle_frame, hv, enterMode_frame, htable]; exact recognitionTable_entries p,
    by simp only [hu, settle_frame, hv, enterMode_frame, htable, ← hp]; exact recognitionTable_lengths words, fun i => ?_,
    fun a => ?_, fun l => ?_, ?_, fun i => ?_, halert, hactive, by rw [hidentity, hlink],
    by rw [hloud, hlink], by simp [hu, hv, htimer], by rw [hu, settle_placement, if_pos hmoved]; simp [hv, hplacement],
    by simp [hu, hv, hrecords], by simp [hu, hv, hintake', hintake],
    by simp [hu, hv, hexception], ?_, by simp [hu, hv, hissuer], by simp [hu, hengine'], by simp [hu, hengine', hengine],
    by simp [hu, hgrip', hgrip], by simp [hu, hv, hsupply], by simp [hu, hv, hsupply]⟩
  · simp only [hu, settle_stream_frame, hv, enterMode_frame, hstreams, configureStreams_get]
    exact ⟨rfl, rfl, hunheard i⟩
  · have hdrive : u.table.driveline = w.table.driveline := by simp [hu, hv]
    have hstood : (w.axles.get a).state.inService = false := by
      rw [haxles]
      cases a
      · simp only [PerAxle.get, hfront]; rfl
      · simp only [PerAxle.get, hrear]; rfl
    have hcell : u.table.axle.get a = w.table.axle.get a := by
      simp only [hu, settle_frame, haxle, hstood, Bool.false_eq_true, if_false]
    rw [hdrive, hcell, hcells]
    cases a <;> exact ⟨rfl, rfl⟩
  · have hfilter : u.filters.get l = beginWatching t (p.filterTime.get l) (s.filters.get l) := by
      simp only [hu, settle_frame, hv, enterMode_frame, hfilters]
      cases l <;> rfl
    rw [hfilter]
    exact ⟨beginWatching_of_inactive _ _, beginWatching_of_active _ _⟩
  · rw [hu, ← heffect]
    exact event_alertsFollow (fun h => by cases h) hstart halerts
  · rw [hu, ← heffect]
    exact settle_not_noted (fun h => by cases h) (by rw [hclear]; cases i <;> rfl)
  · have hbad : u.report.counters = v.report.counters := by simp [hu]
    rw [hbad, hcounters', hcounters]

end Sys2Proof.Machine

namespace Sys2Proof.Machine

/-! What the decodes share: the end of a decode, its change flags, and the expiries that waited for a frame that is not used. -/

/-! ## Change flags (R39, R168) -/

theorem placement_succ_ne (n : BitVec 32) : n + 1 ≠ n := by
  intro h
  bv_omega

/-- The change flags after an event whose own effects place no STATUS and leave stream `i` in state `x`, its flag SET unless it
was FRESH before and after, and the other flags as they were. -/
theorem flagsFollow_settle {s v : State} {i : StreamId} {x : StreamState} (hplacement : v.report.placement = s.report.placement)
    (hstate : (v.streams.get i).state = x) (hother : ∀ j, j ≠ i → (v.streams.get j).flag = (s.streams.get j).flag)
    (hset : ¬ ((s.streams.get i).state = .fresh ∧ x = .fresh) → (v.streams.get i).flag = .set)
    (hkept : (s.streams.get i).state = .fresh → x = .fresh → (v.streams.get i).flag = (s.streams.get i).flag) :
    s.FlagsFollow (settle s v) i x := by
  refine ⟨fun hmoved => ?_, fun j hj => ?_⟩
  · have hflag : (v.streams.get i).flag = .set := by
      refine hset ?_
      rintro ⟨hbefore, rfl⟩
      rcases hmoved with h | ⟨h, -⟩
      · exact h hbefore
      · rw [hbefore] at h
        cases h
    have hchange : reportsChange s v = true := by
      rcases hmoved with h | ⟨-, h⟩
      · exact reportsChange_of_streamState (i := i) (by rw [hstate]; exact h)
      · simp [reportsChange, (flagRaised_iff s v).2 ⟨i, hflag, h⟩]
    rw [settle_placement, settle_streams, if_pos hchange, if_pos hchange, hplacement, hflag]
    exact ⟨rfl, rfl⟩
  · have hflag : (v.streams.get j).flag = (s.streams.get j).flag := by
      by_cases hji : j = i
      · obtain ⟨hbefore, hafter⟩ := hj hji
        rw [hji]
        exact hkept hbefore hafter
      · exact hother j hji
    rw [settle_placement, settle_streams]
    by_cases hchange : reportsChange s v = true
    · rw [if_pos hchange, if_pos hchange, hplacement]
      simp only [hflag, placement_succ_ne, false_or]
      cases (s.streams.get j).flag <;> rfl
    · rw [if_neg hchange, if_neg hchange, hplacement]
      simp [hflag]

/-! ## The decode of a used frame (R33 to R35, R38) -/

/-- The decode of a used frame: its content, then the holds, then the window. The stream's flag is SET unless it was FRESH before
and after. -/
theorem decodeHead_of_used {s : State} {e : IntakeEntry} {rest : List IntakeEntry} {i : StreamId} (t : Time)
    (hhead : s.headIs e rest (.stream i)) (hpass : fieldsPass e.role e.payload) (huses : (s.streams.get i).uses e) :
    ∃ w, decodeHead { s with now := t } =
        setStream i w (closeHolds e (useContent i (currentTow s) e (s.frameTaken t e rest i))) ∧
      w.unflagged = (s.streamAfterUse t e rest i).unflagged ∧
      w.flag = if (s.streams.get i).state = .fresh ∧ w.state = .fresh then (s.streams.get i).flag else .set := by
  obtain ⟨hintake, hrole, -⟩ := id hhead
  obtain ⟨w, hclose, hw⟩ := closeWindow_of_used (s := s) (t := t) (rest := rest)
    (v := closeHolds e (useContent i (currentTow s) e (s.frameTaken t e rest i))) hrole (by simp) (by simp) (by simp)
  have hdecode := (decodeHead_of_uses t hhead hpass huses).trans hclose
  refine ⟨w, hdecode, hw, ?_⟩
  have hrecord : (decodeHead { s with now := t }).streams.get i = w := by
    rw [hdecode, setStream_get, if_pos rfl]
  obtain ⟨-, -, hlength⟩ := hhead
  have htreated : (s.streams.get i).treated e = (s.streams.get i).afterUse e := by
    have hfields := failingField_of_fieldsPass hpass
    rw [StreamRecord.treated, if_neg (not_not.2 hlength), hfields, judgeFrame_of_uses huses]
    rfl
  rcases decodeHead_stream (s := { s with now := t }) hintake i with ⟨hother, -⟩ | ⟨-, hfresh | ⟨d, -, -, -, -, -, hlate⟩⟩
  · exact absurd hrole hother
  · rw [← hrecord, hfresh]
    simp only [htreated, StreamRecord.afterUse, StreamRecord.arrived, and_true]
  · rw [← hrecord, hlate]
    simp only [htreated]
    simp [StreamRecord.expired, StreamRecord.afterUse, StreamRecord.arrived]

/-- The change flags after the decode of a used frame. -/
theorem flagsFollow_decode {s : State} {e : IntakeEntry} {rest : List IntakeEntry} {i : StreamId} {t : Time}
    (hhead : s.headIs e rest (.stream i)) (hpass : fieldsPass e.role e.payload) (huses : (s.streams.get i).uses e) :
    s.FlagsFollow (settle s (decodeHead { s with now := t })) i (s.streamAfterUse t e rest i).state := by
  obtain ⟨w, hdecode, hw, hflag⟩ := decodeHead_of_used t hhead hpass huses
  have hstate : w.state = (s.streamAfterUse t e rest i).state :=
    (congrArg StreamRecord.state hw : w.unflagged.state = (s.streamAfterUse t e rest i).unflagged.state)
  have hplacement : (decodeHead { s with now := t }).report.placement = s.report.placement :=
    afterEffect_placement (c := .decode t) (fun h => by cases h) (fun _ h => by cases h) s
  have hstreams (j : StreamId) : (decodeHead { s with now := t }).streams.get j =
      if j = i then w else (s.streams.get j) := by
    rw [hdecode, setStream_get]
    split
    · rfl
    next hj => simp [hj, PerStream.get_set]
  refine flagsFollow_settle hplacement (by rw [hstreams, if_pos rfl, hstate]) (fun j hj => by rw [hstreams, if_neg hj])
    (fun hmoved => ?_) (fun hbefore hafter => ?_)
  · rw [hstreams, if_pos rfl, hflag, if_neg (hstate ▸ hmoved)]
  · rw [hstreams, if_pos rfl, hflag, if_pos ⟨hbefore, hstate.trans hafter⟩]

/-! ## What the end of an event compares with -/

/-- Two machines that read the same, with the same flags and the same quiet mark, before an event that both end alike. -/
theorem settle_congr {s v : State} (h : s.ReadsAs v) (hflags : ∀ i, (v.streams.get i).flag = (s.streams.get i).flag)
    (hquiet : v.link.quiet = s.link.quiet) (x : State) : settle v x = settle s x := by
  obtain ⟨hreported, -, halerts, hconditions, hparams, hsources, -⟩ := h
  have hmarks : marksQuiet v x = marksQuiet s x := by rw [marksQuiet, marksQuiet, hquiet]
  have hweighed : weighAlerts v x = weighAlerts s x := by simp only [weighAlerts, hconditions]
  have hfound (e : Bool) (y : State) : findLeading e v y = findLeading e s y := by simp only [findLeading, halerts]
  have hline (routing : Params → LineConfig) (y : State) (old : Bool) : lineAfter routing v y old = lineAfter routing s y old := by
    simp only [lineAfter, hparams, hsources]
  have hdriven (y : State) : driveLines v y = driveLines s y := by simp only [driveLines, hline]
  have hraised (y : State) : flagRaised v y = flagRaised s y := by simp only [flagRaised, hflags]
  have hchanges (e : Bool) (y : State) : reportChanges e v y = reportChanges e s y := by
    simp only [reportChanges, hreported, hraised]
  simp only [settle, hmarks, hweighed, hfound, hdriven, hchanges]

/-! ## Expiries that waited for a frame that is not used (R38, R58) -/

theorem expireHolds_congr {due due' : Time → Bool} {s : State}
    (h : ∀ a c x, s.table.stability.get a = some c → c.expiry = some x → due x = due' x) : expireHolds due s = expireHolds due' s := by
  have hcells : s.table.stability.map (expireCell due) = s.table.stability.map (expireCell due') := PerAxle.ext_get fun a => by
    rw [PerAxle.get_map, PerAxle.get_map]
    cases hcell : s.table.stability.get a with
    | none => rfl
    | some c =>
      cases hexpiry : c.expiry with
      | none => simp [expireCell, hexpiry]
      | some x => simp [expireCell, hexpiry, h a c x hcell hexpiry]
  simp only [expireHolds, hcells]

theorem readsAs_closeHolds (s : State) (t : Time) (e : IntakeEntry) : s.ReadsAs (closeHolds e { s with now := t }) :=
  readsAs_of_same (by simp) (by simp) (by simp) (by simp) (by simp) (by simp) (by simp) (by simp) (.inl (by simp)) (by simp)

/-- The end of the decode of an entry that is not used, from the machine `treated` that its treatment leaves: the holds, then the
window, each as the command of its expiry has it. -/
theorem closedBy_of_treated {s treated v w : State} {t : Time} {e : IntakeEntry} {i : StreamId} (hrole : e.role = .stream i)
    (htable : treated.table = s.table) (hv : v = closeHolds e { treated with now := t }) (hw : w = settle v (closeWindow e s v)) :
    s.closedBy treated w t e i := by
  have hnow : v.now = t := by simp [hv]
  have hsame : settle v v = v := settle_of_readsAs
    ⟨rfl, flagRaised_same fun _ => rfl, rfl, fun _ => rfl, rfl, fun _ => rfl, marksQuiet_same rfl⟩
  have hstream : v.streams = treated.streams := by simp [hv]
  refine ⟨v, fun hlasts => ?_, fun hi hwaited => ?_, fun hopen => ?_, fun d hbefore hafter harrival => ?_⟩
  · rw [hv, closeHolds]
    split
    next hstability =>
      have hi : i = .stability := Role.stream.inj (hrole.symm.trans hstability)
      refine expireHolds_of_none_due fun a c x hcell hexpiry => ?_
      have hcell' : s.table.stability.get a = some c := htable ▸ hcell
      rw [Bool.and_eq_false_imp]
      intro hearly
      rw [holdDue, Bool.and_eq_false_imp]
      intro hreached
      rw [hlasts hi a c x hcell' hexpiry hreached] at hearly
      cases hearly
    · rfl
  · refine exec_unseen (fun h => by cases h) ?_ (hv ▸ readsAs_closeHolds treated t e)
    rw [hv, closeHolds, if_pos (hi ▸ hrole)]
    refine (expireHolds_congr (s := { treated with now := t }) (due' := holdDue { treated with now := t })
      fun a c x hcell hexpiry => ?_).symm
    have hcell' : s.table.stability.get a = some c := htable ▸ hcell
    cases hreached : reached t x with
    | false => simp [holdDue, hreached]
    | true => simp [hwaited a c x hcell' hexpiry hreached]
  · rw [hw, closeWindow_of_not_due hrole fun d hdue hbefore => ?_, hsame]
    obtain ⟨hdeadline, hreached, -⟩ := windowDue_eq_some_iff.1 hdue
    exact hopen d hbefore (hstream ▸ hdeadline) (hnow ▸ hreached)
  · have hexpires : closeWindow e s v = expireIfDue i v := by
      rw [expireIfDue]
      cases hdue : windowDue i v with
      | none => exact closeWindow_of_not_due hrole fun x hx => by simp [hdue] at hx
      | some x =>
        obtain ⟨hdeadline, -⟩ := windowDue_eq_some_iff.1 hdue
        rw [hstream, hafter] at hdeadline
        obtain rfl : d = x := Option.some.inj hdeadline
        exact closeWindow_of_due hrole hdue hbefore harrival
    have hself : ({ v with now := t } : State) = v := by rw [← hnow]
    have heffect : afterEffect (.windowExpiry t i) v = expireIfDue i v := by
      change expireIfDue i { v with now := t } = _
      rw [hself]
    rw [exec_eq_settle (fun h => by cases h), heffect, hw, hexpires]

/-! ## The link controller through a decode -/

@[simp] theorem fadeCause_link (s : State) : (fadeCause s).link = s.link := by
  unfold fadeCause
  split
  · simp [enterMode_link]
  · rfl

@[simp] theorem handAxleChange_link (a : Axle) (old : AxleState) (s : State) : (handAxleChange a old s).link = s.link := by
  have htold (v : State) : (tellAxleChange v).link = v.link := by
    unfold tellAxleChange
    split
    · simp
    · rfl
  simp only [handAxleChange]
  split
  · rfl
  · split <;> simp [htold]

@[simp] theorem tellDemand_link (s : State) : (tellDemand s).link = s.link := by
  unfold tellDemand
  split
  · split
    · simp [enterMode_link]
    · rfl
  · simp

@[simp] theorem useContent_link (i : StreamId) (tow : Bool) (e : IntakeEntry) (s : State) : (useContent i tow e s).link = s.link := by
  cases i <;> simp [useContent, useDemand, useStatus, superviseAxle, useStability, useTow]

@[simp] theorem expireWindow_link (i : StreamId) (d : Time) (s : State) : (expireWindow i d s).link = s.link := by
  simp only [expireWindow]
  split
  · cases i <;> simp [enterLost, loseStatus, loseAxle, loseStability, setStream]
  · rfl

@[simp] theorem closeWindow_link (e : IntakeEntry) (before s : State) : (closeWindow e before s).link = s.link := by
  unfold closeWindow
  split
  · split
    · rfl
    · split
      · simp
      · rfl
  · rfl
  · rfl

end Sys2Proof.Machine

namespace Sys2Proof.Machine

/-! Frames that are not used (O16, O17). -/

/-! ## The judgement of a frame (R34, R37) -/

theorem judgeFrame_of_repeat {r : StreamRecord} {e : IntakeEntry} (h : r.lastSequence = some e.sequence) :
    judgeFrame r e = .repeated := by
  simp [judgeFrame, h]

theorem judgeFrame_of_lost {r : StreamRecord} {e : IntakeEntry} {d : Time} (hnew : r.lastSequence ≠ some e.sequence)
    (hlost : r.state = .lost) (hd : r.deadline = some d) (hfew : earlier e.arrival d = true → r.qualifying < 2) :
    judgeFrame r e = if earlier e.arrival d = true then .qualifies else .restarts := by
  have hbefore : beforeDeadline r e.arrival = earlier e.arrival d := by rw [beforeDeadline, hd]
  simp only [judgeFrame, if_neg hnew, hlost, hbefore]
  split
  next hearly =>
    have : ¬ Config.qualifyingTarget ≤ r.qualifying + 1 := by
      have := hfew hearly
      rw [Config.qualifyingTarget]
      omega
    rw [if_neg this]
  · rfl

/-- The counter of clamped DEMAND torques rises with a torque beyond the maximum (R30). -/
theorem countClamp_eq {e : IntakeEntry} {s : State} {i : StreamId} (hrole : e.role = .stream i) : countClamp e s =
    { s with report.counters.demandClamps :=
        if i = .demand ∧
            clampTo (-s.par.demandMax) s.par.demandMax (payloadWord e.payload 1).toInt ≠ (payloadWord e.payload 1).toInt
        then min (s.report.counters.demandClamps + 1) 65535 else s.report.counters.demandClamps } := by
  have hclamped : e.role = .stream .demand ∧ demandClamped s.par e.payload = true ↔
      i = .demand ∧
        clampTo (-s.par.demandMax) s.par.demandMax (payloadWord e.payload 1).toInt ≠ (payloadWord e.payload 1).toInt := by
    rw [hrole, Role.stream.injEq, demandClamped, bne_iff_ne]
    rfl
  simp only [countClamp, hclamped]
  split <;> rfl

/-- The treatment of a frame that passes its checks and is not used. -/
theorem treatEntry_of_unused {s : State} {e : IntakeEntry} {i : StreamId} (hrole : e.role = .stream i)
    (hlength : e.length.toNat = e.expectedLength) (hpass : fieldsPass e.role e.payload)
    (hjudged : judgeFrame (s.streams.get i) e ≠ .used) :
    treatEntry e s =
      setStream i ((s.streams.get i).afterFrame e (judgeFrame (s.streams.get i) e)) (countClamp e s) := by
  have hfields := failingField_of_fieldsPass hpass
  rw [hrole] at hfields
  simp [treatEntry, hlength, hfields, handEntry, hrole, takeSupervised, hjudged]

/-- The decode of an entry that leaves the stream states and flags as they were, once its treatment is known. -/
theorem decode_closedBy {s treated : State} {t : Time} {e : IntakeEntry} {rest : List IntakeEntry} {i : StreamId}
    (hintake : s.intake = e :: rest) (hrole : e.role = .stream i) (htable : treated.table = s.table)
    (htreat : treatEntry e { s with now := t, intake := rest } = { treated with now := t })
    (hreads : s.ReadsAs treated) (hflags : ∀ j, (treated.streams.get j).flag = (s.streams.get j).flag)
    (hlink : treated.link = s.link) :
    ∃ w, exec (.decode t) s = .next w ∧ s.closedBy treated w t e i := by
  obtain ⟨v, hv⟩ : ∃ v, v = closeHolds e { treated with now := t } := ⟨_, rfl⟩
  have heffect : afterEffect (.decode t) s = closeWindow e s v := by
    change decodeHead { s with now := t } = _
    simp only [decodeHead, hintake, htreat, hv]
    rfl
  have hclosed : treated.ReadsAs v := hv ▸ readsAs_closeHolds treated t e
  have hsettle : settle v (closeWindow e s v) = settle s (closeWindow e s v) :=
    (settle_congr hclosed (fun j => by simp [hv]) (by simp [hv]) _).trans (settle_congr hreads hflags (by rw [hlink]) _)
  exact ⟨settle s (closeWindow e s v), by rw [exec_eq_settle (fun h => by cases h), heffect],
    closedBy_of_treated hrole htable hv hsettle.symm⟩

/-- Settles O17. -/
theorem repeatAndQualifyingFramesAreNotUsed : Obligations.RepeatAndQualifyingFramesAreNotUsed := by
  unfold Obligations.RepeatAndQualifyingFramesAreNotUsed
  intro s treated t e rest i clamps r hhead hpass hclamps hcases htreated
  obtain ⟨hintake, hrole, hlength⟩ := hhead
  have hjudged : judgeFrame (s.streams.get i) e ≠ .used ∧
      (s.streams.get i).afterFrame e (judgeFrame (s.streams.get i) e) = r := by
    rcases hcases with ⟨hrepeat, hr⟩ | ⟨hnew, hlost, d, hd, hfew, hr⟩
    · rw [judgeFrame_of_repeat hrepeat, hr]
      exact ⟨(fun h => by cases h), rfl⟩
    · rw [judgeFrame_of_lost hnew hlost hd hfew, hr]
      split
      · exact ⟨(fun h => by cases h), rfl⟩
      · exact ⟨(fun h => by cases h), rfl⟩
  obtain ⟨hunused, hr⟩ := hjudged
  have hkept : r.state = (s.streams.get i).state ∧ r.flag = (s.streams.get i).flag := by
    rcases hcases with ⟨-, rfl⟩ | ⟨-, -, d, -, -, rfl⟩ <;> exact ⟨rfl, rfl⟩
  have hstream (j : StreamId) : (treated.streams.get j).state = (s.streams.get j).state ∧
      (treated.streams.get j).flag = (s.streams.get j).flag := by
    rw [htreated, PerStream.get_set]
    split
    next h => rw [h]; exact hkept
    · exact ⟨rfl, rfl⟩
  refine decode_closedBy hintake hrole (by rw [htreated]) ?_ ?_ (fun j => (hstream j).2) (by rw [htreated])
  · rw [treatEntry_of_unused (s := { s with now := t, intake := rest }) hrole hlength hpass hunused, countClamp_eq hrole, hr, htreated, hclamps]
    rfl
  · exact readsAs_of_shown (fun j => (hstream j).1) (flagRaised_same fun j => (hstream j).2) (by rw [htreated])
      (fun a => by rw [htreated]) (by rw [htreated]) (by rw [htreated]) (by rw [htreated]) (by rw [htreated]) (by rw [htreated])
      (.inl (by rw [htreated])) (by rw [htreated]; exact ⟨rfl, rfl, rfl, rfl, rfl, rfl⟩)

/-! ## Rejected frames (R29, R31, R65) -/

/-- The exception record after a rejected frame (R65). -/
def exceptionAfterReject (held : Option HeldException) (e : IntakeEntry) (index : Nat) (raw : Word16) : Option HeldException :=
  match held with
  | none => some { event := .reject e.role e.arrival index raw, further := 0 }
  | some h => some { h with further := min (h.further + 1) 255 }

theorem rejectFrame_eq (e : IntakeEntry) (index : Nat) (raw : Word16) (s : State) : rejectFrame e index raw s =
    { s with
      report.counters.rejectedFrames := min (s.report.counters.rejectedFrames + 1) 65535
      exception := exceptionAfterReject s.exception e index raw } := by
  cases h : s.exception <;> simp [rejectFrame, takeException, countRejected, exceptionAfterReject, h, countUp, saturatingUp,
    Config.counterMax, Config.smallCounterMax]

theorem capRejected_iff (cap : Nat) : capRejected cap = true ↔ 16001 ≤ cap ∧ cap ≤ 65534 := by
  simp [capRejected]

theorem directionCode_eq_three_iff (ws : List Word16) : directionCode ws = 3 ↔ (payloadWord ws 2).toNat % 4 = 3 := by
  rw [← BitVec.toNat_inj, directionCode, extract_toNat, pow_zero, Nat.div_one]
  rfl

/-- The treatment of a frame that fails a check: it is rejected with its field's index and raw value, and a wrong length alone
is counted at its stream. -/
theorem treatEntry_of_rejected {s : State} {e : IntakeEntry} {index : Nat} {raw : Word16}
    (h : e.length.toNat ≠ e.expectedLength ∧ index = 0 ∧ raw = BitVec.ofNat 16 e.length.toNat ∨
      e.length.toNat = e.expectedLength ∧
        (e.role = .stream .demand ∧
            ((payloadWord e.payload 2).toNat % 4 = 3 ∧ index = 3 ∧ raw = 3 ∨
              (payloadWord e.payload 2).toNat % 4 ≠ 3 ∧ 1 < (payloadWord e.payload 3).toNat ∧ index = 4 ∧ raw = payloadWord e.payload 3) ∨
          e.role = .stream .stability ∧
            (16001 ≤ (payloadWord e.payload 1).toNat ∧ (payloadWord e.payload 1).toNat ≤ 65534 ∧ index = 1 ∧
                raw = payloadWord e.payload 1 ∨
              ¬ (16001 ≤ (payloadWord e.payload 1).toNat ∧ (payloadWord e.payload 1).toNat ≤ 65534) ∧
                16001 ≤ (payloadWord e.payload 2).toNat ∧ (payloadWord e.payload 2).toNat ≤ 65534 ∧ index = 2 ∧
                raw = payloadWord e.payload 2))) :
    treatEntry e s = rejectFrame e index raw (if index = 0 then countMalformed e.role s else s) := by
  rcases h with ⟨hlength, rfl, rfl⟩ | ⟨hlength, hfield⟩
  · rw [treatEntry, if_pos hlength, if_pos rfl]
  · have hfails : failingField e.role e.payload = some (index, raw) ∧ index ≠ 0 := by
      rcases hfield with ⟨hrole, ⟨hcode, rfl, rfl⟩ | ⟨hcode, hprofile, rfl, rfl⟩⟩ |
        ⟨hrole, ⟨hlow, hhigh, rfl, rfl⟩ | ⟨hfront, hlow, hhigh, rfl, rfl⟩⟩
      · rw [hrole, failingField, if_pos ((directionCode_eq_three_iff _).2 hcode)]
        exact ⟨rfl, by decide⟩
      · rw [hrole, failingField, if_neg (directionCode_ne_three hcode), if_pos hprofile]
        exact ⟨rfl, by decide⟩
      · have hcut : capRejected (stabilityCapField e.payload .front) = true := (capRejected_iff _).2 ⟨hlow, hhigh⟩
        rw [hrole, failingField, if_pos hcut]
        exact ⟨rfl, by decide⟩
      · have hkept : capRejected (stabilityCapField e.payload .front) = false := capRejected_eq_false hfront
        have hcut : capRejected (stabilityCapField e.payload .rear) = true := (capRejected_iff _).2 ⟨hlow, hhigh⟩
        rw [hrole, failingField, hkept, if_neg Bool.false_ne_true, if_pos hcut]
        exact ⟨rfl, by decide⟩
    obtain ⟨hfails, hindex⟩ := hfails
    rw [treatEntry, if_neg (not_not.2 hlength), hfails, if_neg hindex]

/-- The machine with a rejected frame taken out of its queue, counted and recorded. -/
def State.frameRejected (s : State) (e : IntakeEntry) (rest : List IntakeEntry) (index : Nat) (raw : Word16) : State :=
  { s with
    intake := rest
    streams := match e.role with
      | .stream i =>
        if index = 0 then
          s.streams.set i { s.streams.get i with malformed := min ((s.streams.get i).malformed + 1) 65535 }
        else s.streams
      | .query => s.streams
      | .alertSeen => s.streams
    report.counters.rejectedFrames := min (s.report.counters.rejectedFrames + 1) 65535
    exception := exceptionAfterReject s.exception e index raw }

theorem rejectFrame_frameRejected (s : State) (t : Time) (e : IntakeEntry) (rest : List IntakeEntry) (index : Nat) (raw : Word16) :
    rejectFrame e index raw (if index = 0 then countMalformed e.role { s with now := t, intake := rest }
      else { s with now := t, intake := rest }) = { s.frameRejected e rest index raw with now := t } := by
  rw [rejectFrame_eq]
  unfold State.frameRejected
  by_cases hindex : index = 0
  · cases hrole : e.role with
    | stream i => simp [hindex, countMalformed, setStream, countUp, saturatingUp, Config.counterMax]
    | query => simp [hindex, countMalformed]
    | alertSeen => simp [hindex, countMalformed]
  · cases e.role <;> simp [hindex]

/-- Settles O16. -/
theorem rejectedFrameChangesNoStream : Obligations.RejectedFrameChangesNoStream := by
  unfold Obligations.RejectedFrameChangesNoStream
  intro s t e rest index raw hintake hrejected
  obtain ⟨treated, htreated⟩ : ∃ treated, treated = s.frameRejected e rest index raw := ⟨_, rfl⟩
  have htreat : treatEntry e { s with now := t, intake := rest } = { treated with now := t } := by
    rw [treatEntry_of_rejected hrejected, htreated, rejectFrame_frameRejected]
  obtain ⟨v, hv⟩ : ∃ v, v = closeHolds e { treated with now := t } := ⟨_, rfl⟩
  have heffect : afterEffect (.decode t) s = closeWindow e s v := by
    change decodeHead { s with now := t } = _
    simp only [decodeHead, hintake, htreat, hv]
    rfl
  have hlink : v.link = s.link := by simp [hv, htreated, State.frameRejected]
  refine ⟨settle s (closeWindow e s v), settle v (closeWindow e s v), treated, by rw [exec_eq_settle (fun h => by cases h), heffect],
    ?_, fun i hrole => ?_, fun hother => ?_, htreated⟩
  · rw [State.sameButReports, settle_unreported s _ (marksQuiet_same (by simp [hlink])), settle_unreported v _ (marksQuiet_same (by simp))]
  · exact closedBy_of_treated hrole (by rw [htreated]; rfl) hv rfl
  · have hstays : closeWindow e s v = v ∧ v = { treated with now := t } := by
      rw [hv]
      rcases hother with h | h <;> simp [closeWindow, closeHolds, h]
    rw [hstays.1, settle_of_readsAs ⟨rfl, flagRaised_same fun _ => rfl, rfl, fun _ => rfl, rfl, fun _ => rfl, marksQuiet_same rfl⟩]
    exact hstays.2

end Sys2Proof.Machine

namespace Sys2Proof.Machine

/-! Frames of the POWER, REFERENCE and TOW streams that are used (O18). -/

theorem PerStream.set_set {α : Type} (p : PerStream α) (i : StreamId) (v w : α) : (p.set i v).set i w = p.set i w := by
  cases i <;> rfl

/-- Two machines whose streams differ in their flags alone are the same but for what the report unit writes. -/
theorem unreported_of_streams {s v : State} (h : s.streams.map StreamRecord.unflagged = v.streams.map StreamRecord.unflagged)
    (hrest : ({ s with streams := v.streams } : State) = v) : s.unreported = v.unreported := by
  rw [← hrest]
  simp only [State.unreported, h]

theorem set_map_unflagged {p : PerStream StreamRecord} {i : StreamId} {v w : StreamRecord} (h : v.unflagged = w.unflagged) :
    (p.set i v).map StreamRecord.unflagged = (p.set i w).map StreamRecord.unflagged := by
  cases i <;> simp [PerStream.set, PerStream.map, h]

/-- The frame taken out of its queue, for a stream whose frames carry no torque to clamp. -/
theorem frameTaken_eq {s : State} (t : Time) {e : IntakeEntry} (rest : List IntakeEntry) {i : StreamId} (hrole : e.role = .stream i)
    (hi : i ≠ .demand) : s.frameTaken t e rest i =
      { s with now := t, intake := rest, streams := s.streams.set i ((s.streams.get i).afterUse e) } := by
  rw [State.frameTaken, countClamp_eq hrole]
  simp [setStream, hi]

theorem fieldsPass_of_other {e : IntakeEntry} {i : StreamId} (hrole : e.role = .stream i) (hdemand : i ≠ .demand)
    (hstability : i ≠ .stability) : fieldsPass e.role e.payload := by
  rw [hrole]
  exact ⟨fun h => absurd (Role.stream.inj h) hdemand, fun h => absurd (Role.stream.inj h) hstability⟩

theorem closeHolds_of_other {e : IntakeEntry} {i : StreamId} (hrole : e.role = .stream i) (hi : i ≠ .stability) (s : State) :
    closeHolds e s = s := by
  rw [closeHolds, if_neg]
  rw [hrole]
  exact fun h => hi (Role.stream.inj h)

/-- The event of a used frame of a stream other than STABILITY: its own effects, and what the record is at its end. -/
theorem decode_of_used {s : State} {e : IntakeEntry} {rest : List IntakeEntry} {i : StreamId} (t : Time)
    (hhead : s.headIs e rest (.stream i)) (hpass : fieldsPass e.role e.payload) (huses : (s.streams.get i).uses e)
    (hi : i ≠ .stability) :
    ∃ w v, v = setStream i w (useContent i (currentTow s) e (s.frameTaken t e rest i)) ∧ afterEffect (.decode t) s = v ∧
      exec (.decode t) s = .next (settle s v) ∧ w.unflagged = (s.streamAfterUse t e rest i).unflagged ∧
      s.FlagsFollow (settle s v) i (s.streamAfterUse t e rest i).state ∧ marksQuiet s v = false := by
  obtain ⟨-, hrole, -⟩ := id hhead
  obtain ⟨w, hdecode, hw, -⟩ := decodeHead_of_used t hhead hpass huses
  rw [closeHolds_of_other hrole hi] at hdecode
  obtain ⟨v, hv⟩ : ∃ v, v = setStream i w (useContent i (currentTow s) e (s.frameTaken t e rest i)) := ⟨_, rfl⟩
  have heffect : afterEffect (.decode t) s = v := by rw [hv, ← hdecode]; rfl
  refine ⟨w, v, hv, heffect, by rw [exec_eq_settle (fun h => by cases h), heffect], hw, ?_, marksQuiet_same (by simp [hv, setStream])⟩
  have hflags := flagsFollow_decode (t := t) hhead hpass huses
  rwa [hdecode, ← hv] at hflags

/-- A used TOW frame writes its record, and rewrites the DRIVELINE row where the tow state changes (R51). -/
theorem useTow_eq (before : Bool) (e : IntakeEntry) {s : State} (hfresh : s.streams.tow.state = .fresh) : useTow before e s =
    { s with
      records.towPresent := towContent e.payload
      table.driveline := if towContent e.payload = before then s.table.driveline
        else PerAxle.of fun a => some (symmetric (drivelineLimit s.par (towContent e.payload) a)) } := by
  have hcurrent : currentTow { s with records.towPresent := towContent e.payload } = towContent e.payload := by
    simp [currentTow, towState, hfresh]
  simp only [useTow, rewriteDriveline, hcurrent]
  split <;> rfl

/-- Settles O18. -/
theorem powerReferenceAndTowFramesSetTheirRecords : Obligations.PowerReferenceAndTowFramesSetTheirRecords := by
  unfold Obligations.PowerReferenceAndTowFramesSetTheirRecords
  refine ⟨fun ws k => rfl, fun lo hi v h => clampTo_eq v h, fun s t e rest i p before hhead huses hp hbefore => ?_⟩
  obtain ⟨-, hrole, -⟩ := id hhead
  refine ⟨fun u hu hi => ?_, fun hi => ?_, fun hi => ?_, fun hi => ?_⟩
  · have hdemand : i ≠ .demand := by rcases hi with rfl | rfl | rfl <;> decide
    have hstability : i ≠ .stability := by rcases hi with rfl | rfl | rfl <;> decide
    obtain ⟨w, v, -, -, hexec, -, hflags, -⟩ := decode_of_used t hhead (fieldsPass_of_other hrole hdemand hstability) huses hstability
    rw [hexec] at hu
    exact Host.Outcome.next.inj hu ▸ hflags
  · subst hi
    obtain ⟨w, v, hv, -, hexec, hw, -, hmarks⟩ := decode_of_used t hhead (fieldsPass_of_other hrole (by decide) (by decide)) huses (by decide)
    refine ⟨_, hexec, ?_⟩
    rw [State.sameButReports, settle_unreported s v hmarks, hv, frameTaken_eq t rest hrole (by decide)]
    simp only [useContent, setStream, PerStream.set_set]
    exact unreported_of_streams (set_map_unflagged hw) rfl
  · subst hi
    obtain ⟨w, v, hv, -, hexec, hw, -, hmarks⟩ := decode_of_used t hhead (fieldsPass_of_other hrole (by decide) (by decide)) huses (by decide)
    refine ⟨_, hexec, ?_⟩
    rw [State.sameButReports, settle_unreported s v hmarks, hv, frameTaken_eq t rest hrole (by decide)]
    simp only [useContent, setStream, PerStream.set_set]
    exact unreported_of_streams (set_map_unflagged hw) rfl
  · subst hi
    obtain ⟨w, v, hv, -, hexec, hw, -, hmarks⟩ := decode_of_used t hhead (fieldsPass_of_other hrole (by decide) (by decide)) huses (by decide)
    rw [useContent, useTow_eq (currentTow s) e (by simp [frameTaken_eq t rest hrole, PerStream.set, StreamRecord.afterUse]),
      frameTaken_eq t rest hrole (by decide)] at hv
    have hcurrent : currentTow s = true ↔ before := by rw [currentTow, towState_iff, hbefore]
    have htable : (settle s v).table = v.table := by simp
    have hpar : s.par = p := par_of_params hp
    refine ⟨settle s v, hexec, ?_, ?_, fun hsame => ?_, fun hpresent hnot => ?_, fun habsent hwas => ?_⟩
    · rw [State.sameButReports, settle_unreported s v hmarks, htable, hv]
      simp only [setStream, PerStream.set_set]
      exact unreported_of_streams (set_map_unflagged hw) rfl
    · rw [htable, hv]
      rfl
    all_goals
      have hrow : (settle s v).table.driveline = if towContent e.payload = currentTow s then s.table.driveline
          else PerAxle.of fun a => some (symmetric (drivelineLimit s.par (towContent e.payload) a)) := by
        rw [htable, hv]
        rfl
    · rw [hrow, if_pos]
      exact Bool.eq_iff_iff.2 (hsame.trans hcurrent.symm)
    · have hmoved : ¬ towContent e.payload = currentTow s := fun h => hnot (hcurrent.1 (h.symm.trans hpresent))
      have hcontent : towContent e.payload = true := hpresent
      intro a
      rw [hrow, if_neg hmoved, PerAxle.get_of, hpar, hcontent]
      rfl
    · have hcontent : towContent e.payload = false := habsent
      have hmoved : ¬ towContent e.payload = currentTow s := fun h => by
        rw [hcontent, hcurrent.2 hwas] at h
        cases h
      intro a
      rw [hrow, if_neg hmoved, PerAxle.get_of, hpar, hcontent]
      rfl

end Sys2Proof.Machine

namespace Sys2Proof.Machine

/-! Frames of the DEMAND stream that are used (O21, O22, O23). -/

/-- A taken request is a request in the statements' sense, in a machine that is otherwise what the request found. -/
theorem passRequested_of_requestPass {s x u : State} (hflight : x.engine.flight = s.engine.flight)
    (hpending : x.engine.pendingPass = s.engine.pendingPass) (htimer : x.engine.timer = s.engine.timer)
    (hengine : u.engine = (requestPass x).engine) (hmode : u.modes = x.modes) (hnow : u.now = x.now) (htable : u.table = x.table) :
    s.PassRequested u := by
  refine ⟨fun hruns hidle => ?_, fun sn hruns hfly => ?_, fun hstill => ?_⟩
  · rw [hmode] at hruns
    rw [hengine, requestPass_of_idle hruns (hflight.trans hidle), hmode, hnow, htable]
    exact ⟨takeSnapshot x, rfl, rfl, rfl, rfl, rfl⟩
  · rw [hmode] at hruns
    rw [hengine, requestPass_of_flying hruns (hflight.trans hfly)]
    exact ⟨hflight.trans hfly, rfl⟩
  · rw [hmode] at hstill
    rw [hengine, requestPass_of_still hstill]
    exact ⟨hflight, hpending, htimer⟩

theorem directionCode_eq_iff (ws : List Word16) (c : BitVec 2) : directionCode ws = c ↔ (payloadWord ws 2).toNat % 4 = c.toNat := by
  rw [← BitVec.toNat_inj, directionCode, extract_toNat, pow_zero, Nat.div_one]
  rfl

/-- A demand record that holds what the payload carries is the content of the frame. -/
theorem demandContent_of_carriedBy {d : DemandRecord} {p : Params} {e : IntakeEntry} (hrole : e.role = .stream .demand)
    (hpass : fieldsPass e.role e.payload) (h : d.carriedBy p e.payload) : demandContent p e.payload = d := by
  obtain ⟨torque, ready, direction, profile⟩ := d
  obtain ⟨htorque, hready, hneutral, hforward, hreverse, hnormal, hlow⟩ := h
  obtain ⟨hcode, hprofile⟩ := hpass.1 hrole
  have hdirection : directionOf (directionCode e.payload) = direction := by
    have hone : directionCode e.payload = 1 ↔ direction = .forward := (directionCode_eq_iff e.payload 1).trans hforward.symm
    have htwo : directionCode e.payload = 2 ↔ direction = .reverse := (directionCode_eq_iff e.payload 2).trans hreverse.symm
    unfold directionOf
    split
    next h1 => exact (hone.1 h1).symm
    next h1 =>
      split
      next h2 => exact (htwo.1 h2).symm
      next h2 => cases direction with
        | neutral => rfl
        | forward => exact absurd (hone.2 rfl) h1
        | reverse => exact absurd (htwo.2 rfl) h2
  have hread : (payloadWord e.payload 2).getLsbD 15 = ready := by
    rw [Bool.eq_iff_iff, bit_iff]
    refine Iff.trans ?_ hready.symm
    have := (payloadWord e.payload 2).isLt
    omega
  have hgrip : (if payloadWord e.payload 3 = 1 then Profile.lowGrip else .normal) = profile := by
    have hone : payloadWord e.payload 3 = 1 ↔ profile = .lowGrip := by
      rw [← BitVec.toNat_inj]
      exact hlow.symm
    split
    next h1 => exact (hone.1 h1).symm
    next h1 => cases profile with
      | normal => rfl
      | lowGrip => exact absurd (hone.2 rfl) h1
  rw [demandContent, hdirection, hread, hgrip, payloadInt, ← htorque]

/-- The machine in which a used DEMAND frame acts on the modes and on the engine: the frame taken out, the stream FRESH with the
record `d`, and a clamp counted. -/
def State.demanded (s : State) (t : Time) (e : IntakeEntry) (rest : List IntakeEntry) (d : DemandRecord) : State :=
  { s with
    now := t
    intake := rest
    streams := s.streams.set .demand (s.streams.demand.afterUse e)
    records.demand := d
    report.counters.demandClamps :=
      if clampTo (-s.par.demandMax) s.par.demandMax (payloadWord e.payload 1).toInt = (payloadWord e.payload 1).toInt then
        s.report.counters.demandClamps else min (s.report.counters.demandClamps + 1) 65535 }

theorem useDemand_frameTaken {s : State} {t : Time} {e : IntakeEntry} {rest : List IntakeEntry} {d : DemandRecord}
    (hrole : e.role = .stream .demand) (hpass : fieldsPass e.role e.payload) (hd : d.carriedBy s.par e.payload) :
    useDemand e (s.frameTaken t e rest .demand) = requestPass (tellDemand (s.demanded t e rest d)) := by
  have hpar : (s.frameTaken t e rest .demand).par = s.par := by simp [State.par]
  rw [useDemand, hpar, demandContent_of_carriedBy hrole hpass hd, State.frameTaken, countClamp_eq hrole]
  have hp : ({ s with now := t, intake := rest } : State).par = s.par := rfl
  by_cases h : clampTo (-s.par.demandMax) s.par.demandMax (payloadWord e.payload 1).toInt = (payloadWord e.payload 1).toInt <;>
    simp [State.demanded, setStream, PerStream.get, hp, h]

/-- The event of a used DEMAND frame. -/
theorem decode_demand {s : State} {e : IntakeEntry} {rest : List IntakeEntry} {d : DemandRecord} (t : Time)
    (hhead : s.headIs e rest (.stream .demand)) (hpass : fieldsPass e.role e.payload) (hd : d.carriedBy s.par e.payload)
    (huses : s.streams.demand.uses e) :
    ∃ w v, v = setStream .demand w (requestPass (tellDemand (s.demanded t e rest d))) ∧
      exec (.decode t) s = .next (settle s v) ∧ w.unflagged = (s.streamAfterUse t e rest .demand).unflagged ∧
      s.FlagsFollow (settle s v) .demand (s.streamAfterUse t e rest .demand).state ∧ marksQuiet s v = false := by
  obtain ⟨-, hrole, -⟩ := id hhead
  obtain ⟨w, v, hv, -, hexec, hw, hflags, hmarks⟩ := decode_of_used t hhead hpass huses (by decide)
  rw [useContent, useDemand_frameTaken hrole hpass hd] at hv
  exact ⟨w, v, hv, hexec, hw, hflags, hmarks⟩

theorem mayWake_demanded (s : State) (t : Time) (e : IntakeEntry) (rest : List IntakeEntry) (d : DemandRecord) :
    mayWake (s.demanded t e rest d) = mayWake s := rfl

/-- A demand that neither wakes the part nor fades it moves no mode. -/
theorem tellDemand_of_ignored {s : State} (hmode : s.modes.mode ≠ .driving) (h : s.records.demand.ready = true → mayWake s = false) :
    tellDemand s = s := by
  unfold tellDemand
  split
  next hready => rw [if_neg (by simp [h hready])]
  next => exact fadeCause_of_other hmode

/-- Settles O22. -/
theorem demandThatWakesNothingSetsItsRecord : Obligations.DemandThatWakesNothingSetsItsRecord := by
  unfold Obligations.DemandThatWakesNothingSetsItsRecord
  intro s t e rest d hhead hpass hd huses hmode hignored
  obtain ⟨w, v, hv, hexec, hw, hflags, hmarks⟩ := decode_demand t hhead hpass hd huses
  obtain ⟨x, hx⟩ : ∃ x, x = s.demanded t e rest d := ⟨_, rfl⟩
  have hwake : d.ready = true → mayWake s = false := by
    intro hready
    rw [← Bool.not_eq_true]
    intro hmay
    simp only [mayWake, Bool.and_eq_true, Bool.or_eq_true, beq_iff_eq, bne_iff_ne, Bool.not_eq_true'] at hmay
    obtain ⟨⟨⟨hm, hhold⟩, hlink⟩, hable⟩ := hmay
    rcases hignored hm with h | h | h | ⟨hfront, hrear⟩
    · simp [hready] at h
    · simp [hhold] at h
    · exact hlink h
    · simp [hfront, hrear] at hable
  have htold : tellDemand x = x := tellDemand_of_ignored (by rw [hx]; exact hmode) (by rw [hx]; exact hwake)
  rw [← hx, htold, requestPass_eq] at hv
  have hengine : (settle s v).engine = (requestPass x).engine := by simp [hv, setStream]
  have hmodes : x.modes = s.modes := by rw [hx]; rfl
  have hxengine : x.engine = s.engine := by rw [hx]; rfl
  have hmark : marksQuiet s v = false := hmarks
  refine ⟨settle s v, hexec, ?_, ?_, hflags, fun sn hfly hruns => ?_, fun hstill => ?_, fun hidle sn hsn => ?_⟩
  · rw [State.sameButReports, settle_unreported s v hmark, hengine, hv]
    refine unreported_of_streams ?_ ?_
    · simp only [setStream, hx, State.demanded, PerStream.set_set]
      exact set_map_unflagged hw
    · simp only [setStream, hx, State.demanded, PerStream.set]
  · exact passRequested_of_requestPass (x := x) (by rw [hxengine]) (by rw [hxengine]) (by rw [hxengine]) hengine
      (by simp [hv, setStream]) (by simp [hv, setStream]) (by simp [hv, setStream])
  · rw [hengine, requestPass_of_flying (hmodes ▸ hruns) (hxengine ▸ hfly), ← hxengine]
  · rw [hengine, requestPass_of_still (hmodes ▸ hstill), hxengine]
  · rw [hengine] at hsn
    cases hruns : x.modes.mode.runsPasses
    · rw [requestPass_of_still hruns, hxengine, hidle] at hsn
      cases hsn
    · rw [requestPass_of_idle hruns (hxengine ▸ hidle)] at hsn
      rw [← Option.some.inj hsn, hx]
      rfl

/-- A demand moves the modes and the engine alone, where it resets nothing. -/
theorem requestPass_tellDemand_of_driving {x : State} (hmode : x.modes.mode = .driving) :
    ∃ m g, requestPass (tellDemand x) = { x with modes := m, engine := g } ∧
      m.mode = (if x.records.demand.ready then .driving else .fading) ∧ g.previous = x.engine.previous ∧
      (∀ sn, x.engine.flight = some sn → g = { x.engine with pendingPass := true }) ∧
      (x.engine.flight = none →
        ∃ sn, g.flight = some sn ∧ sn.mode = m.mode ∧ sn.time = x.now ∧ sn.demand = x.records.demand ∧ sn.table = x.table ∧
          g.timer = some (later x.now x.par.maxPassInterval) ∧ g.lastStart = x.now ∧ g.pendingPass = !x.records.demand.ready) := by
  cases hready : x.records.demand.ready
  · obtain ⟨y, hy⟩ : ∃ y, y = writeMode .fading .none x := ⟨_, rfl⟩
    have htold : tellDemand x = requestPass y := by rw [tellDemand, hready, hy]; exact fadeCause_of_driving hmode
    have hruns : y.modes.mode.runsPasses = true := by rw [hy]; rfl
    rw [htold]
    cases hflight : x.engine.flight with
    | none =>
      have hidle : y.engine.flight = none := by rw [hy]; exact hflight
      rw [requestPass_of_idle hruns hidle, requestPass_of_flying (s := startPass y) hruns rfl, hy]
      exact ⟨_, _, rfl, rfl, rfl, fun _ h => by simp at h, fun _ => ⟨_, rfl, rfl, rfl, rfl, rfl, rfl, rfl, rfl⟩⟩
    | some sn =>
      have hfly : y.engine.flight = some sn := by rw [hy]; exact hflight
      rw [requestPass_of_flying hruns hfly, requestPass_of_flying (s := { y with engine.pendingPass := true }) hruns hfly, hy]
      exact ⟨_, _, rfl, rfl, rfl, fun _ _ => rfl, fun h => by simp at h⟩
  · have hwake : mayWake x = false := by simp [mayWake, hmode]
    have htold : tellDemand x = x := by rw [tellDemand, hready, if_pos rfl, hwake]; rfl
    have hruns : x.modes.mode.runsPasses = true := by rw [hmode]; rfl
    rw [htold]
    cases hflight : x.engine.flight with
    | none =>
      rw [requestPass_of_idle hruns hflight]
      exact ⟨_, _, rfl, hmode, rfl, fun _ h => by simp at h, fun _ => ⟨_, rfl, rfl, rfl, rfl, rfl, rfl, rfl, rfl⟩⟩
    | some sn =>
      rw [requestPass_of_flying hruns hflight]
      exact ⟨_, _, rfl, hmode, rfl, fun _ _ => rfl, fun h => by simp at h⟩

/-- Settles O23. -/
theorem demandInDrivingRequestsAPassOrFades : Obligations.DemandInDrivingRequestsAPassOrFades := by
  unfold Obligations.DemandInDrivingRequestsAPassOrFades
  intro s t e rest p d hhead hpass hd huses hp hmode
  have hpar : s.par = p := par_of_params hp
  obtain ⟨w, v, hv, hexec, hw, hflags, -⟩ := decode_demand t hhead hpass (hpar ▸ hd) huses
  obtain ⟨x, hx⟩ : ∃ x, x = s.demanded t e rest d := ⟨_, rfl⟩
  obtain ⟨m, g, hrequest, hm, hprevious, hflying, hidle⟩ := requestPass_tellDemand_of_driving (x := x) (by rw [hx]; exact hmode)
  rw [← hx, hrequest] at hv
  have hxengine : x.engine = s.engine := by rw [hx]; rfl
  have hxdemand : x.records.demand = d := by rw [hx]; rfl
  rw [hxengine] at hprevious hflying hidle
  rw [hxdemand] at hm hidle
  refine ⟨settle s v, hexec, ?_, ?_, ?_, ?_, hflags, ?_, ?_, ?_, ?_, ?_, ?_, ?_, ?_, fun sn hfly => ?_, fun hnone => ?_⟩
  · simp [hv, setStream, hm]
  · simp [hv, setStream, hx, State.demanded]
  · rw [show (settle s v).streams.demand = (settle s v).streams.get .demand from rfl, settle_stream_unflagged, hv, ← hw]
    rfl
  · simp [hv, setStream, hx, State.demanded]
  · simp [hv, setStream, hprevious]
  · simp [hv, setStream, hx, State.demanded]
  · simp [hv, setStream, hx, State.demanded]
  · simp [hv, setStream, hx, State.demanded]
  · simp [hv, setStream, hx, State.demanded]
  · simp [hv, setStream, hx, State.demanded]
  · simp [hv, setStream, hx, State.demanded]
  · simp [hv, setStream, hx, State.demanded, hpar]
  · simp [hv, setStream, hflying sn hfly]
  · have hstart := hidle hnone
    have htable : x.table = s.table := by rw [hx]; rfl
    have hnow : x.now = t := by rw [hx]; rfl
    have hxpar : x.par = p := by rw [hx]; exact hpar
    rw [htable, hnow, hxpar] at hstart
    simpa [hv, setStream] using hstart

/-- What a wake leaves as it was, and the mark it gives the first pass (R133). -/
theorem enterMode_driving_frame {x : State} (h : x.modes.mode = .dozing ∨ x.modes.mode = .fading) :
    (enterMode .driving .none x).modes = { x.modes with mode := .driving, cause := .none } ∧
    (enterMode .driving .none x).table.driveline = x.table.driveline ∧ (enterMode .driving .none x).table.axle = x.table.axle ∧
    (enterMode .driving .none x).table.inverter = x.table.inverter ∧ (enterMode .driving .none x).axles = x.axles ∧
    (enterMode .driving .none x).engine.flight = x.engine.flight ∧
    (enterMode .driving .none x).engine.firstPass = (decide (x.modes.mode = .dozing) || x.engine.firstPass) := by
  rcases h with h | h
  · rw [enterMode_driving_of_dozing _ h]
    simp [writeMode, h]
  · rw [enterMode_driving_of_other _ (by simp [h])]
    simp [writeMode, h]

/-- Settles O21. -/
theorem readyDemandWakesThePart : Obligations.ReadyDemandWakesThePart := by
  unfold Obligations.ReadyDemandWakesThePart
  refine ⟨fun x => by cases x <;> decide, fun s t e rest p d hhead hpass hd huses hp hmode hhold hlink hable hready => ?_⟩
  have hpar : s.par = p := par_of_params hp
  obtain ⟨w, v, hv, hexec, hw, hflags, -⟩ := decode_demand t hhead hpass (hpar ▸ hd) huses
  obtain ⟨x, hx⟩ : ∃ x, x = s.demanded t e rest d := ⟨_, rfl⟩
  obtain ⟨y, hy⟩ : ∃ y, y = enterMode .driving .none x := ⟨_, rfl⟩
  have hmay : mayWake x = true := by
    rw [hx, mayWake_demanded]
    simp only [mayWake, Bool.and_eq_true, Bool.or_eq_true, beq_iff_eq, bne_iff_ne, Bool.not_eq_true']
    exact ⟨⟨⟨hmode, hhold⟩, hlink⟩, hable⟩
  have htold : tellDemand x = y := by
    rw [tellDemand, if_pos (show x.records.demand.ready = true by rw [hx]; exact hready), if_pos hmay, hy]
  have hxmodes : x.modes = s.modes := by rw [hx]; rfl
  have hxengine : x.engine = s.engine := by rw [hx]; rfl
  obtain ⟨hmodes, hdriveline, haxle, hinverter, haxles, hflight, hfirst⟩ :=
    enterMode_driving_frame (x := x) (by rw [hxmodes]; exact hmode)
  rw [← hy, hxengine] at hflight hfirst
  rw [← hy] at hmodes hdriveline haxle hinverter haxles
  rw [hxmodes] at hmodes hfirst
  rw [← hx, htold, requestPass_eq] at hv
  have hengine : (settle s v).engine = (requestPass y).engine := by simp [hv, setStream]
  have hruns : y.modes.mode.runsPasses = true := by rw [hmodes]; rfl
  refine ⟨settle s v, hexec, ?_, ?_, ?_, hflags, ?_, ?_, ?_, ?_, ?_, ?_, ?_, ?_, fun hidle => ?_, fun hdozing hidle => ?_,
    fun hdozing sn hfly => ?_, fun hfading => ?_, fun hfading sn hfly => ?_⟩
  · simp [hv, setStream, hmodes]
  · simp [hv, setStream, hy, hx, State.demanded]
  · rw [show (settle s v).streams.demand = (settle s v).streams.get .demand from rfl, settle_stream_unflagged, hv, ← hw]
    rfl
  · simp [hv, setStream, hdriveline, hx, State.demanded]
  · simp [hv, setStream, haxle, hx, State.demanded]
  · simp [hv, setStream, hinverter, hx, State.demanded]
  · simp [hv, setStream, haxles, hx, State.demanded]
  · simp [hv, setStream, hy, hx, State.demanded]
  · simp [hv, setStream, hy, hx, State.demanded]
  · simp [hv, setStream, hy, hx, State.demanded]
  · simp [hv, setStream, hy, hx, State.demanded]
  · have hypar : y.par = p := by rw [← hpar, State.par, State.par, hy]; simp [hx, State.demanded]
    have hynow : y.now = t := by simp [hy, hx, State.demanded]
    rw [hengine, requestPass_of_idle hruns (hflight.trans hidle)]
    refine ⟨takeSnapshot y, rfl, by simp [takeSnapshot, hmodes], hynow, ?_, ?_, ?_, ?_, ?_, by simp [takeSnapshot, hv, setStream], hfirst, ?_, rfl,
      hynow, rfl⟩
    · simp [takeSnapshot, hy, hx, State.demanded]
    · simp [takeSnapshot, hy, hx, State.demanded, PerStream.set, StreamRecord.afterUse]
    · simp [takeSnapshot, hy, hx, State.demanded]
    · simp [takeSnapshot, hy, hx, State.demanded]
    · simp [takeSnapshot, hy, hx, State.demanded, hhold]
    · simp only [startPass, hynow, hypar]
  · have hyeq : y = _ := hy.trans (enterMode_driving_of_dozing .none (by rw [hxmodes]; exact hdozing))
    rw [driveResets_of_idle (by rw [writeMode, hxengine]; exact hidle)] at hyeq
    rw [hengine, (requestPass_engine_frame y).1]
    refine ⟨by rw [hyeq], by simp [hv, setStream, hyeq], fun a => ?_⟩
    cases a <;> simp [hv, setStream, hyeq, GripRegulator.reset, PerAxle.get]
  · have hyeq : y = _ := hy.trans (enterMode_driving_of_dozing .none (by rw [hxmodes]; exact hdozing))
    rw [resetOrDefer_of_flying (sn := sn) _ (by rw [writeMode, hxengine]; exact hfly)] at hyeq
    rw [hengine, requestPass_of_flying hruns (hflight.trans hfly), hyeq]
    refine ⟨by simp [hv, setStream, hyeq, writeMode, hx, State.demanded], ?_⟩
    simp only [writeMode, hxengine]
    rfl
  · have hyeq : y = _ := hy.trans (enterMode_driving_of_other .none (by simp [hxmodes, hfading]))
    rw [hengine, (requestPass_engine_frame y).1]
    simp [hv, setStream, hyeq, writeMode, hx, State.demanded]
  · have hyeq : y = _ := hy.trans (enterMode_driving_of_other .none (by simp [hxmodes, hfading]))
    rw [hengine, requestPass_of_flying hruns (hflight.trans hfly), hyeq]
    simp only [writeMode, hxengine]

end Sys2Proof.Machine

namespace Sys2Proof.Machine

/-! An axle moves, and the change of its state is handed on (R121): what status frames (O19, O20) and the loss of a status stream
(O27) have in common. -/

/-- A request that follows another, in a mode that runs passes, is one request to the statements: the pass that the first
started, or found in flight, stays in flight. -/
theorem passRequested_again {s y x : State} (h : s.PassRequested y) (hruns : y.modes.mode.runsPasses = true)
    (hengine : x.engine = y.engine) (hmode : x.modes = y.modes) (hnow : x.now = y.now) (htable : x.table = y.table) :
    s.PassRequested (requestPass x) := by
  obtain ⟨hstarts, hfollows, -⟩ := h
  refine ⟨fun _ hidle => ?_, fun sn _ hfly => ?_, fun hstill => ?_⟩
  · obtain ⟨sn, hsn, hrest⟩ := hstarts hruns hidle
    rw [requestPass_of_flying (hmode ▸ hruns) (hengine ▸ hsn), hmode, hnow, htable, hengine]
    exact ⟨sn, hsn, hrest⟩
  · obtain ⟨hsn, -⟩ := hfollows sn hruns hfly
    rw [requestPass_of_flying (hmode ▸ hruns) (hengine ▸ hsn)]
    exact ⟨hengine ▸ hsn, rfl⟩
  · rw [show (requestPass x).modes = x.modes by simp, hmode, hruns] at hstill
    cases hstill

theorem fadeCause_eq (s : State) :
    fadeCause s = { s with modes := (fadeCause s).modes, engine := (fadeCause s).engine } ∧
    (fadeCause s).engine.previous = s.engine.previous ∧ (fadeCause s).engine.deferred = s.engine.deferred ∧
    (fadeCause s).engine.result = s.engine.result := by
  by_cases h : s.modes.mode = .driving
  · obtain ⟨hprevious, hdeferred, -, hresult⟩ := requestPass_engine_frame (writeMode .fading .none s)
    rw [fadeCause_of_driving h]
    refine ⟨?_, hprevious, hdeferred, hresult⟩
    rw [requestPass_eq]
    simp [writeMode]
  · rw [fadeCause_of_other h]
    exact ⟨rfl, rfl, rfl, rfl⟩

theorem tellAxleChange_eq (s : State) :
    tellAxleChange s = { s with modes := (tellAxleChange s).modes, engine := (tellAxleChange s).engine } ∧
    (tellAxleChange s).engine.previous = s.engine.previous ∧ (tellAxleChange s).engine.deferred = s.engine.deferred ∧
    (tellAxleChange s).engine.result = s.engine.result := by
  unfold tellAxleChange
  split
  · exact fadeCause_eq s
  · exact ⟨rfl, rfl, rfl, rfl⟩

/-- Both axles OFFLINE or FAULTED fade a driving part (R134). -/
theorem tellAxleChange_of_driving {s : State}
    (h : s.modes.mode = .driving ∧ s.axles.front.state.unable = true ∧ s.axles.rear.state.unable = true) :
    tellAxleChange s = requestPass (writeMode .fading .none s) := by
  obtain ⟨hmode, hfront, hrear⟩ := h
  rw [tellAxleChange, hfront, hrear, ← fadeCause_of_driving hmode]
  rfl

theorem tellAxleChange_of_other {s : State}
    (h : ¬ (s.modes.mode = .driving ∧ s.axles.front.state.unable = true ∧ s.axles.rear.state.unable = true)) :
    tellAxleChange s = s := by
  unfold tellAxleChange
  split
  next hunable =>
    rw [Bool.and_eq_true] at hunable
    exact fadeCause_of_other fun hmode => h ⟨hmode, hunable⟩
  next => rfl

theorem tellAxleChange_mode (s : State) :
    (tellAxleChange s).modes.mode =
      if s.modes.mode = .driving ∧ s.axles.front.state.unable = true ∧ s.axles.rear.state.unable = true then .fading
      else s.modes.mode := by
  split
  next h =>
    rw [tellAxleChange_of_driving h]
    simp [writeMode]
  next h => rw [tellAxleChange_of_other h]

/-- The supervisor of axle `a` becomes `v`, and a change of its state is handed on. -/
def moveAxle (a : Axle) (v : Supervisor) (s : State) : State := handAxleChange a (s.axles.get a).state (changeAxle a v s)

theorem useStatus_eq_moveAxle (a : Axle) (e : IntakeEntry) (s : State) :
    useStatus a e s =
      moveAxle a (superviseFrame s.par s.modes.mode (statusContent e.payload) (s.axles.get a))
        { s with
          records.status := s.records.status.set a (statusContent e.payload)
          table.inverter := s.table.inverter.set a (some (inverterCell s.par a (statusContent e.payload))) } := rfl

theorem loseStatus_eq_moveAxle (a : Axle) (s : State) :
    loseStatus a s =
      moveAxle a (if (s.axles.get a).state = .faulted then s.axles.get a else { s.axles.get a with state := .offline })
        { s with
          records.status := s.records.status.set a .fallback
          table.inverter := s.table.inverter.set a none } := rfl

theorem moveAxle_of_keeping {a : Axle} {v : Supervisor} {s : State} (h : v.state = (s.axles.get a).state) :
    moveAxle a v s = writeAxleCell a (setSupervisor a v s) := by
  rw [moveAxle, changeAxle_of_staying fun hoff => h ▸ hoff]
  simp [handAxleChange, writeAxleCell, setSupervisor, h]

/-- The machine in which a changed axle requests its pass: the part told, and the trigger of an entry into FAULTED taken. -/
def axleTold (a : Axle) (v : Supervisor) (s : State) : State :=
  if v.state = .faulted then takeTrigger (faultSource a) (tellAxleChange (changeAxle a v s)) else tellAxleChange (changeAxle a v s)

theorem moveAxle_of_changing {a : Axle} {v : Supervisor} {s : State} (h : v.state ≠ (s.axles.get a).state) :
    moveAxle a v s = requestPass (axleTold a v s) := by
  simp [moveAxle, handAxleChange, axleTold, h]

theorem axleTold_frame (a : Axle) (v : Supervisor) (s : State) :
    (axleTold a v s).now = s.now ∧ (axleTold a v s).modes = (tellAxleChange (changeAxle a v s)).modes ∧
    (axleTold a v s).engine = (tellAxleChange (changeAxle a v s)).engine ∧ (axleTold a v s).table = (changeAxle a v s).table ∧
    (axleTold a v s).axles = s.axles.set a v ∧ (axleTold a v s).grip = (changeAxle a v s).grip ∧
    (axleTold a v s).report.gripLimiting = (changeAxle a v s).report.gripLimiting := by
  have htold := (tellAxleChange_eq (changeAxle a v s)).1
  have hgrip : (tellAxleChange (changeAxle a v s)).grip = (changeAxle a v s).grip := by rw [htold]
  have htable : (tellAxleChange (changeAxle a v s)).table = (changeAxle a v s).table := by rw [htold]
  have haxles : (tellAxleChange (changeAxle a v s)).axles = s.axles.set a v := by rw [htold]; simp
  have hreport : (tellAxleChange (changeAxle a v s)).report = (changeAxle a v s).report := by rw [htold]
  unfold axleTold
  split <;> simp [hgrip, htable, haxles, hreport]

theorem moveAxle_frame (a : Axle) (v : Supervisor) (s : State) :
    (moveAxle a v s).table = (changeAxle a v s).table ∧ (moveAxle a v s).axles = s.axles.set a v ∧
    (moveAxle a v s).grip = (changeAxle a v s).grip ∧ (moveAxle a v s).engine.previous = s.engine.previous ∧
    (moveAxle a v s).engine.result = s.engine.result ∧
    (moveAxle a v s).engine.deferred = (changeAxle a v s).engine.deferred ∧
    (moveAxle a v s).report.gripLimiting = (changeAxle a v s).report.gripLimiting := by
  by_cases h : v.state = (s.axles.get a).state
  · rw [moveAxle_of_keeping h, changeAxle_of_staying fun hoff => h ▸ hoff]
    simp [writeAxleCell, setSupervisor]
  · obtain ⟨hprevious, hdeferred, -, hresult⟩ := requestPass_engine_frame (axleTold a v s)
    obtain ⟨-, -, hengine, htable, haxles, hgrip, hlimiting⟩ := axleTold_frame a v s
    obtain ⟨-, htprevious, htdeferred, htresult⟩ := tellAxleChange_eq (changeAxle a v s)
    rw [moveAxle_of_changing h, hprevious, hdeferred, hresult, hengine, htprevious, htdeferred, htresult]
    simp [htable, haxles, hgrip, hlimiting]

/-- What the move itself does to an axle's regulator: nothing, unless the axle leaves for OFFLINE (R82, R83). -/
theorem changeAxle_grip_of_staying {a : Axle} {v : Supervisor} {s : State}
    (h : v.state = .offline → (s.axles.get a).state = .offline) :
    (changeAxle a v s).grip = s.grip ∧ (changeAxle a v s).table.grip = s.table.grip ∧
    (changeAxle a v s).engine.deferred = s.engine.deferred ∧ (changeAxle a v s).report.gripLimiting = s.report.gripLimiting := by
  rw [changeAxle_of_staying h]
  exact ⟨rfl, rfl, rfl, rfl⟩

theorem changeAxle_grip_of_flying {a : Axle} {v : Supervisor} {s : State} {sn : Snapshot} (hoff : v.state = .offline)
    (hon : (s.axles.get a).state ≠ .offline) (hfly : s.engine.flight = some sn) :
    (changeAxle a v s).grip = s.grip ∧ (changeAxle a v s).table.grip = s.table.grip ∧
    (changeAxle a v s).engine.deferred = s.engine.deferred ++ [.regulator a] ∧
    (changeAxle a v s).report.gripLimiting = s.report.gripLimiting := by
  rw [changeAxle_of_leaving hoff hon, resetOrDefer_of_flying (s := writeAxleCell a (setSupervisor a v s)) _ hfly]
  exact ⟨rfl, rfl, rfl, rfl⟩

theorem changeAxle_grip_of_idle {a : Axle} {v : Supervisor} {s : State} (hoff : v.state = .offline)
    (hon : (s.axles.get a).state ≠ .offline) (hidle : s.engine.flight = none) :
    (changeAxle a v s).grip = s.grip.set a .reset ∧ (changeAxle a v s).table.grip = s.table.grip.set a none ∧
    (changeAxle a v s).engine.deferred = s.engine.deferred ∧
    (changeAxle a v s).report.gripLimiting =
      (if (s.grip.set a GripRegulator.reset).front.state = .gripping ∧ (s.grip.set a GripRegulator.reset).rear.state = .gripping
        then false else s.report.gripLimiting) := by
  rw [changeAxle_of_leaving hoff hon, resetOrDefer_of_idle (s := writeAxleCell a (setSupervisor a v s)) _ hidle]
  simp [applyReset, resetRegulator_eq, gripsBoth, writeAxleCell, setSupervisor]

/-- A changed axle's request, with the one that a fade makes before it (R121, R134). -/
theorem passRequested_of_moveAxle {a : Axle} {v : Supervisor} {s : State} (h : v.state ≠ (s.axles.get a).state) :
    s.PassRequested (moveAxle a v s) := by
  obtain ⟨y, hy⟩ : ∃ y, y = changeAxle a v s := ⟨_, rfl⟩
  obtain ⟨hnow, hmodes, hengine, htable, -⟩ := axleTold_frame a v s
  rw [moveAxle_of_changing h]
  by_cases hfade : y.modes.mode = .driving ∧ y.axles.front.state.unable = true ∧ y.axles.rear.state.unable = true
  · have htold := tellAxleChange_of_driving hfade
    rw [hy] at htold
    rw [htold] at hengine hmodes
    have hfirst : s.PassRequested (requestPass (writeMode .fading .none (changeAxle a v s))) :=
      passRequested_of_requestPass (x := writeMode .fading .none (changeAxle a v s)) (by simp [writeMode]) (by simp [writeMode])
        (by simp [writeMode]) rfl (by simp) (by simp) (by simp)
    exact passRequested_again hfirst (by simp [writeMode, Mode.runsPasses]) hengine hmodes (by simp [hnow, writeMode])
      (by simp [htable, writeMode])
  · have htold := tellAxleChange_of_other hfade
    rw [hy] at htold
    rw [htold] at hengine hmodes
    exact passRequested_of_requestPass (x := axleTold a v s) (by simp [hengine]) (by simp [hengine]) (by simp [hengine]) rfl
      (by simp) (by simp) (by simp)

/-- What the change of an axle's state gives the rest of the part. -/
theorem axleHandedOn_of_moveAxle (a : Axle) (v : Supervisor) (s : State) : s.AxleHandedOn (moveAxle a v s) a := by
  obtain ⟨htable, haxles, hgrip, -, -, hdeferred, hlimiting⟩ := moveAxle_frame a v s
  have hstate : ((moveAxle a v s).axles.get a).state = v.state := by rw [haxles]; simp
  unfold State.AxleHandedOn
  rw [hstate]
  refine ⟨fun hkeep => ?_, fun hmove => ⟨?_, passRequested_of_moveAxle hmove, fun b hb => ?_, fun hoff hidle => ?_, fun hoff hfly => ?_,
    fun hoff => ?_⟩⟩
  · rw [moveAxle_of_keeping hkeep]
    exact ⟨rfl, rfl, rfl, rfl, rfl⟩
  · obtain ⟨-, hmodes, -⟩ := axleTold_frame a v s
    have hmode : (moveAxle a v s).modes = (tellAxleChange (changeAxle a v s)).modes := by
      rw [moveAxle_of_changing hmove, ← hmodes]
      simp
    rw [haxles, hmode, tellAxleChange_mode]
    simp
  · rw [hgrip, htable]
    by_cases hstay : v.state = .offline → (s.axles.get a).state = .offline
    · obtain ⟨hg, ht, -⟩ := changeAxle_grip_of_staying hstay
      rw [hg, ht]
      exact ⟨rfl, rfl⟩
    · obtain ⟨hoff, hon⟩ := Classical.not_imp.1 hstay
      cases hflight : s.engine.flight with
      | none =>
        obtain ⟨hg, ht, -⟩ := changeAxle_grip_of_idle hoff hon hflight
        have hba : b ≠ a := by simpa [hoff, hflight] using hb
        rw [hg, ht, PerAxle.get_set, PerAxle.get_set, if_neg hba, if_neg hba]
        exact ⟨rfl, rfl⟩
      | some sn =>
        obtain ⟨hg, ht, -⟩ := changeAxle_grip_of_flying hoff hon hflight
        rw [hg, ht]
        exact ⟨rfl, rfl⟩
  · obtain ⟨hg, ht, hd, hl⟩ := changeAxle_grip_of_idle hoff (hoff ▸ hmove.symm) hidle
    rw [hgrip, htable, hdeferred, hlimiting, hg, ht, hd, hl]
    simp [GripRegulator.reset]
  · obtain ⟨sn, hsn⟩ := Option.ne_none_iff_exists'.1 hfly
    obtain ⟨-, -, hd, hl⟩ := changeAxle_grip_of_flying hoff (hoff ▸ hmove.symm) hsn
    exact ⟨hdeferred.trans hd, hlimiting.trans hl⟩
  · obtain ⟨-, -, hd, hl⟩ := changeAxle_grip_of_staying (v := v) (s := s) (a := a) fun h => absurd h hoff
    exact ⟨hdeferred.trans hd, hlimiting.trans hl⟩

/-- What is handed on reads of the machines before and after it the parts that the change can move alone. -/
theorem axleHandedOn_of_same {s x z u : State} {a : Axle} (h : x.AxleHandedOn z a) (hmodes : x.modes = s.modes)
    (hengine : x.engine = s.engine) (hgrip : x.grip = s.grip) (hrow : x.table.grip = s.table.grip)
    (hlimiting : x.report.gripLimiting = s.report.gripLimiting) (haxles : x.axles = s.axles) (hmodes' : u.modes = z.modes)
    (hengine' : u.engine = z.engine) (hgrip' : u.grip = z.grip) (htable' : u.table = z.table)
    (hlimiting' : u.report.gripLimiting = z.report.gripLimiting) (haxles' : u.axles = z.axles) (hnow' : u.now = z.now) :
    s.AxleHandedOn u a := by
  simp only [State.AxleHandedOn, State.PassRequested, hmodes, hengine, hgrip, hrow, hlimiting, haxles] at h
  simpa only [State.AxleHandedOn, State.PassRequested, hmodes', hengine', hgrip', htable', hlimiting', haxles', hnow'] using h

theorem tellAxleChange_report (s : State) : (tellAxleChange s).report = s.report := by rw [(tellAxleChange_eq s).1]

/-- A move that does not enter FAULTED takes no trigger. -/
theorem requestKept_moveAxle {a : Axle} {v : Supervisor} {s : State}
    (h : v.state ≠ .faulted ∨ (s.axles.get a).state = .faulted) : s.RequestKept (moveAxle a v s) := by
  by_cases hkeep : v.state = (s.axles.get a).state
  · rw [moveAxle_of_keeping hkeep]
    exact ⟨rfl, rfl, rfl, rfl, rfl⟩
  · have hnew : v.state ≠ .faulted := h.elim id fun hwas hnew => hkeep (hnew.trans hwas.symm)
    rw [moveAxle_of_changing hkeep, axleTold, if_neg hnew]
    simp [State.RequestKept, State.SlotsKept, tellAxleChange_report]

/-- An axle's entry into FAULTED is a capture trigger (R172). -/
theorem triggerTaken_of_moveAxle {s x u : State} {a : Axle} {v : Supervisor} {streams : PerStream StreamState}
    (hnew : v.state = .faulted) (hwas : (x.axles.get a).state ≠ .faulted) (hs : s.RequestKept x) (hpar : x.par = s.par)
    (hengine : x.engine = s.engine) (hstreams : x.streamStates = streams) (hu : (moveAxle a v x).RequestKept u)
    (hnow : u.now = (moveAxle a v x).now) (hmodes : u.modes = (moveAxle a v x).modes)
    (haxles : u.axles = (moveAxle a v x).axles) :
    s.TriggerTaken u (faultSource a) (triggerEnabled s.par (faultSource a)) streams := by
  obtain ⟨y, hy⟩ : ∃ y, y = tellAxleChange (changeAxle a v x) := ⟨_, rfl⟩
  have hmove : moveAxle a v x = requestPass (takeTrigger (faultSource a) y) := by
    rw [moveAxle_of_changing (by rw [hnew]; exact hwas.symm), axleTold, if_pos hnew, hy]
  have hypar : y.par = s.par := by rw [← hpar, hy, State.par, State.par]; simp
  rw [hmove] at hu hnow hmodes haxles
  refine triggerTaken_of_takeTrigger (v := y) (by rw [hypar]) ?_ ?_ hypar ?_ ?_ ?_ ?_ ?_ ?_
  · refine hs.trans ?_
    rw [hy]
    simp [State.RequestKept, State.SlotsKept, tellAxleChange_report]
  · exact ⟨hu.1.trans (by simp), by simpa [State.SlotsKept] using hu.2⟩
  · rw [hy, (tellAxleChange_eq _).2.2.2, ← hengine]
    simp
  · rw [hnow]
    simp
  · rw [hmodes]
    simp
  · intro hstill
    have hother : ¬ ((changeAxle a v x).modes.mode = .driving ∧ (changeAxle a v x).axles.front.state.unable = true ∧
        (changeAxle a v x).axles.rear.state.unable = true) := by
      intro hfade
      rw [hy, tellAxleChange_mode, if_pos hfade] at hstill
      cases hstill
    rw [hy, tellAxleChange_of_other hother, ← hengine]
    simp
  · intro b
    rw [haxles]
    simp
  · rw [← hstreams, hy]
    simp [State.streamStates]

end Sys2Proof.Machine

namespace Sys2Proof.Machine

/-! Frames of the AXLE STATUS streams that are used (O19, O20). -/

theorem statusContent_of_carriedBy {f : AxleStatus} {ws : List Word16} (h : f.carriedBy ws) : statusContent ws = f := by
  obtain ⟨speed, applied, drive, regen, echoed, ready, accepting, fault⟩ := f
  obtain ⟨hspeed, happlied, hdrive, hregen, hechoed, hready, haccepting, hfault⟩ := h
  have hechoes : (payloadWord ws 5).extractLsb' 0 4 = echoed := by
    rw [← BitVec.toNat_inj, extract_toNat, pow_zero, Nat.div_one]
    exact hechoed.symm
  have hreadies : (payloadWord ws 6).getLsbD 0 = ready := by
    rw [Bool.eq_iff_iff, bit_iff, pow_zero, Nat.div_one]
    exact hready.symm
  have haccepts : (payloadWord ws 6).getLsbD 1 = accepting := by
    rw [Bool.eq_iff_iff, bit_iff, pow_one]
    exact haccepting.symm
  have hfaults : (payloadWord ws 6).getLsbD 2 = fault := by
    rw [Bool.eq_iff_iff, bit_iff]
    exact hfault.symm
  rw [statusContent, hechoes, hreadies, haccepts, hfaults, clampTo_eq _ (by decide), clampTo_eq _ (by decide), clampTo_eq _ (by decide),
    clampTo_eq _ (by decide), payloadInt, payloadInt, payloadInt, payloadInt, ← hspeed, ← happlied, ← hdrive, ← hregen]

/-- The machine in which a used AXLE STATUS frame moves its axle: the frame taken out, the stream FRESH with the record `f`, and
its INVERTER cell written. -/
def State.statusTaken (s : State) (t : Time) (e : IntakeEntry) (rest : List IntakeEntry) (a : Axle) (f : AxleStatus) : State :=
  { s with
    now := t
    intake := rest
    streams := s.streams.set (statusStream a) ((s.streams.get (statusStream a)).afterUse e)
    records.status := s.records.status.set a f
    table.inverter := s.table.inverter.set a (some (inverterCell s.par a f)) }

/-- The supervisor of axle `a` after a used frame with the record `f`. -/
def State.supervised (s : State) (a : Axle) (f : AxleStatus) : Supervisor := superviseFrame s.par s.modes.mode f (s.axles.get a)

/-- The event of a used AXLE STATUS frame. -/
theorem decode_status {s : State} {e : IntakeEntry} {rest : List IntakeEntry} {a : Axle} {f : AxleStatus} (t : Time)
    (hhead : s.headIs e rest (.stream (statusStream a))) (huses : (s.streams.get (statusStream a)).uses e)
    (hf : f.carriedBy e.payload) :
    ∃ w v, v = setStream (statusStream a) w (moveAxle a (s.supervised a f) (s.statusTaken t e rest a f)) ∧
      exec (.decode t) s = .next (settle s v) ∧ w.unflagged = (s.streamAfterUse t e rest (statusStream a)).unflagged ∧
      s.FlagsFollow (settle s v) (statusStream a) (s.streamAfterUse t e rest (statusStream a)).state := by
  obtain ⟨-, hrole, -⟩ := id hhead
  obtain ⟨hdemand, hstability⟩ : statusStream a ≠ .demand ∧ statusStream a ≠ .stability := by cases a <;> decide
  obtain ⟨w, v, hv, -, hexec, hw, hflags, -⟩ :=
    decode_of_used t hhead (fieldsPass_of_other hrole hdemand hstability) huses hstability
  have hcontent (x : State) : useContent (statusStream a) (currentTow s) e x = useStatus a e x := by cases a <;> rfl
  rw [hcontent, frameTaken_eq t rest hrole hdemand, useStatus_eq_moveAxle, statusContent_of_carriedBy hf] at hv
  exact ⟨w, v, hv, hexec, hw, hflags⟩

/-! ## What a frame does to the supervisor (R115 to R117, R129) -/

section Supervise

variable (p : Params) (mode : Mode) {f : AxleStatus} {v : Supervisor}

theorem superviseFrame_frame (f : AxleStatus) (v : Supervisor) :
    (superviseFrame p mode f v).line = v.line ∧ (superviseFrame p mode f v).sinceActivation = v.sinceActivation := by
  unfold superviseFrame
  split
  all_goals (repeat' split) <;> exact ⟨rfl, rfl⟩

theorem superviseFrame_of_fault (hfault : f.fault = true) :
    (superviseFrame p mode f v).state = .faulted ∧ (superviseFrame p mode f v).tracking = v.tracking := by
  cases hv : v.state <;> simp [superviseFrame, hv, hfault]

theorem superviseFrame_of_unready (hfault : f.fault = false) (hready : f.ready = false) (hv : v.state ≠ .faulted) :
    (superviseFrame p mode f v).state = .offline := by
  cases hstate : v.state <;> simp_all [superviseFrame]

theorem superviseFrame_of_ready (hfault : f.fault = false) (hready : f.ready = true) (hv : v.state = .offline ∨ v.state = .standby) :
    (superviseFrame p mode f v).state = .standby := by
  rcases hv with hv | hv <;> simp [superviseFrame, hv, hfault, hready]

theorem superviseFrame_of_refusing (hfault : f.fault = false) (hready : f.ready = true) (haccepting : f.accepting = false)
    (hv : v.state.inService = true) : superviseFrame p mode f v = v := by
  cases hstate : v.state <;> simp_all [superviseFrame, AxleState.inService]

theorem superviseFrame_of_checked (hfault : f.fault = false) (hready : f.ready = true) (haccepting : f.accepting = true)
    (hv : v.state.inService = true) :
    superviseFrame p mode f v =
      { v with tracking := trackingAfter p v f, state := trackingState v.state v.tracking (trackingAfter p v f) } := by
  cases hstate : v.state <;> simp_all [superviseFrame, AxleState.inService]

end Supervise

/-- Settles O19. -/
theorem statusFrameWritesItsCellsAndMovesItsAxle : Obligations.StatusFrameWritesItsCellsAndMovesItsAxle := by
  unfold Obligations.StatusFrameWritesItsCellsAndMovesItsAxle
  intro s t e rest a p f hhead huses hp hf
  have hpar : s.par = p := par_of_params hp
  obtain ⟨w, v, hv, hexec, hw, hflags⟩ := decode_status t hhead huses hf
  obtain ⟨x, hx⟩ : ∃ x, x = s.statusTaken t e rest a f := ⟨_, rfl⟩
  obtain ⟨sup, hsup⟩ : ∃ sup, sup = s.supervised a f := ⟨_, rfl⟩
  obtain ⟨z, hz⟩ : ∃ z, z = moveAxle a sup x := ⟨_, rfl⟩
  rw [← hx, ← hsup, ← hz] at hv
  obtain ⟨htable, haxles, -, hprevious, hresult, -⟩ := moveAxle_frame a sup x
  rw [← hz] at htable haxles hprevious hresult
  have hxaxles : x.axles = s.axles := by rw [hx]; rfl
  have hxengine : x.engine = s.engine := by rw [hx]; rfl
  have hxpar : x.par = s.par := by rw [hx]; rfl
  have hzx : z.intake = x.intake ∧ z.records = x.records ∧ z.streams = x.streams ∧ z.issuer = x.issuer ∧
      z.exception = x.exception ∧ z.filters = x.filters := by
    rw [hz, moveAxle]
    simp
  obtain ⟨hintake, hrecords, hstreams, hissuer, hexception, hfilters⟩ := hzx
  have hutable : (settle s v).table = z.table := by simp [hv, setStream]
  have huaxles : (settle s v).axles = s.axles.set a sup := by
    rw [← hxaxles, ← haxles]
    simp [hv, setStream]
  have huaxle : (settle s v).axles.get a = sup := by rw [huaxles, PerAxle.get_set_self]
  obtain ⟨hline, hsince⟩ := superviseFrame_frame s.par s.modes.mode f (s.axles.get a)
  have hkept : z.RequestKept (settle s v) := by
    have hvreport : v.report = z.report := by rw [hv]; rfl
    simp [State.RequestKept, State.SlotsKept, hvreport]
  have hxkept : s.RequestKept x := by rw [hx]; exact ⟨rfl, rfl, rfl, rfl, rfl⟩
  refine ⟨settle s v, hexec, ?_⟩
  rw [huaxle, hutable, huaxles]
  refine ⟨?_, ?_, ?_, fun j hj => ?_, hflags, ?_, ?_, fun b hb => ⟨?_, ?_⟩, ?_, ?_, hsup ▸ hline, hsup ▸ hsince, fun hfault => ?_,
    fun hfault hready hwas => ?_, fun hfault hready hwas => ?_, fun hfault hwas hdozing => ?_, fun hfault hwas hmode => ?_,
    fun hfault hready haccepting hwas => ?_, ?_, fun hnew hwas => ?_, fun h => ?_, ?_, ?_, ?_, ?_, ?_⟩
  · simp [hv, setStream, hintake, hx, State.statusTaken]
  · simp [hv, setStream, hrecords, hx, State.statusTaken]
  · rw [settle_stream_unflagged, hv, setStream_get, if_pos rfl, hw]
  · rw [settle_stream_unflagged, hv, setStream_get, if_neg hj, hstreams, hx, State.statusTaken, PerStream.get_set, if_neg hj]
  · rw [htable, (changeAxle_table_frame a sup x).2.1, hx, State.statusTaken, hpar]
    rfl
  · rw [htable, (changeAxle_table_frame a sup x).2.2.1, PerAxle.get_set_self, axleCell_eq_cell, hxpar, hpar, hx]
    simp [State.statusTaken]
  · rw [PerAxle.get_set, if_neg hb]
  · rw [htable, (changeAxle_table_frame a sup x).2.2.1, PerAxle.get_set, if_neg hb, hx]
    rfl
  · rw [htable, (changeAxle_table_frame a sup x).1, hx]
    rfl
  · rw [htable, (changeAxle_table_frame a sup x).2.2.2.1, hx]
    rfl
  · rw [hsup]
    exact superviseFrame_of_fault _ _ hfault
  · rw [hsup]
    exact superviseFrame_of_unready _ _ hfault hready hwas
  · rw [hsup]
    exact superviseFrame_of_ready _ _ hfault hready hwas
  · rw [hsup]
    simp [State.supervised, superviseFrame, hwas, hfault, hdozing]
  · rw [hsup]
    simp [State.supervised, superviseFrame, hwas, hmode]
  · rw [hsup]
    exact superviseFrame_of_refusing _ _ hfault hready haccepting hwas
  · have hmoved : s.AxleHandedOn (moveAxle a sup x) a :=
      axleHandedOn_of_same (axleHandedOn_of_moveAxle a sup x) (by rw [hx]; rfl) hxengine (by rw [hx]; rfl) (by rw [hx]; rfl)
        (by rw [hx]; rfl) hxaxles rfl rfl rfl rfl rfl rfl rfl
    rw [← hz] at hmoved
    exact axleHandedOn_of_same hmoved rfl rfl rfl rfl rfl rfl (by simp [hv, setStream]) (by simp [hv, setStream])
      (by simp [hv, setStream]) hutable (by simp [hv, setStream]) (by simp [hv, setStream]) (by simp [hv, setStream])
  · have htaken : s.TriggerTaken (settle s v) (faultSource a) (triggerEnabled s.par (faultSource a))
        (s.streamStates.set (statusStream a) .fresh) := by
      refine triggerTaken_of_moveAxle (x := x) (v := sup) hnew (by rw [hxaxles]; exact hwas) hxkept hxpar hxengine ?_ (hz ▸ hkept)
        (by simp [hv, setStream, hz]) (by simp [hv, setStream, hz]) (by simp [hv, setStream, hz])
      rw [hx]
      cases a <;> rfl
    cases a <;> exact hpar ▸ htaken
  · refine hxkept.trans (.trans ?_ hkept)
    rw [hz]
    exact requestKept_moveAxle (by rw [hxaxles]; exact h)
  · simp [hv, setStream, hprevious, hxengine]
  · simp [hv, setStream, hresult, hxengine]
  · simp [hv, setStream, hissuer, hx, State.statusTaken]
  · simp [hv, setStream, hexception, hx, State.statusTaken]
  · simp [hv, setStream, hfilters, hx, State.statusTaken]

/-! ## The command-return check (R124, R125, R127) -/

theorem findEntry_of_first {before after : List DelayEntry} {entry : DelayEntry} {sequence : BitVec 4} (h : entry.sequence = sequence)
    (hbefore : ∀ x ∈ before, x.sequence ≠ sequence) : findEntry (before ++ entry :: after) sequence = some entry := by
  have hnone : before.find? (fun e => e.sequence == sequence) = none :=
    List.find?_eq_none.2 fun x hx => by simpa using hbefore x hx
  rw [findEntry, List.find?_append, hnone]
  simp [h]

theorem findEntry_eq_none {line : List DelayEntry} {sequence : BitVec 4} (h : ∀ x ∈ line, x.sequence ≠ sequence) :
    findEntry line sequence = none :=
  List.find?_eq_none.2 fun x hx => by simpa using h x hx

theorem trackingAfter_of_found {p : Params} {v : Supervisor} {f : AxleStatus} {entry : DelayEntry}
    (h : findEntry v.line f.echoed = some entry) :
    trackingAfter p v f =
      if (f.applied - entry.tenths).natAbs ≤ p.trackingAbs + (entry.tenths.natAbs * p.trackingRel).tdiv 1000 then v.tracking - 1
      else min (v.tracking + 1) 16 := by
  have hagrees : torqueAgrees p entry.tenths f.applied = true ↔
      (f.applied - entry.tenths).natAbs ≤ p.trackingAbs + (entry.tenths.natAbs * p.trackingRel).tdiv 1000 := decide_eq_true_iff
  simp only [trackingAfter, h, hagrees]
  rfl

theorem trackingAfter_of_absent {p : Params} {v : Supervisor} {f : AxleStatus} (h : findEntry v.line f.echoed = none) :
    trackingAfter p v f = if 4 ≤ v.sinceActivation then min (v.tracking + 1) 16 else v.tracking := by
  simp only [trackingAfter, h]
  rfl

/-- Settles O20. -/
theorem commandReturnCheckMovesTheTrackingCount : Obligations.CommandReturnCheckMovesTheTrackingCount := by
  unfold Obligations.CommandReturnCheckMovesTheTrackingCount
  intro s t e rest a p f hhead huses hp hf hfault hready haccepting hservice hbound
  obtain ⟨w, v, hv, hexec, -⟩ := decode_status t hhead huses hf
  have hsup := superviseFrame_of_checked p s.modes.mode hfault hready haccepting hservice
  have haxle : (settle s v).axles.get a =
      { s.axles.get a with
        tracking := trackingAfter p (s.axles.get a) f
        state := trackingState (s.axles.get a).state (s.axles.get a).tracking (trackingAfter p (s.axles.get a) f) } := by
    rw [← hsup, ← par_of_params hp, ← State.supervised]
    simp [hv, setStream, (moveAxle_frame _ _ _).2.1]
  have hafter := trackingAfter_le p f hbound
  refine ⟨settle s v, hexec, ?_⟩
  rw [haxle]
  refine ⟨rfl, fun before entry after hline hentry hbefore => ?_, fun habsent => ?_, fun hactive => ?_, fun hderated => ?_⟩
  · exact trackingAfter_of_found (by rw [hline]; exact findEntry_of_first hentry hbefore)
  · exact trackingAfter_of_absent (findEntry_eq_none habsent)
  · simp only [hactive, trackingState]
    rfl
  · have hzero : trackingAfter p (s.axles.get a) f = 0 ∧ trackingAfter p (s.axles.get a) f < (s.axles.get a).tracking ↔
        trackingAfter p (s.axles.get a) f = 0 ∧ 0 < (s.axles.get a).tracking := by omega
    have hfull : (s.axles.get a).tracking < trackingAfter p (s.axles.get a) f ∧ 16 ≤ trackingAfter p (s.axles.get a) f ↔
        (s.axles.get a).tracking < trackingAfter p (s.axles.get a) f ∧ trackingAfter p (s.axles.get a) f = 16 := by omega
    simp only [hderated, trackingState, hzero, Config.faultCount, hfull]

end Sys2Proof.Machine

namespace Sys2Proof.Machine

/-! The second expiry of a stream's window (O27). -/

/-- The machine in which a stream enters LOST: its record expired, its fallback still to be taken. -/
def State.lostAt (s : State) (t : Time) (i : StreamId) (d : Time) : State :=
  { s with now := t, streams := s.streams.set i ((s.streams.get i).expired d) }

theorem expired_of_late {r : StreamRecord} (d : Time) (h : r.state = .late) :
    r.expired d = { r with state := .lost, qualifying := 0, deadline := some (later d (r.window.getD 0)), flag := .set } := by
  simp [StreamRecord.expired, h, windowOf]

theorem exec_windowExpiry_of_late {s : State} {t : Time} {i : StreamId} {d : Time} (hlate : (s.streams.get i).state = .late)
    (hd : (s.streams.get i).deadline = some d) (hreached : reached t d = true)
    (hfirst : ∀ e ∈ s.intake, e.role = .stream i → earlier e.arrival d = false) :
    afterEffect (.windowExpiry t i) s = enterLost i (currentTow s) (s.lostAt t i d) ∧
      exec (.windowExpiry t i) s = .next (settle s (enterLost i (currentTow s) (s.lostAt t i d))) := by
  have heffect : afterEffect (.windowExpiry t i) s = enterLost i (currentTow s) (s.lostAt t i d) :=
    (expireIfDue_of_due (s := { s with now := t }) hd hreached hfirst).trans (if_pos hlate)
  exact ⟨heffect, by rw [exec_eq_settle (fun h => by cases h), heffect]⟩

theorem enterLost_statusStream (a : Axle) (tow : Bool) (s : State) : enterLost (statusStream a) tow s = loseStatus a s := by
  cases a <;> rfl

/-- The loss of a stream other than DEMAND takes no trigger (R172). -/
theorem requestKept_enterLost {i : StreamId} (hi : i ≠ .demand) (tow : Bool) (s : State) : s.RequestKept (enterLost i tow s) := by
  have hstatus (a : Axle) : s.RequestKept (loseStatus a s) := by
    rw [loseStatus_eq_moveAxle]
    refine .trans (show s.RequestKept _ from ⟨rfl, rfl, rfl, rfl, rfl⟩) (requestKept_moveAxle ?_)
    split
    next h => exact .inr h
    next h => exact .inl fun h => by cases h
  cases i with
  | demand => exact absurd rfl hi
  | frontStatus => exact hstatus .front
  | rearStatus => exact hstatus .rear
  | power => exact ⟨rfl, rfl, rfl, rfl, rfl⟩
  | reference => exact ⟨rfl, rfl, rfl, rfl, rfl⟩
  | stability =>
    rw [enterLost, loseStability]
    simp [State.RequestKept, State.SlotsKept]
  | tow =>
    rw [enterLost, rewriteDriveline]
    split <;> exact ⟨rfl, rfl, rfl, rfl, rfl⟩

/-- The demand stream enters LOST: a driving part fades, and then the trigger is taken (R36, R134, R172). -/
theorem triggerTaken_of_demandLost {s x u : State} {streams : PerStream StreamState} (hs : s.RequestKept x) (hpar : x.par = s.par)
    (hengine : x.engine = s.engine) (hstreams : x.streamStates = streams)
    (hu : (takeTrigger .demandLost (fadeCause x)).RequestKept u) (hnow : u.now = x.now) (hmodes : u.modes = (fadeCause x).modes)
    (haxles : u.axles = x.axles) :
    s.TriggerTaken u .demandLost s.par.enables.demandLost streams := by
  obtain ⟨hfade, -, -, hresult⟩ := fadeCause_eq x
  have hfpar : (fadeCause x).par = s.par := by rw [← hpar, State.par, State.par]; simp
  refine triggerTaken_of_takeTrigger (v := fadeCause x) (by rw [hfpar]; rfl) ?_ hu hfpar (hresult.trans (by rw [hengine]))
    (by rw [hnow]; simp) (by rw [hmodes]) (fun hstill => ?_) (fun a => ?_) ?_
  · refine hs.trans ?_
    rw [hfade]
    exact ⟨rfl, rfl, rfl, rfl, rfl⟩
  · have hother : x.modes.mode ≠ .driving := fun hmode => by
      rw [fadeCause_mode, if_pos hmode] at hstill
      cases hstill
    rw [fadeCause_of_other hother, hengine]
  · rw [haxles, hfade]
  · rw [← hstreams, hfade]
    rfl

/-- Settles O27. -/
theorem lostStreamTakesItsFallback : Obligations.LostStreamTakesItsFallback := by
  unfold Obligations.LostStreamTakesItsFallback
  intro s t i d p hp hlate hd hreached hfirst
  have hpar : s.par = p := par_of_params hp
  obtain ⟨y, hy⟩ : ∃ y, y = s.lostAt t i d := ⟨_, rfl⟩
  obtain ⟨v, hv⟩ : ∃ v, v = enterLost i (currentTow s) y := ⟨_, rfl⟩
  have hypar : y.par = p := by rw [hy]; exact hpar
  have hystreams : y.streams = s.streams.set i ((s.streams.get i).expired d) := by rw [hy]; rfl
  have hvstreams : v.streams = y.streams := by rw [hv]; simp
  have hrecord : v.streams.get i = (s.streams.get i).expired d := by rw [hvstreams, hystreams, PerStream.get_set, if_pos rfl]
  have hother (j : StreamId) (hj : j ≠ i) : v.streams.get j = s.streams.get j := by
    rw [hvstreams, hystreams, PerStream.get_set, if_neg hj]
  obtain ⟨heffect, hexec⟩ := exec_windowExpiry_of_late hlate hd hreached hfirst
  rw [← hy, ← hv] at heffect hexec
  have hyengine : y.engine = s.engine := by rw [hy]; rfl
  have hyreport : y.report = s.report := by rw [hy]; rfl
  have hykept : s.RequestKept y := by rw [hy]; exact ⟨rfl, rfl, rfl, rfl, rfl⟩
  refine ⟨settle s v, hexec, ?_, ?_, ?_, ?_, ?_, fun j hj => ?_, ?_, fun hi => ?_, fun hi => ?_, fun a hi => ?_, fun hi => ?_,
    fun hi => ?_, fun hi => ?_, fun hi => ?_⟩
  · simp [hv, hy, State.lostAt]
  · simp [hv, hy, State.lostAt]
  · simp [hv, hy, State.lostAt]
  · simp [hv, hy, State.lostAt]
  · rw [settle_stream_unflagged, hrecord, expired_of_late d hlate]
    rfl
  · rw [settle_stream_unflagged, hother j hj]
  · refine flagsFollow_settle ?_ (by rw [hrecord, expired_of_late d hlate]) (fun j hj => by rw [hother j hj])
      (fun _ => by rw [hrecord, expired_of_late d hlate]) (fun _ h => by cases h)
    rw [← heffect, afterEffect_placement (fun h => by cases h) (fun _ h => by cases h)]
  · subst hi
    obtain ⟨x, hx⟩ : ∃ x : State, x = { y with records.demand := .fallback } := ⟨_, rfl⟩
    obtain ⟨hfade, hprevious, -⟩ := fadeCause_eq x
    obtain ⟨f, hf⟩ : ∃ f, f = fadeCause x := ⟨_, rfl⟩
    rw [enterLost, ← hx, ← hf] at hv
    rw [← hf] at hfade hprevious
    have hfrecords : f.records = x.records := by rw [hfade]
    have hftable : f.table = x.table := by rw [hfade]
    have hfaxles : f.axles = x.axles := by rw [hfade]
    have hfgrip : f.grip = x.grip := by rw [hfade]
    have hxmodes : x.modes = s.modes := by rw [hx, hy]; rfl
    have hxengine : x.engine = s.engine := by rw [hx, hy]; rfl
    have hfmode : f.modes.mode = if s.modes.mode = .driving then .fading else s.modes.mode := by rw [hf, fadeCause_mode, hxmodes]
    refine ⟨?_, ?_, ?_, ?_, ?_, ?_, fun hdriving => ?_, fun hother => ?_, ?_⟩
    · simp [hv, hfrecords, hx, hy, State.lostAt]
    · simp [hv, hfaxles, hx, hy, State.lostAt]
    · simp [hv, hftable, hx, hy, State.lostAt]
    · simp [hv, hfgrip, hx, hy, State.lostAt]
    · simp [hv, hprevious, hxengine]
    · simp [hv, hfmode]
    · have hrequest : f = requestPass (writeMode .fading .none x) := hf.trans (fadeCause_of_driving (by rw [hxmodes]; exact hdriving))
      exact passRequested_of_requestPass (x := writeMode .fading .none x) (by simp [writeMode, hxengine])
        (by simp [writeMode, hxengine]) (by simp [writeMode, hxengine]) (by simp [hv, hrequest]) (by simp [hv, hrequest])
        (by simp [hv, hrequest]) (by simp [hv, hrequest])
    · have hfx : f = x := hf.trans (fadeCause_of_other (by rw [hxmodes]; exact hother))
      simp [hv, hfx, hxengine]
    · rw [← hpar]
      refine triggerTaken_of_demandLost (x := x) (by rw [hx, hy]; exact ⟨rfl, rfl, rfl, rfl, rfl⟩) (by rw [hx, hy]; rfl) hxengine ?_
        (hf ▸ hv ▸ requestKept_settle s v) (by simp [hv, hf]) (by simp [hv, hf]) (by simp [hv, hfaxles])
      have hlost : ((s.streams.get .demand).expired d).state = .lost := by rw [expired_of_late d hlate]
      rw [hx, hy]
      simpa [State.streamStates, State.lostAt, PerStream.set, PerStream.get] using hlost
  · refine hykept.trans (.trans ?_ (requestKept_settle s v))
    rw [hv]
    exact requestKept_enterLost hi _ y
  · subst hi
    obtain ⟨x, hx⟩ : ∃ x : State, x = { y with
      records.status := y.records.status.set a .fallback
      table.inverter := y.table.inverter.set a none } := ⟨_, rfl⟩
    obtain ⟨sup, hsup⟩ : ∃ sup, sup = if (y.axles.get a).state = .faulted then y.axles.get a
        else { y.axles.get a with state := .offline } := ⟨_, rfl⟩
    obtain ⟨htable, haxles, -⟩ := moveAxle_frame a sup x
    rw [enterLost_statusStream, loseStatus_eq_moveAxle, ← hx, ← hsup] at hv
    rw [← hv] at htable haxles
    have hxaxles : x.axles = s.axles := by rw [hx, hy]; rfl
    have hyaxles : y.axles = s.axles := by rw [hy]; rfl
    have hstate : sup.state = if (s.axles.get a).state = .faulted then .faulted else .offline := by
      rw [hsup, hyaxles]
      split
      next h => exact h
      next => rfl
    have huaxles : (settle s v).axles = s.axles.set a sup := by simp [haxles, hxaxles]
    have hutable : (settle s v).table = (changeAxle a sup x).table := by simp [htable]
    rw [huaxles, hutable]
    refine ⟨?_, ?_, ?_, ?_, fun b hb => ?_, ?_⟩
    · have hrecords : v.records = x.records := by rw [hv, moveAxle]; simp
      simp [hrecords, hx, hy, State.lostAt]
    · rw [(changeAxle_table_frame a sup x).2.1, hx, hy]
      rfl
    · rw [PerAxle.get_set_self, hstate]
    · rw [(changeAxle_table_frame a sup x).2.2.1, PerAxle.get_set_self, hstate]
      split <;> rfl
    · rw [PerAxle.get_set, if_neg hb]
    · refine axleHandedOn_of_same (axleHandedOn_of_moveAxle a sup x) (by rw [hx, hy]; rfl) (by rw [hx, hy]; rfl)
        (by rw [hx, hy]; rfl) (by rw [hx, hy]; rfl) (by rw [hx, hy]; rfl) hxaxles ?_ ?_ ?_ ?_ ?_ ?_ ?_
      all_goals simp [hv]
  · subst hi
    rw [enterLost, hypar, hy] at hv
    simp [hv, State.lostAt]
  · subst hi
    rw [enterLost, hy] at hv
    simp [hv, State.lostAt]
  · subst hi
    obtain ⟨x, hx⟩ : ∃ x : State, x = { y with table.stability := fallbackCaps y.par } := ⟨_, rfl⟩
    rw [enterLost, loseStability, ← hx] at hv
    have htable : v.table = x.table := by simp [hv]
    have hcaps : x.table.stability = fallbackCaps p := by rw [hx, hypar]
    refine ⟨by simp [hv, hx, hy, State.lostAt], by simp [hv, hx, hy, State.lostAt],
      by simp [hv, hx, hy, State.lostAt], fun a => ?_, fun hmoved => ?_⟩
    · rw [show (settle s v).table = v.table by simp, htable, hcaps, fallbackCaps, PerAxle.get_map]
    · have hchanged : stabilityChanged y.table.stability x = true := by
        rw [← Bool.not_eq_false, stabilityChanged_eq_false_iff]
        intro hsame
        obtain ⟨a, ha⟩ := hmoved
        have hcap := hsame a
        rw [hcaps, fallbackCaps, PerAxle.get_map] at hcap
        rw [hy] at hcap
        exact ha hcap.symm
      rw [hchanged] at hv
      exact passRequested_of_requestPass (x := x) (by rw [hx, hy]; rfl) (by rw [hx, hy]; rfl) (by rw [hx, hy]; rfl)
        (by simp [hv, requestPassIf]) (by simp [hv]) (by simp [hv]) (by simp [htable])
  · subst hi
    rw [enterLost] at hv
    have hnow : currentTow { y with records.towPresent := true } = true := by
      simp [currentTow, towState, hystreams, PerStream.set, expired_of_late d hlate]
    have hbefore : currentTow s = s.records.towPresent := by
      have hstate : s.streams.tow.state = .late := hlate
      simp [currentTow, towState, hstate]
    have hrow : v = { y with
        records.towPresent := true
        table.driveline := if true = currentTow s then y.table.driveline
          else PerAxle.of fun a => some (symmetric (drivelineLimit y.par true a)) } := by
      rw [hv, rewriteDriveline, hnow]
      split <;> rfl
    refine ⟨by simp [hrow, hy, State.lostAt], by simp [hrow, hy, State.lostAt], by simp [hrow, hy, State.lostAt],
      by simp [hrow, hy, State.lostAt], fun hsolo a => ?_⟩
    rw [show (settle s v).table = v.table by simp, hrow]
    simp only [hbefore, hsolo, hypar]
    simp [drivelineLimit, symmetric]

end Sys2Proof.Machine

namespace Sys2Proof.Machine

/-! ## Step 2 of a pass end: what the issuer places (R105 to R111, R151) -/

theorem placeFrame_report (entering : Bool) (f : OutFrame) (s : State) :
    (placeFrame entering f s).report =
      { s.report with
        counters.superseded :=
          if refusesPlacement entering s = false ∧ f.kind.isCommand = true ∧ (s.link.mailboxes.get f.kind).isSome = true then
            min (s.report.counters.superseded + 1) 65535
          else s.report.counters.superseded } := by
  unfold placeFrame takePlacement discardOlder
  cases refusesPlacement entering s <;> cases (s.link.mailboxes.get f.kind).isSome <;> cases f.kind.isCommand <;> rfl

/-- A pass end gives axle `a` an AXLE COMMAND: it is in service, or still marked (R105 to R107). -/
def State.commanded (s : State) (a : Axle) : Bool := (s.axles.get a).state.inService || s.issuer.inService.get a

/-- The AXLE COMMAND that a pass end gives axle `a` in a mode that runs passes: a service frame for an axle in service at a pass that
closes nothing, else a release frame. -/
def State.commandOf (s : State) (sn : Snapshot) (out : PassOut) (closing : Bool) (a : Axle) : OutFrame :=
  { kind := commandKind a
    sequence := s.issuer.sequence.get a
    content :=
      if (!closing && (s.axles.get a).state.inService) = true then
        .command (motorTenths (s.par.ratio.get a) (out.record.final.get a)) (stateCodeOf sn.mode)
          (out.record.governor.get a != .none) true
      else .command 0 (stateCodeOf sn.mode) false false }

/-- The issuer after the command of axle `a`. -/
def State.issuerAfter (s : State) (closing : Bool) (a : Axle) : Issuer :=
  { s.issuer with
    sequence := s.issuer.sequence.set a (s.issuer.sequence.get a + 1)
    inService := s.issuer.inService.set a (!closing && (s.axles.get a).state.inService) }

theorem issueAxle_of_commanded {sn : Snapshot} {out : PassOut} {closing : Bool} {a : Axle} {s : State} (h : s.commanded a = true) :
    issueAxle sn out closing a s = placeFrame false (s.commandOf sn out closing a) { s with issuer := s.issuerAfter closing a } := by
  have hmark : (s.axles.get a).state.inService = false → s.issuer.inService.get a = true := fun hoff => by
    simpa [State.commanded, hoff] using h
  unfold issueAxle State.commandOf State.issuerAfter
  cases closing
  · cases hserving : (s.axles.get a).state.inService
    · simp [hmark hserving, releaseFrame, placeCommand]
    · simp [serviceFrame, placeCommand]
  · have hboth : ((s.axles.get a).state.inService || s.issuer.inService.get a) = true := h
    simp [hboth, releaseFrame, placeCommand]

theorem issueAxle_of_uncommanded {sn : Snapshot} {out : PassOut} {closing : Bool} {a : Axle} {s : State}
    (h : s.commanded a = false) : issueAxle sn out closing a s = s := by
  obtain ⟨hserving, hmark⟩ := Bool.or_eq_false_iff.1 h
  unfold issueAxle
  cases closing <;> simp [hserving, hmark]

/-- What the issuer does for one axle, to that axle and to every other. -/
theorem issueAxle_issuer (sn : Snapshot) (out : PassOut) (closing : Bool) (a : Axle) (s : State) :
    (issueAxle sn out closing a s).issuer.reportSequence = s.issuer.reportSequence ∧
    ∀ b, (issueAxle sn out closing a s).issuer.sequence.get b =
        (if b = a ∧ s.commanded a = true then s.issuer.sequence.get a + 1 else s.issuer.sequence.get b) ∧
      (issueAxle sn out closing a s).issuer.inService.get b =
        (if b = a then !closing && (s.axles.get a).state.inService else s.issuer.inService.get b) := by
  cases h : s.commanded a
  · obtain ⟨hserving, hmark⟩ := Bool.or_eq_false_iff.1 h
    rw [issueAxle_of_uncommanded h]
    refine ⟨rfl, fun b => ⟨by simp, ?_⟩⟩
    split
    next hb => rw [hb, hmark, hserving, Bool.and_false]
    next => rfl
  · rw [issueAxle_of_commanded h]
    simp [State.issuerAfter, PerAxle.get_set]

theorem issueAxle_link {sn : Snapshot} {out : PassOut} {closing : Bool} {a : Axle} {s : State} (htakes : s.takesFrames) (k : OwnKind) :
    (issueAxle sn out closing a s).link.mailboxes.get k =
      if k = commandKind a ∧ s.commanded a = true then some (s.commandOf sn out closing a) else s.link.mailboxes.get k := by
  cases h : s.commanded a
  · rw [issueAxle_of_uncommanded h]
    simp
  · have htakes' : refusesPlacement false { s with issuer := s.issuerAfter closing a } = false :=
      (refusesPlacement_eq_false_iff _).2 htakes
    rw [issueAxle_of_commanded h, placeFrame_link, htakes']
    simp [PerKind.get_set, State.commandOf]

theorem issueAxle_report (sn : Snapshot) (out : PassOut) (closing : Bool) (a : Axle) {s : State} (htakes : s.takesFrames) :
    (issueAxle sn out closing a s).report =
      { s.report with
        counters.superseded :=
          if s.commanded a = true ∧ (s.link.mailboxes.get (commandKind a)).isSome = true then
            min (s.report.counters.superseded + 1) 65535
          else s.report.counters.superseded } := by
  cases h : s.commanded a
  · rw [issueAxle_of_uncommanded h]
    simp
  · have htakes' : refusesPlacement false { s with issuer := s.issuerAfter closing a } = false :=
      (refusesPlacement_eq_false_iff _).2 htakes
    have hcommand : (commandKind a).isCommand = true := by cases a <;> rfl
    rw [issueAxle_of_commanded h, placeFrame_report, htakes']
    simp [State.commandOf, hcommand]

/-- The placements of an axle leave open whether the link takes frames. -/
theorem issueAxle_takesFrames (sn : Snapshot) (out : PassOut) (closing : Bool) (a : Axle) (s : State) :
    (issueAxle sn out closing a s).takesFrames ↔ s.takesFrames := by
  cases h : s.commanded a
  · rw [issueAxle_of_uncommanded h]
  · rw [issueAxle_of_commanded h]
    simp [State.takesFrames]

/-- Both axles' commands. -/
def issueBoth (sn : Snapshot) (out : PassOut) (closing : Bool) (s : State) : State :=
  issueAxle sn out closing .rear (issueAxle sn out closing .front s)

/-- The FRONT command changes nothing that the REAR one reads. -/
theorem rear_after_front (sn : Snapshot) (out : PassOut) (closing : Bool) (s : State) :
    (issueAxle sn out closing .front s).commanded .rear = s.commanded .rear ∧
    (issueAxle sn out closing .front s).commandOf sn out closing .rear = s.commandOf sn out closing .rear := by
  obtain ⟨-, hissuer⟩ := issueAxle_issuer sn out closing .front s
  obtain ⟨hsequence, hmark⟩ := hissuer .rear
  have hother : ¬ (Axle.rear = .front) := by decide
  rw [if_neg fun h => hother h.1] at hsequence
  rw [if_neg hother] at hmark
  have hpar : (issueAxle sn out closing .front s).par = s.par := by simp [State.par]
  constructor
  · rw [State.commanded, State.commanded, hmark]
    simp
  · rw [State.commandOf, State.commandOf, hsequence, hpar]
    simp

theorem issueBoth_issuer (sn : Snapshot) (out : PassOut) (closing : Bool) (s : State) :
    (issueBoth sn out closing s).issuer.reportSequence = s.issuer.reportSequence ∧
    ∀ a, (issueBoth sn out closing s).issuer.sequence.get a =
        (if s.commanded a = true then s.issuer.sequence.get a + 1 else s.issuer.sequence.get a) ∧
      (issueBoth sn out closing s).issuer.inService.get a = (!closing && (s.axles.get a).state.inService) := by
  obtain ⟨hreport, hfront⟩ := issueAxle_issuer sn out closing .front s
  obtain ⟨hreport', hrear⟩ := issueAxle_issuer sn out closing .rear (issueAxle sn out closing .front s)
  rw [(rear_after_front sn out closing s).1] at hrear
  have hrearSequence := (hfront .rear).1
  rw [if_neg fun h => by cases h.1] at hrearSequence
  refine ⟨hreport'.trans hreport, fun a => ?_⟩
  obtain ⟨hsequence, hmark⟩ := hfront a
  obtain ⟨hsequence', hmark'⟩ := hrear a
  rw [issueBoth, hsequence', hmark', hsequence, hmark]
  cases a
  · simp
  · simp [hrearSequence]

theorem issueBoth_mail {sn : Snapshot} {out : PassOut} {closing : Bool} {s : State} (htakes : s.takesFrames) (a : Axle) :
    (issueBoth sn out closing s).link.mailboxes.get (commandKind a) =
      if s.commanded a = true then some (s.commandOf sn out closing a) else s.link.mailboxes.get (commandKind a) := by
  obtain ⟨hcommanded, hcommand⟩ := rear_after_front sn out closing s
  rw [issueBoth, issueAxle_link ((issueAxle_takesFrames _ _ _ _ _).2 htakes), issueAxle_link htakes, hcommanded, hcommand]
  cases a <;> simp [commandKind]

theorem issueBoth_takesFrames (sn : Snapshot) (out : PassOut) (closing : Bool) (s : State) :
    (issueBoth sn out closing s).takesFrames ↔ s.takesFrames := by
  rw [issueBoth, issueAxle_takesFrames, issueAxle_takesFrames]

theorem filter_axles_length (f : Axle → Bool) : ([Axle.front, .rear].filter f).length = (f .front).toNat + (f .rear).toNat := by
  cases hfront : f .front <;> cases hrear : f .rear <;> simp [hfront, hrear]

theorem commandsReplaced_eq (s : State) : s.commandsReplaced =
    (s.commanded .front && (s.link.mailboxes.get (commandKind .front)).isSome).toNat +
      (s.commanded .rear && (s.link.mailboxes.get (commandKind .rear)).isSome).toNat := filter_axles_length _

/-- Each command that replaces an older one is counted (R110, R151). -/
theorem issueBoth_report (sn : Snapshot) (out : PassOut) (closing : Bool) {s : State} (htakes : s.takesFrames) :
    (issueBoth sn out closing s).report = { s.report with counters.superseded := s.supersededAfter } := by
  obtain ⟨hcommanded, -⟩ := rear_after_front sn out closing s
  have hmail : (issueAxle sn out closing .front s).link.mailboxes.get (commandKind .rear) =
      s.link.mailboxes.get (commandKind .rear) := by
    rw [issueAxle_link htakes, if_neg fun h => by cases h.1]
  rw [issueBoth, issueAxle_report _ _ _ _ ((issueAxle_takesFrames _ _ _ _ _).2 htakes), issueAxle_report _ _ _ _ htakes, hcommanded,
    hmail]
  simp only [State.supersededAfter, commandsReplaced_eq, ← Bool.and_eq_true]
  cases s.commanded .front && (s.link.mailboxes.get (commandKind .front)).isSome <;>
    cases s.commanded .rear && (s.link.mailboxes.get (commandKind .rear)).isSome <;> simp
  omega

/-! ## Step 2 as a whole -/

theorem placeReport_issuer (out : PassOut) (s : State) :
    (placeReport out s).issuer = { s.issuer with reportSequence := s.issuer.reportSequence + 1 } := by
  simp [placeReport]

/-- A SPLIT REPORT supersedes no command. -/
theorem placeReport_report (out : PassOut) (s : State) : (placeReport out s).report = s.report := by
  rw [placeReport, placeFrame_report]
  simp [OwnKind.isCommand]

theorem placeReport_command (out : PassOut) (a : Axle) (s : State) :
    (placeReport out s).link.mailboxes.get (commandKind a) = s.link.mailboxes.get (commandKind a) := by
  rw [placeReport, placeFrame_link]
  split
  · rfl
  · cases a <;> simp [PerKind.get_set, commandKind]

theorem placeReport_mail (out : PassOut) {s : State} (htakes : s.takesFrames) :
    (placeReport out s).link.mailboxes.splitReport = some
      { kind := .splitReport, sequence := s.issuer.reportSequence,
        content := .splitReport out.record.demand out.record.final out.record.shortfall out.record.share out.record.factor
          out.record.governor out.record.gripState } := by
  have htakes' : refusesPlacement false { s with issuer.reportSequence := s.issuer.reportSequence + 1 } = false :=
    (refusesPlacement_eq_false_iff _).2 htakes
  rw [placeReport, placeFrame_link, htakes']
  rfl

theorem issueFrames_of_running (sn : Snapshot) (out : PassOut) {s : State} (hruns : s.modes.mode.runsPasses = true) :
    issueFrames sn out s = placeReport out (issueBoth sn out (closingPass sn out s) s) := by
  simp only [issueFrames, hruns, if_true]
  rfl

theorem issueFrames_of_still (sn : Snapshot) (out : PassOut) {s : State} (hstill : s.modes.mode.runsPasses = false) :
    issueFrames sn out s = placeReport out s := by
  simp only [issueFrames, hstill, if_false, Bool.false_eq_true]

/-- Step 2 touches the superseded-command counter alone of the report unit. -/
theorem issueFrames_report (sn : Snapshot) (out : PassOut) (s : State) : (issueFrames sn out s).report =
    { s.report with counters.superseded := (issueFrames sn out s).report.counters.superseded } := by
  have haxle (closing : Bool) (a : Axle) (v : State) : (issueAxle sn out closing a v).report =
      { v.report with counters.superseded := (issueAxle sn out closing a v).report.counters.superseded } := by
    cases h : v.commanded a
    · rw [issueAxle_of_uncommanded h]
    · rw [issueAxle_of_commanded h, placeFrame_report]
  cases hruns : s.modes.mode.runsPasses
  · rw [issueFrames_of_still sn out hruns, placeReport_report]
  · rw [issueFrames_of_running sn out hruns, placeReport_report, issueBoth, haxle, haxle]

/-- Step 2 touches the mailboxes alone of the link controller. -/
theorem issueFrames_link (sn : Snapshot) (out : PassOut) (s : State) :
    (issueFrames sn out s).link = { s.link with mailboxes := (issueFrames sn out s).link.mailboxes } := by
  have hplace (f : OutFrame) (v : State) : (placeFrame false f v).link =
      { v.link with mailboxes := (placeFrame false f v).link.mailboxes } := by
    rw [placeFrame_link]
    split <;> rfl
  have haxle (closing : Bool) (a : Axle) (v : State) : (issueAxle sn out closing a v).link =
      { v.link with mailboxes := (issueAxle sn out closing a v).link.mailboxes } := by
    cases h : v.commanded a
    · rw [issueAxle_of_uncommanded h]
    · rw [issueAxle_of_commanded h, hplace]
  have hreport (v : State) : (placeReport out v).link = { v.link with mailboxes := (placeReport out v).link.mailboxes } :=
    hplace _ { v with issuer.reportSequence := v.issuer.reportSequence + 1 }
  cases hruns : s.modes.mode.runsPasses
  · rw [issueFrames_of_still sn out hruns, hreport]
  · rw [issueFrames_of_running sn out hruns, hreport, issueBoth, haxle, haxle]

end Sys2Proof.Machine

namespace Sys2Proof.Machine

/-! ## Step 4 of a pass end: DRIVELINE cuts (R20, R65, R172) -/

/-- A DRIVELINE cut reaches the exception record, and is a capture trigger. -/
def takeCut (sn : Snapshot) (out : PassOut) (s : State) (c : Cut) : State :=
  takeTrigger .driveline (takeException (.driveline c.axle sn.time out.record.passNumber c.preClip c.limit) s)

/-- The cuts of the DRIVELINE row. -/
def drivelineCuts (out : PassOut) : List Cut := out.cuts.filter fun c => c.row == .driveline

theorem foldl_reportCut_eq (sn : Snapshot) (out : PassOut) (s : State) :
    out.cuts.foldl (reportCut sn out) s = (drivelineCuts out).foldl (takeCut sn out) s := by
  rw [drivelineCuts, List.foldl_filter]
  congr 1
  funext v c
  simp only [reportCut, takeCut, beq_iff_eq]

theorem takeException_of_some {e : ExceptionEvent} {s : State} {h : HeldException} (hs : s.exception = some h) :
    takeException e s = { s with exception := some { h with further := min (h.further + 1) 255 } } := by
  simp only [takeException, hs]
  rfl

theorem takeCut_exception {sn : Snapshot} {out : PassOut} {s : State} (c : Cut) :
    (takeCut sn out s c).exception =
      (takeException (.driveline c.axle sn.time out.record.passNumber c.preClip c.limit) s).exception := by
  rw [takeCut]
  simp

/-- Later cuts are counted in a HELD record (R65). -/
theorem foldl_takeCut_exception_of_some (sn : Snapshot) (out : PassOut) (cs : List Cut) {s : State} {h : HeldException}
    (hs : s.exception = some h) (hbound : h.further ≤ 255) :
    (cs.foldl (takeCut sn out) s).exception = some { h with further := min (h.further + cs.length) 255 } := by
  induction cs generalizing s h with
  | nil => simp [hs, Nat.min_eq_left hbound]
  | cons c cs ih =>
    have hnext : (takeCut sn out s c).exception = some { h with further := min (h.further + 1) 255 } := by
      rw [takeCut_exception, takeException_of_some hs]
    rw [List.foldl_cons, ih hnext (Nat.min_le_right _ _), List.length_cons]
    simp only [Option.some.injEq, HeldException.mk.injEq, true_and]
    omega

theorem foldl_takeCut_exception_of_none (sn : Snapshot) (out : PassOut) (cs : List Cut) {s : State} (hs : s.exception = none) :
    (cs.foldl (takeCut sn out) s).exception =
      match cs with
      | [] => none
      | c :: later => some
        { event := .driveline c.axle sn.time out.record.passNumber c.preClip c.limit, further := min later.length 255 } := by
  cases cs with
  | nil => exact hs
  | cons c later =>
    have hfirst : (takeCut sn out s c).exception = some
        { event := .driveline c.axle sn.time out.record.passNumber c.preClip c.limit, further := 0 } := by
      rw [takeCut_exception, takeException, hs]
    rw [List.foldl_cons, foldl_takeCut_exception_of_some sn out later hfirst (Nat.zero_le _), Nat.zero_add]

/-- While a pass is in flight a cut touches the capture request alone of the report unit, where its trigger is enabled (R172). -/
theorem takeCut_report {sn : Snapshot} {out : PassOut} {s : State} (c : Cut) (hflight : s.engine.flight ≠ none) :
    (takeCut sn out s c).report =
      { s.report with
        request :=
          if s.par.enables.driveline = true then
            some ((s.report.request.map fun r => { r with merged := min (r.merged + 1) 255 }).getD ⟨.driveline, s.now, 0⟩)
          else s.report.request } := by
  obtain ⟨v, hv⟩ : ∃ v, v = takeException (.driveline c.axle sn.time out.record.passNumber c.preClip c.limit) s := ⟨_, rfl⟩
  have hpar : v.par = s.par := by rw [hv]; simp [State.par]
  have hnow : v.now = s.now := by rw [hv]; simp
  have hreport : v.report = s.report := by rw [hv]; simp
  have hfly : (setRequest .driveline v).engine.flight ≠ none := by rw [hv]; simpa using hflight
  rw [takeCut, ← hv, takeTrigger, hpar, fillIfStill_of_moving (.inr hfly)]
  cases hon : s.par.enables.driveline
  · have htrigger : triggerEnabled s.par .driveline = false := hon
    rw [htrigger, if_neg Bool.false_ne_true, hreport]
    rfl
  · have htrigger : triggerEnabled s.par .driveline = true := hon
    rw [htrigger, if_pos rfl, setRequest, hreport, hnow]
    cases hr : s.report.request with
    | none => simp
    | some r => simp [saturatingUp, Config.smallCounterMax]

theorem foldl_takeCut_report (sn : Snapshot) (out : PassOut) (cs : List Cut) {s : State} (hflight : s.engine.flight ≠ none) :
    (cs.foldl (takeCut sn out) s).report = { s.report with request := (cs.foldl (takeCut sn out) s).report.request } := by
  induction cs generalizing s with
  | nil => rfl
  | cons c cs ih =>
    have hfly : (takeCut sn out s c).engine.flight ≠ none := by simpa [takeCut] using hflight
    rw [List.foldl_cons, ih hfly, takeCut_report c hflight]

theorem foldl_takeCut_request_of_disabled (sn : Snapshot) (out : PassOut) (cs : List Cut) {s : State}
    (hflight : s.engine.flight ≠ none) (hoff : s.par.enables.driveline = false) :
    (cs.foldl (takeCut sn out) s).report.request = s.report.request := by
  induction cs generalizing s with
  | nil => rfl
  | cons c cs ih =>
    rw [List.foldl_cons, ih (by simpa [takeCut] using hflight) (by simpa [takeCut, State.par] using hoff), takeCut_report c hflight]
    simp [hoff]

/-- Each cut counts toward a request that waits (R172). -/
theorem foldl_takeCut_request_of_some (sn : Snapshot) (out : PassOut) (cs : List Cut) {s : State} {r : CaptureRequest}
    (hflight : s.engine.flight ≠ none) (hon : s.par.enables.driveline = true) (hr : s.report.request = some r)
    (hbound : r.merged ≤ 255) :
    (cs.foldl (takeCut sn out) s).report.request = some { r with merged := min (r.merged + cs.length) 255 } := by
  induction cs generalizing s r with
  | nil => simp [hr, Nat.min_eq_left hbound]
  | cons c cs ih =>
    have hnext : (takeCut sn out s c).report.request = some { r with merged := min (r.merged + 1) 255 } := by
      rw [takeCut_report c hflight]
      simp [hon, hr]
    rw [List.foldl_cons, ih (by simpa [takeCut] using hflight) (by simpa [takeCut, State.par] using hon) hnext (Nat.min_le_right _ _),
      List.length_cons]
    simp only [Option.some.injEq, CaptureRequest.mk.injEq, true_and]
    omega

/-- The first cut sets the request where none waits, and the others count toward it (R172). -/
theorem foldl_takeCut_request_of_none (sn : Snapshot) (out : PassOut) {cs : List Cut} {s : State} (hflight : s.engine.flight ≠ none)
    (hon : s.par.enables.driveline = true) (hr : s.report.request = none) (hcs : 0 < cs.length) :
    (cs.foldl (takeCut sn out) s).report.request = some ⟨.driveline, s.now, min (cs.length - 1) 255⟩ := by
  cases cs with
  | nil => cases hcs
  | cons c later =>
    have hfirst : (takeCut sn out s c).report.request = some ⟨.driveline, s.now, 0⟩ := by
      rw [takeCut_report c hflight]
      simp [hon, hr]
    rw [List.foldl_cons, foldl_takeCut_request_of_some sn out later (by simpa [takeCut] using hflight)
      (by simpa [takeCut, State.par] using hon) hfirst (Nat.zero_le _)]
    simp

theorem reportCuts_eq (sn : Snapshot) (out : PassOut) (s : State) :
    reportCuts sn out s = fillRequest ((drivelineCuts out).foldl (takeCut sn out) s) := by
  rw [reportCuts, foldl_reportCut_eq]

/-! ## Step 5: STANDBY axles that accept (R119) -/

/-- Axle `a` is activated at step 5. -/
def State.activates (s : State) (a : Axle) : Bool :=
  decide (s.modes.mode = .driving ∧ (s.axles.get a).state = .standby ∧ (s.records.status.get a).accepting = true)

/-- The supervisor of an activated axle. -/
def freshlyActive : Supervisor := { state := .active, tracking := 0, sinceActivation := 0, line := [] }

theorem activateAxle_eq (a : Axle) (s : State) :
    activateAxle a s =
      { s with
        axles := s.axles.set a (if s.activates a then freshlyActive else s.axles.get a)
        table.axle := s.table.axle.set a (if s.activates a then none else s.table.axle.get a) } := by
  unfold activateAxle
  split
  next h =>
    obtain ⟨hstandby, hdriving, haccepting⟩ := h
    have hactivates : s.activates a = true := by simp [State.activates, hstandby, hdriving, haccepting]
    rw [changeAxle_of_staying fun h => by cases h]
    simp [writeAxleCell, setSupervisor, hactivates, haccepting, axleCell, freshlyActive]
  next h =>
    have hactivates : s.activates a = false := by
      rw [State.activates, decide_eq_false_iff_not]
      exact fun ⟨hdriving, hstandby, haccepting⟩ => h ⟨hstandby, hdriving, haccepting⟩
    cases a <;> simp [hactivates, PerAxle.set, PerAxle.get]

theorem activateAxles_eq (s : State) :
    activateAxles s =
      { s with
        axles := PerAxle.of fun a => if s.activates a then freshlyActive else s.axles.get a
        table.axle := PerAxle.of fun a => if s.activates a then none else s.table.axle.get a } := by
  have hrear : (activateAxle .front s).activates .rear = s.activates .rear := by
    rw [activateAxle_eq]
    rfl
  rw [activateAxles, activateAxle_eq .rear, hrear, activateAxle_eq .front]
  rfl

/-- An axle's state shows whether step 5 activated it. -/
theorem activatedAt_iff (a : Axle) (s : State) :
    ((s.axles.get a).state != (if s.activates a then freshlyActive else s.axles.get a).state) = s.activates a := by
  cases h : s.activates a
  · simp
  · have hstandby : (s.axles.get a).state = .standby := by
      rw [State.activates, decide_eq_true_iff] at h
      exact h.2.1
    simp [hstandby, freshlyActive]

/-! ## Step 6: the deferred resets (R8, R60, R83) -/

theorem foldl_applyReset_previous (rs : List DeferredReset) (s : State) :
    (rs.foldl applyReset s).engine.previous = if .previousCommands ∈ rs then ⟨0, 0⟩ else s.engine.previous := by
  induction rs generalizing s with
  | nil => rfl
  | cons r rs ih =>
    rw [List.foldl_cons, ih]
    cases r with
    | previousCommands => simp [applyReset, zeroPrevious]
    | regulator a => simp [applyReset, resetRegulator_eq]

theorem foldl_applyReset_grip (rs : List DeferredReset) (s : State) (a : Axle) :
    (rs.foldl applyReset s).grip.get a = (if .regulator a ∈ rs then .reset else s.grip.get a) ∧
    (rs.foldl applyReset s).table.grip.get a = if .regulator a ∈ rs then none else s.table.grip.get a := by
  induction rs generalizing s with
  | nil => exact ⟨rfl, rfl⟩
  | cons r rs ih =>
    obtain ⟨hgrip, hrow⟩ := ih (applyReset s r)
    rw [List.foldl_cons, hgrip, hrow]
    cases r with
    | previousCommands => simp [applyReset, zeroPrevious]
    | regulator b =>
      by_cases hab : a = b
      · subst hab
        simp [applyReset, resetRegulator_eq]
      · simp [applyReset, resetRegulator_eq, PerAxle.get_set, hab]

theorem applyReset_regulator_limiting (s : State) (a : Axle) :
    (applyReset s (.regulator a)).report.gripLimiting =
      if gripsBoth (applyReset s (.regulator a)).grip = true then false else s.report.gripLimiting := by
  simp [applyReset, resetRegulator_eq]

/-- A reset leaves a gripping regulator gripping. -/
theorem applyReset_gripsBoth {s : State} (r : DeferredReset) (h : gripsBoth s.grip = true) : gripsBoth (applyReset s r).grip = true := by
  cases r with
  | previousCommands => exact h
  | regulator a =>
    rw [applyReset, resetRegulator_eq]
    cases a <;> simp_all [gripsBoth, PerAxle.set, GripRegulator.reset]

/-- A reset that leaves both regulators GRIPPING ends GRIP LIMITING (R96, R169). -/
theorem foldl_applyReset_limiting_of_gripping (rs : List DeferredReset) {s : State} (hreset : ∃ a, .regulator a ∈ rs)
    (hgripping : gripsBoth (rs.foldl applyReset s).grip = true) : (rs.foldl applyReset s).report.gripLimiting = false := by
  induction rs using List.reverseRecOn with
  | nil =>
    obtain ⟨a, ha⟩ := hreset
    cases ha
  | append_singleton rs r ih =>
    rw [List.foldl_append, List.foldl_cons, List.foldl_nil] at hgripping ⊢
    cases r with
    | previousCommands =>
      refine ih ?_ hgripping
      obtain ⟨a, ha⟩ := hreset
      exact ⟨a, by simpa using ha⟩
    | regulator a => rw [applyReset_regulator_limiting, if_pos hgripping]

/-- Without a reset of a regulator, and while one of them is not GRIPPING, the resets leave GRIP LIMITING as step 3 gave it. -/
theorem foldl_applyReset_limiting_of_slipping (rs : List DeferredReset) {s : State}
    (h : (∀ a, .regulator a ∉ rs) ∨ gripsBoth (rs.foldl applyReset s).grip = false) :
    (rs.foldl applyReset s).report.gripLimiting = s.report.gripLimiting := by
  induction rs using List.reverseRecOn with
  | nil => rfl
  | append_singleton rs r ih =>
    rw [List.foldl_append, List.foldl_cons, List.foldl_nil] at h ⊢
    have hbefore : (∀ a, .regulator a ∉ rs) ∨ gripsBoth (rs.foldl applyReset s).grip = false := by
      refine h.imp (fun hnone a ha => hnone a (List.mem_append_left _ ha)) fun hslip => ?_
      rw [← Bool.not_eq_true] at hslip ⊢
      exact fun hgrip => hslip (applyReset_gripsBoth r hgrip)
    rw [← ih hbefore]
    cases r with
    | previousCommands => rfl
    | regulator a =>
      have hslip := h.resolve_left fun hnone => hnone a (List.mem_append_right _ (List.mem_singleton.2 rfl))
      rw [applyReset_regulator_limiting, hslip]
      rfl

end Sys2Proof.Machine

namespace Sys2Proof.Machine

/-! ## The machine after steps 1 to 6 of a pass end -/

/-- The resets touch the GRIP row alone of the table. -/
theorem foldl_applyReset_table (rs : List DeferredReset) (s : State) :
    (rs.foldl applyReset s).table = { s.table with grip := (rs.foldl applyReset s).table.grip } := by
  induction rs generalizing s with
  | nil => rfl
  | cons r rs ih =>
    rw [List.foldl_cons, ih]
    cases r <;> simp [applyReset, resetRegulator_eq, zeroPrevious]

theorem longLimiting_iff (now : Time) (r : GripRegulator) :
    longLimiting now r = true ↔ ∃ since, r.limitingSince = some since ∧ 1000 ≤ (now - since).toNat := by
  unfold longLimiting
  cases r.limitingSince with
  | none => simp
  | some since => exact decide_eq_true_iff.trans ⟨fun h => ⟨since, rfl, h⟩, fun ⟨_, h, hlong⟩ => Option.some.inj h ▸ hlong⟩

section Steps

variable {sn : Snapshot} {out : PassOut} {s : State}

theorem fillRequest_counters (s : State) : (fillRequest s).report.counters =
    { s.report.counters with missedCaptures := (fillRequest s).report.counters.missedCaptures } := by
  obtain ⟨-, -, -, -, -, -, -, -, -, hcounters⟩ := fillRequest_report_frame s
  exact hcounters

/-- Step 4 leaves the report unit but for the capture and its counter. -/
theorem reportCuts_report (hflight : s.engine.flight ≠ none) :
    (reportCuts sn out s).report.powerRun = s.report.powerRun ∧ (reportCuts sn out s).report.gripLimiting = s.report.gripLimiting ∧
    (reportCuts sn out s).report.counters =
      { s.report.counters with missedCaptures := (reportCuts sn out s).report.counters.missedCaptures } := by
  obtain ⟨v, hv⟩ : ∃ v, v = (drivelineCuts out).foldl (takeCut sn out) s := ⟨_, rfl⟩
  have hreport := foldl_takeCut_report sn out (drivelineCuts out) hflight
  have hpower : v.report.powerRun = s.report.powerRun := by rw [hv, hreport]
  have hlimiting : v.report.gripLimiting = s.report.gripLimiting := by rw [hv, hreport]
  have hcounters : v.report.counters = s.report.counters := by rw [hv, hreport]
  have hfilled := fillRequest_counters v
  rw [reportCuts_eq, ← hv, ← hcounters]
  exact ⟨by simp [hpower], by simp [hlimiting], hfilled⟩

theorem passEndResults_engine : (passEndResults sn out s).engine =
    { s.engine with previous := out.record.final, passNumber := out.record.passNumber, result := out.record } := by
  simp [passEndResults, activateAxles_eq, countPass, storeResults]

theorem passEndResults_link :
    (passEndResults sn out s).link = (issueFrames sn out (storeResults sn out s)).link ∧
    (passEndResults sn out s).issuer = (issueFrames sn out (storeResults sn out s)).issuer := by
  simp [passEndResults]

theorem passEndResults_grip : (passEndResults sn out s).grip = out.grip := by
  simp [passEndResults, activateAxles_eq]

theorem passEndResults_axles :
    (passEndResults sn out s).axles = (PerAxle.of fun a => if s.activates a then freshlyActive else s.axles.get a) ∧
    (passEndResults sn out s).table =
      { s.table with
        grip := out.record.gripCeiling.map fun g => some (symmetric g)
        supply := (storeResults sn out s).table.supply
        axle := PerAxle.of fun a => if s.activates a then none else s.table.axle.get a } := by
  obtain ⟨hdriveline, hinverter, haxle, hstability⟩ := storeResults_rows sn out s
  have hgrip := (storeResults_grip sn out s).2
  simp only [passEndResults, activateAxles_eq, State.activates, reportCuts_frame, countPass_axles, countPass_table, countPass_modes,
    countPass_records, issueFrames_frame, storeResults_frame, haxle]
  rw [← hdriveline, ← hinverter, ← hstability, ← hgrip]
  exact ⟨rfl, rfl⟩

theorem passEndResults_report (hflight : s.engine.flight ≠ none) :
    (passEndResults sn out s).report.powerRun = (if out.record.factor < 4096 then min (s.report.powerRun + 1) 20 else 0) ∧
    (passEndResults sn out s).report.gripLimiting = gripLimitingAt sn { s with grip := out.grip } ∧
    (passEndResults sn out s).report.counters =
      { (issueFrames sn out (storeResults sn out s)).report.counters with
        missedCaptures := (passEndResults sn out s).report.counters.missedCaptures } := by
  obtain ⟨v, hv⟩ : ∃ v, v = countPass sn out (issueFrames sn out (storeResults sn out s)) := ⟨_, rfl⟩
  have hfly : v.engine.flight ≠ none := by rw [hv]; simpa [countPass, storeResults] using hflight
  obtain ⟨hpower, hlimiting, hcounters⟩ := reportCuts_report (sn := sn) (out := out) hfly
  rw [passEndResults, ← hv, activateAxles_eq]
  refine ⟨hpower.trans ?_, hlimiting.trans ?_, hcounters.trans ?_⟩
  · have hissued := congrArg (·.powerRun) (issueFrames_report sn out (storeResults sn out s))
    rw [hv]
    simp only [countPass, hissued, storeResults_frame]
    rfl
  · have hissued := congrArg (·.gripLimiting) (issueFrames_report sn out (storeResults sn out s))
    rw [hv]
    simp only [countPass, gripLimitingAt, bothGripping_eq, issueFrames_frame, storeResults_grip, hissued, storeResults_frame]
    rfl
  · rw [hv]
    rfl

/-- The exception record after step 4 (R65). -/
theorem passEndResults_exception (hnone : s.exception = none) :
    (passEndResults sn out s).exception =
      match drivelineCuts out with
      | [] => none
      | c :: later => some
        { event := .driveline c.axle sn.time out.record.passNumber c.preClip c.limit, further := min later.length 255 } := by
  rw [passEndResults, activateAxles_eq, reportCuts_eq]
  simp only [fillRequest_frame]
  exact foldl_takeCut_exception_of_none sn out _ (by simpa using hnone)

/-- Steps 1 to 6 of a pass end. -/
def passResults (sn : Snapshot) (out : PassOut) (s : State) : State := applyDeferred (passEndResults sn out s)

theorem passResults_engine : (passResults sn out s).engine =
    { s.engine with
      previous := if .previousCommands ∈ s.engine.deferred then ⟨0, 0⟩ else out.record.final
      passNumber := out.record.passNumber
      result := out.record
      deferred := [] } := by
  rw [passResults, applyDeferred, foldl_applyReset_engine, foldl_applyReset_previous, passEndResults_engine]

theorem passResults_link :
    (passResults sn out s).link = (issueFrames sn out (storeResults sn out s)).link ∧
    (passResults sn out s).issuer = (issueFrames sn out (storeResults sn out s)).issuer := by
  obtain ⟨hlink, hissuer⟩ := passEndResults_link (sn := sn) (out := out) (s := s)
  simp [passResults, hlink, hissuer]

/-- Steps 1 to 6 touch the mailboxes alone of the link controller. -/
theorem passResults_link_of_mailboxes :
    (passResults sn out s).link = { s.link with mailboxes := (passResults sn out s).link.mailboxes } := by
  rw [passResults_link.1, issueFrames_link]
  simp

theorem passResults_axles :
    (passResults sn out s).axles = PerAxle.of fun a => if s.activates a then freshlyActive else s.axles.get a := by
  rw [passResults, ← (passEndResults_axles (sn := sn) (out := out)).1]
  simp

theorem passResults_table : (passResults sn out s).table =
    { s.table with
      grip := (passResults sn out s).table.grip
      supply := (storeResults sn out s).table.supply
      axle := PerAxle.of fun a => if s.activates a then none else s.table.axle.get a } := by
  have htable := foldl_applyReset_table (passEndResults sn out s).engine.deferred (passEndResults sn out s)
  rw [passEndResults_axles.2] at htable
  exact htable

/-- The resets touch GRIP LIMITING alone of the report unit. -/
theorem passResults_report : (passResults sn out s).report =
    { (passEndResults sn out s).report with gripLimiting := (passResults sn out s).report.gripLimiting } :=
  foldl_applyReset_report _ _

/-- Steps 1, 3 and 6 write the results as the rules give them. -/
theorem resultsWritten_passResults (hflight : s.engine.flight ≠ none) : s.ResultsWritten (passResults sn out s) sn out := by
  obtain ⟨-, hlimiting, -⟩ := passEndResults_report (sn := sn) (out := out) hflight
  have hgrip (a : Axle) := foldl_applyReset_grip s.engine.deferred (passEndResults sn out s) a
  have hdeferred : (passEndResults sn out s).engine.deferred = s.engine.deferred := by rw [passEndResults_engine]
  have hfold : passResults sn out s = { s.engine.deferred.foldl applyReset (passEndResults sn out s) with engine.deferred := [] } := by
    rw [passResults, applyDeferred, hdeferred]
  rw [passEndResults_grip, passEndResults_axles.2] at hgrip
  have hgripping : gripsBoth (passResults sn out s).grip = true ↔ ∀ a, ((passResults sn out s).grip.get a).state = .gripping := by
    simp only [gripsBoth, Bool.and_eq_true, beq_iff_eq]
    exact ⟨fun h a => by cases a <;> [exact h.1; exact h.2], fun h => ⟨h .front, h .rear⟩⟩
  refine ⟨by rw [passResults_engine], fun a => ?_, fun a => ?_, fun hreset hall => ?_, fun hkept => ?_⟩
  · rw [hfold]
    exact (hgrip a).1
  · rw [hfold]
    refine (hgrip a).2.trans ?_
    simp only [PerAxle.get_map]
    rfl
  · rw [hfold] at hgripping hall ⊢
    exact foldl_applyReset_limiting_of_gripping _ hreset (hgripping.2 hall)
  · have hcases : (∀ a, .regulator a ∉ s.engine.deferred) ∨ gripsBoth (passResults sn out s).grip = false := by
      refine hkept.imp id fun ⟨a, ha⟩ => ?_
      rw [← Bool.not_eq_true, hgripping]
      exact fun h => ha (h a)
    have hsame : (passResults sn out s).report.gripLimiting = gripLimitingAt sn { s with grip := out.grip } := by
      rw [hfold] at hcases ⊢
      exact (foldl_applyReset_limiting_of_slipping _ hcases).trans hlimiting
    rw [hsame]
    refine ⟨fun a since hsince hlong => if_pos ?_, fun hshort => ?_⟩
    · rw [Bool.or_eq_true, longLimiting_iff, longLimiting_iff]
      cases a
      · exact .inl ⟨since, hsince, hlong⟩
      · exact .inr ⟨since, hsince, hlong⟩
    · have hnone : (longLimiting sn.time out.grip.front || longLimiting sn.time out.grip.rear) = false := by
        rw [← Bool.not_eq_true, Bool.or_eq_true, longLimiting_iff, longLimiting_iff]
        rintro (⟨since, hsince, hlong⟩ | ⟨since, hsince, hlong⟩)
        · exact absurd (hshort .front since hsince) (by omega)
        · exact absurd (hshort .rear since hsince) (by omega)
      simp only [gripLimitingAt, hnone, bothGripping_eq, gripsBoth, Bool.and_eq_true, beq_iff_eq, Bool.false_eq_true, if_false]

/-- What the results leave is read of four parts of the machine. -/
theorem resultsWritten_of_same {e u : State} (h : s.ResultsWritten e sn out) (hprevious : u.engine.previous = e.engine.previous)
    (hgrip : u.grip = e.grip) (hrow : u.table.grip = e.table.grip) (hlimiting : u.report.gripLimiting = e.report.gripLimiting) :
    s.ResultsWritten u sn out := by
  rw [State.ResultsWritten, hprevious, hgrip, hrow, hlimiting]
  exact h

/-! ## Steps 7 and 8 -/

theorem endPass_eq (hflight : s.engine.flight = some sn) (hout : passOutcome sn s = out) :
    endPass s = requestPassIf (s.activates .rear) (requestPassIf (s.activates .front)
      (startPending (finishFlight sn out (passResults sn out s)))) := by
  have hactivated (a : Axle) : activatedAt a s (passEndResults sn out s) = s.activates a := by
    rw [activatedAt, passEndResults_axles.1, PerAxle.get_of, activatedAt_iff]
  simp only [endPass, hflight, hout, hactivated]
  rfl

/-- A pass that closes nothing leaves the engine IDLE and the modes alone. -/
theorem finishFlight_of_open (h : s.modes.mode = .driving ∨ sn.mode ≠ s.modes.mode ∨ out.record.final ≠ ⟨0, 0⟩) :
    finishFlight sn out s = { s with engine.flight := none } := by
  have hzero : finalsZero out = true → out.record.final = ⟨0, 0⟩ := fun hz => by
    simp only [finalsZero, Bool.and_eq_true, beq_iff_eq] at hz
    rw [show out.record.final = ⟨out.record.final.front, out.record.final.rear⟩ from rfl, hz.1, hz.2]
  have hmode (m : Mode) (hm : m ≠ .driving) (hz : finalsZero out = true) (hsn : sn.mode = m) : s.modes.mode ≠ m := by
    rintro rfl
    rcases h with h | h | h
    · exact hm h
    · exact h hsn
    · exact h (hzero hz)
  simp only [finishFlight]
  split
  next hz =>
    split
    next hsn => exact if_neg (hmode .fading (by decide) hz hsn)
    next =>
      split
      next hsn => exact if_neg (hmode .supplyDown (by decide) hz hsn)
      next => rfl
  next => rfl

/-- A pass that ends in a mode without passes leaves the modes alone. -/
theorem finishFlight_of_still (hstill : s.modes.mode.runsPasses = false) :
    finishFlight sn out s = { s with engine.flight := none } := by
  have hfading : s.modes.mode ≠ .fading := fun h => by rw [h] at hstill; cases hstill
  have hdown : s.modes.mode ≠ .supplyDown := fun h => by rw [h] at hstill; cases hstill
  simp only [finishFlight, fadeComplete, rampComplete, if_neg hfading, if_neg hdown, ite_self]

/-- What an engine that step 7 left IDLE starts: nothing, where no pass is pending and no axle was activated. -/
theorem requestsTaken_of_none {front rear : Bool} (h : s.engine.pendingPass.toNat + front.toNat + rear.toNat = 0) :
    requestPassIf rear (requestPassIf front (startPending s)) = s := by
  obtain ⟨hpending, hfront, hrear⟩ : s.engine.pendingPass = false ∧ front = false ∧ rear = false := by
    cases hp : s.engine.pendingPass <;> cases front <;> cases rear <;> simp_all
  simp [hfront, hrear, startPending, hpending, requestPassIf]

/-- The first of the pending pass and the requests of activated axles starts a pass; a further one leaves it pending (R3, R8). -/
theorem requestsTaken_of_some {front rear : Bool} (hruns : s.modes.mode.runsPasses = true) (hidle : s.engine.flight = none)
    (h : 0 < s.engine.pendingPass.toNat + front.toNat + rear.toNat) :
    requestPassIf rear (requestPassIf front (startPending s)) =
      { startPass s with engine.pendingPass := decide (1 < s.engine.pendingPass.toNat + front.toNat + rear.toNat) } := by
  have hfollow (b : Bool) : requestPass { startPass s with engine.pendingPass := b } = { startPass s with engine.pendingPass := true } :=
    requestPass_of_flying (s := { startPass s with engine.pendingPass := b }) hruns rfl
  have hfirst : requestPass s = { startPass s with engine.pendingPass := false } := requestPass_of_idle hruns hidle
  have hstart : startPending s = if s.engine.pendingPass then { startPass s with engine.pendingPass := false } else s := by
    rw [startPending, hruns]
    rfl
  rw [hstart]
  cases hp : s.engine.pendingPass <;> cases front <;> cases rear <;> simp_all [requestPassIf]

end Steps

end Sys2Proof.Machine

namespace Sys2Proof.Machine

/-! The end of a pass that closes nothing (O30 to O34). -/

/-- The pass that ends takes its snapshot, its previous commands and its regulators from the machine that its event found. -/
theorem exec_passEnd {s : State} {t : Time} {sn : Snapshot} {out : PassOut} (hflight : s.engine.flight = some sn)
    (hout : computePass s.par sn s.engine.previous s.grip (s.engine.passNumber + 1) = out) :
    afterEffect (.passEnd t) s = requestPassIf (s.activates .rear) (requestPassIf (s.activates .front)
      (startPending (finishFlight sn out (passResults sn out { s with now := t })))) ∧
    exec (.passEnd t) s = .next (settle s (afterEffect (.passEnd t) s)) :=
  ⟨endPass_eq (s := { s with now := t }) hflight hout, exec_eq_settle (fun h => by cases h) s⟩

section Open

variable {s : State} {t : Time} {sn : Snapshot} {out : PassOut}

theorem passNumber_of_computePass (hout : computePass s.par sn s.engine.previous s.grip (s.engine.passNumber + 1) = out) :
    out.record.passNumber = s.engine.passNumber + 1 := by rw [← hout]; rfl

/-- The requests that the end of a pass leaves for step 8: the pending one, and one of each activated axle. -/
def State.passesWanted (s : State) : Nat := s.engine.pendingPass.toNat + (s.activates .front).toNat + (s.activates .rear).toNat

/-- The end of a pass that closes nothing, in a mode that runs passes: the results of steps 1 to 6, and the engine of steps 7
and 8. -/
theorem passEnd_of_open (hflight : s.engine.flight = some sn) (hruns : s.modes.mode.runsPasses = true)
    (hout : computePass s.par sn s.engine.previous s.grip (s.engine.passNumber + 1) = out)
    (hopen : s.modes.mode = .driving ∨ sn.mode ≠ s.modes.mode ∨ out.record.final ≠ ⟨0, 0⟩) :
    ∃ e v, e = passResults sn out { s with now := t } ∧ v = { e with engine := v.engine } ∧
      exec (.passEnd t) s = .next (settle s v) ∧ marksQuiet s v = false ∧
      (s.passesWanted = 0 → v.engine = { e.engine with flight := none }) ∧
      (0 < s.passesWanted → v.engine = { (startPass { e with engine.flight := none }).engine with
        pendingPass := decide (1 < s.passesWanted) }) := by
  obtain ⟨heffect, hexec⟩ := exec_passEnd (t := t) hflight hout
  obtain ⟨e, he⟩ : ∃ e, e = passResults sn out { s with now := t } := ⟨_, rfl⟩
  have hmodes : e.modes = s.modes := by rw [he]; simp [passResults]
  have hpending : e.engine.pendingPass = s.engine.pendingPass := by rw [he, passResults_engine]
  obtain ⟨y, hy⟩ : ∃ y : State, y = { e with engine.flight := none } := ⟨_, rfl⟩
  have hypending : y.engine.pendingPass = s.engine.pendingPass := by rw [hy]; exact hpending
  have hquiet : e.link.quiet = s.link.quiet := by rw [he, passResults_link_of_mailboxes]
  rw [← he, finishFlight_of_open (by rw [hmodes]; exact hopen), ← hy] at heffect
  rw [heffect] at hexec
  rcases Nat.eq_zero_or_pos s.passesWanted with hwanted | hwanted
  · rw [requestsTaken_of_none (by rw [hypending]; exact hwanted)] at hexec
    exact ⟨e, y, he, by rw [hy], hexec, marksQuiet_same (by rw [hy]; exact hquiet), fun _ => by rw [hy], fun h => by omega⟩
  · rw [requestsTaken_of_some (by rw [hy]; exact hmodes ▸ hruns) (by rw [hy]) (by rw [hypending]; exact hwanted), hypending] at hexec
    exact ⟨e, _, he, by rw [hy]; rfl, hexec, marksQuiet_same (by rw [hy]; exact hquiet), fun h => by omega, fun _ => by rw [hy]; rfl⟩

end Open

/-- Settles O33. -/
theorem passEndingOutsideDrivePlacesNoCommand : Obligations.PassEndingOutsideDrivePlacesNoCommand := by
  unfold Obligations.PassEndingOutsideDrivePlacesNoCommand
  intro s t sn out hflight hstill hout
  obtain ⟨heffect, hexec⟩ := exec_passEnd (t := t) hflight hout
  obtain ⟨x, hx⟩ : ∃ x : State, x = { s with now := t } := ⟨_, rfl⟩
  obtain ⟨e, he⟩ : ∃ e, e = passResults sn out x := ⟨_, rfl⟩
  have hxflight : x.engine.flight ≠ none := by rw [hx]; simp [hflight]
  have hxstill : (storeResults sn out x).modes.mode.runsPasses = false := by rw [hx]; simpa using hstill
  have hmodes : e.modes = s.modes := by rw [he, hx]; simp [passResults]
  have hactivates (a : Axle) : s.activates a = false := by
    rw [State.activates, decide_eq_false_iff_not]
    rintro ⟨h, -⟩
    rw [h] at hstill
    cases hstill
  have hissued : issueFrames sn out (storeResults sn out x) = placeReport out (storeResults sn out x) :=
    issueFrames_of_still sn out hxstill
  obtain ⟨hlink, hissuer⟩ := passResults_link (sn := sn) (out := out) (s := x)
  rw [hissued, ← he] at hlink hissuer
  rw [placeReport_issuer] at hissuer
  obtain ⟨v, hv⟩ : ∃ v : State, v = { e with engine := { e.engine with flight := none, pendingPass := false } } := ⟨_, rfl⟩
  have hpending : startPending { e with engine.flight := none } = v := by
    rw [hv]
    unfold startPending
    split
    · exact if_neg (by simp [hmodes, hstill])
    next h => rw [Bool.not_eq_true] at h; rw [← h]
  rw [← hx, ← he, finishFlight_of_still (by rw [hmodes]; exact hstill), hactivates, hactivates, hpending] at heffect
  simp only [requestPassIf, Bool.false_eq_true, if_false] at heffect
  rw [heffect] at hexec
  have hquiet : marksQuiet s v = false := marksQuiet_same (by rw [hv, hlink, hx]; simp)
  obtain ⟨-, hmail⟩ := settle_sameLink hquiet
  have hvlink : v.link = (placeReport out (storeResults sn out x)).link := by rw [hv]; exact hlink
  have hcommand (a : Axle) : (settle s v).link.mailboxes.get (commandKind a) = s.link.mailboxes.get (commandKind a) := by
    rw [hmail _ (by cases a <;> rfl), hvlink, placeReport_command, hx]
    simp
  have hengine := passResults_engine (sn := sn) (out := out) (s := x)
  rw [← he] at hengine
  have hresults : x.ResultsWritten e sn out := by rw [he]; exact resultsWritten_passResults hxflight
  have hcounters := (passEndResults_report (sn := sn) (out := out) hxflight).2.2
  refine ⟨settle s v, hexec, hcommand .front, hcommand .rear, ?_, ?_, ?_, fun htakes => ?_, ?_, ?_, ?_, ?_, ?_, ?_, ?_, ?_, ?_, ?_⟩
  · simp [hv, hissuer, hx]
  · simp [hv, hissuer, hx]
  · simp [hv, hissuer, hx]
  · have hplaced := placeReport_mail out (s := storeResults sn out x) (by rw [hx]; simpa [State.takesFrames] using htakes)
    refine ⟨_, (hmail .splitReport rfl).trans (by rw [hvlink]; exact hplaced), ?_⟩
    rw [hx]
    simp
  · simp [hv]
  · simp [hv]
  · simp [hv, hengine]
  · simp [hv, hengine, passNumber_of_computePass hout, hx]
  · simp [hv, hengine]
  · simp [hv, hmodes]
  · have haxles := passResults_axles (sn := sn) (out := out) (s := x)
    have hsame : e.axles = s.axles := by
      have hactivates' (a : Axle) : x.activates a = false := by rw [hx]; exact hactivates a
      rw [he, haxles]
      simp only [hactivates', Bool.false_eq_true, if_false]
      rw [hx]
      rfl
    simp [hv, hsame]
  · simp [hv, hengine, hx]
  · rw [hx] at hresults
    exact resultsWritten_of_same (e := e) hresults (by simp [hv]) (by simp [hv]) (by simp [hv]) (by simp [hv])
  · have hreport := congrArg (·.counters) (passResults_report (sn := sn) (out := out) (s := x))
    rw [← he] at hreport
    have hsuperseded : e.report.counters.superseded = s.report.counters.superseded := by
      rw [hreport, hcounters, hissued, placeReport_report, hx]
      simp
    simp [hv, hsuperseded]

/-! ## The capture request at step 4 (O34) -/

/-- Steps 7 and 8 find no request, and leave the slots alone. -/
theorem requestKept_finishFlight (sn : Snapshot) (out : PassOut) {s : State} (hnone : s.report.request = none) :
    s.RequestKept (finishFlight sn out s) := by
  obtain ⟨y, hy⟩ : ∃ y : State, y = { s with engine.flight := none } := ⟨_, rfl⟩
  have hsy : s.RequestKept y := by rw [hy]; exact ⟨rfl, rfl, rfl, rfl, rfl⟩
  have hynone : y.report.request = none := by rw [hy]; exact hnone
  have henter {new : Mode} (h : new.runsPasses = false) (hmode : ∀ v, (enterMode new .none v).modes.mode = new) :
      y.RequestKept (enterMode new .none y) :=
    (waitingFilled_of_enterMode h (.refl y) (.refl _) rfl rfl rfl (hmode y) (fun _ => rfl) rfl).1 (.inl hynone)
  have hfade : y.RequestKept (fadeComplete y) := by
    unfold fadeComplete
    split
    · exact henter rfl fun v => by simp
    · exact .refl y
  have hramp : y.RequestKept (rampComplete y) := by
    have hrestart := requestKept_warmRestart y
    rw [fillRequest_of_none hynone] at hrestart
    unfold rampComplete
    split
    · split
      · exact hrestart
      · exact henter rfl fun v => by simp
    · exact .refl y
  refine hsy.trans ?_
  simp only [finishFlight, ← hy]
  split
  · split
    · exact hfade
    · split
      · exact hramp
      · exact .refl y
  · exact .refl y

theorem requestKept_requestPassIf (c : Bool) (s : State) : s.RequestKept (requestPassIf c s) := by
  simp [State.RequestKept, State.SlotsKept]

theorem requestKept_startPending (s : State) : s.RequestKept (startPending s) := by
  simp [State.RequestKept, State.SlotsKept]

theorem fillRequest_request (s : State) : (fillRequest s).report.request = none := by
  cases h : s.report.request with
  | none => rw [fillRequest_of_none h, h]
  | some r => exact (fillRequest_filled h).1

/-- The machine in which step 4 fills the request: the cuts of the pass reported. -/
def cutsTaken (sn : Snapshot) (out : PassOut) (s : State) : State :=
  (drivelineCuts out).foldl (takeCut sn out) (countPass sn out (issueFrames sn out (storeResults sn out s)))

/-- The request is filled at step 4, and not touched after it. -/
theorem requestKept_of_passEnd {s : State} {t : Time} {sn : Snapshot} {out : PassOut} (hflight : s.engine.flight = some sn)
    (hout : computePass s.par sn s.engine.previous s.grip (s.engine.passNumber + 1) = out) :
    (fillRequest (cutsTaken sn out { s with now := t })).RequestKept (afterEffect (.passEnd t) s) := by
  obtain ⟨e, he⟩ : ∃ e, e = passResults sn out { s with now := t } := ⟨_, rfl⟩
  have hresults : (fillRequest (cutsTaken sn out { s with now := t })).RequestKept e := by
    rw [State.RequestKept, State.SlotsKept, he, passResults_report, passEndResults, activateAxles_eq, reportCuts_eq, cutsTaken]
    exact ⟨rfl, rfl, rfl, rfl, rfl⟩
  rw [(exec_passEnd hflight hout).1, ← he]
  exact (hresults.trans (requestKept_finishFlight sn out (hresults.1.trans (fillRequest_request _)))).trans
    ((requestKept_startPending _).trans ((requestKept_requestPassIf _ _).trans (requestKept_requestPassIf _ _)))

theorem countPass_slots (sn : Snapshot) (out : PassOut) (s : State) :
    s.RequestKept (countPass sn out (issueFrames sn out (storeResults sn out s))) := by
  rw [State.RequestKept, State.SlotsKept, countPass, issueFrames_report]
  simp

/-- What step 4 fills the request from (R173). -/
theorem cutsTaken_frame (sn : Snapshot) (out : PassOut) (s : State) :
    (cutsTaken sn out s).engine.result = out.record ∧ (cutsTaken sn out s).modes = s.modes ∧ (cutsTaken sn out s).axles = s.axles ∧
    (cutsTaken sn out s).streams = s.streams ∧ (cutsTaken sn out s).params = s.params := by
  have htaken : cutsTaken sn out s =
      out.cuts.foldl (reportCut sn out) (countPass sn out (issueFrames sn out (storeResults sn out s))) :=
    (foldl_reportCut_eq sn out _).symm
  rw [htaken]
  refine ⟨?_, by simp, by simp, by simp, by simp⟩
  simp [countPass]

/-- Settles O34. -/
theorem passEndFillsTheCaptureRequest : Obligations.PassEndFillsTheCaptureRequest := by
  unfold Obligations.PassEndFillsTheCaptureRequest
  intro s t sn out p events hflight hp hout hevents
  have hpar : s.par = p := par_of_params hp
  rw [← hpar] at hout hevents
  obtain ⟨x, hx⟩ : ∃ x : State, x = { s with now := t } := ⟨_, rfl⟩
  obtain ⟨y, hy⟩ : ∃ y, y = countPass sn out (issueFrames sn out (storeResults sn out x)) := ⟨_, rfl⟩
  obtain ⟨f, hf⟩ : ∃ f, f = cutsTaken sn out x := ⟨_, rfl⟩
  have hfy : f = (drivelineCuts out).foldl (takeCut sn out) y := by rw [hf, hy]; rfl
  have hyflight : y.engine.flight ≠ none := by rw [hy, hx]; simp [countPass, storeResults, hflight]
  have hypar : y.par = s.par := by rw [hy, hx]; simp [State.par]
  have hynow : y.now = t := by rw [hy, hx]; simp
  have hykept : s.RequestKept y := by
    rw [hy, hx]
    exact .trans (show s.RequestKept { s with now := t } from ⟨rfl, rfl, rfl, rfl, rfl⟩) (countPass_slots sn out _)
  have hfreport : f.report = { y.report with request := f.report.request } := by
    rw [hfy]
    exact foldl_takeCut_report sn out _ hyflight
  have hfslots : s.SlotsKept f := by
    have hyf : y.SlotsKept f := by
      rw [State.SlotsKept, hfreport]
      exact ⟨rfl, rfl, rfl, rfl⟩
    exact hykept.2.trans hyf
  obtain ⟨hresult, hmodes, haxles, hstreams, hparams⟩ := cutsTaken_frame sn out x
  rw [← hf] at hresult hmodes haxles hstreams hparams
  have hfpar : f.par = p := by rw [State.par, hparams, ← hpar, hx]; rfl
  have hkept : (fillRequest f).RequestKept (settle s (afterEffect (.passEnd t) s)) := by
    rw [hf, hx]
    exact (requestKept_of_passEnd hflight hout).trans (requestKept_settle _ _)
  have hcuts : (out.cuts.filter fun c => c.row == .driveline).length = (drivelineCuts out).length := rfl
  rw [hcuts] at hevents
  refine ⟨_, (exec_passEnd hflight hout).2, fun r hr hbound => ?_, fun hnone hzero => ?_⟩
  · have hmerged : f.report.request = some
        { r with merged := min (r.merged + (if s.report.request = none then events - 1 else events)) 255 } := by
      rcases hr with hsome | ⟨hnone, hpositive, rfl⟩
      · rw [if_neg (by simp [hsome]), hfy]
        cases hon : s.par.enables.driveline
        · have hzero : events = 0 := by simp [hevents, hon]
          rw [foldl_takeCut_request_of_disabled sn out _ hyflight (by rw [hypar]; exact hon), hykept.1, hsome, hzero, Nat.add_zero,
            Nat.min_eq_left hbound]
        · have hlength : events = (drivelineCuts out).length := by simp [hevents, hon]
          rw [foldl_takeCut_request_of_some sn out _ hyflight (by rw [hypar]; exact hon) (hykept.1.trans hsome) hbound, hlength]
      · have hon : s.par.enables.driveline = true := by
          rw [← Bool.not_eq_false]
          intro hoff
          simp [hevents, hoff] at hpositive
        have hlength : events = (drivelineCuts out).length := by simp [hevents, hon]
        rw [if_pos hnone, hfy, foldl_takeCut_request_of_none sn out hyflight (by rw [hypar]; exact hon) (hykept.1.trans hnone)
          (hlength ▸ hpositive), hynow, hlength, Nat.zero_add]
    have hfilled := filled_of_slotsKept hfslots hkept (fillRequest_filled hmerged)
    rw [hfpar, captureOf, hresult, hmodes, haxles, hstreams, hx] at hfilled
    exact hfilled
  · have hstill : f.report.request = none := by
      rw [hfy]
      cases hon : s.par.enables.driveline
      · rw [foldl_takeCut_request_of_disabled sn out _ hyflight (by rw [hypar]; exact hon), hykept.1, hnone]
      · have hempty : drivelineCuts out = [] := List.length_eq_zero_iff.1 (by simpa [hon, hzero] using hevents.symm)
        rw [hempty]
        exact hykept.1.trans hnone
    have hfilled : s.RequestKept f := ⟨hstill.trans hnone.symm, hfslots⟩
    rw [fillRequest_of_none hstill] at hkept
    obtain ⟨hrequest, hslots⟩ := hfilled.trans hkept
    exact ⟨hrequest.trans hnone, hslots⟩

end Sys2Proof.Machine

namespace Sys2Proof.Machine

/-! The results of a pass that closes nothing (O30), its commands (O31) and the axles that it activates (O32). -/

/-- The snapshot of a pass that starts in a machine which is `s` but for what a pass end writes. -/
theorem takeSnapshot_eq {s e : State} (hrecords : e.records = s.records) (hstreams : e.streams = s.streams)
    (hfilters : e.filters = s.filters) (hmodes : e.modes = s.modes) (hlast : e.engine.lastStart = s.engine.lastStart)
    (hfirst : e.engine.firstPass = s.engine.firstPass) : takeSnapshot e = s.snapshotAt e.table e.now := by
  simp only [takeSnapshot, State.snapshotAt, hrecords, hstreams, hfilters, hmodes, hlast, hfirst]

theorem storeResults_supply_of_entered (sn : Snapshot) (out : PassOut) {s : State} (hsn : sn.mode ≠ .supplyDown)
    (hmode : s.modes.mode = .supplyDown) (a : Axle) :
    (storeResults sn out s).table.supply.get a = some (symmetric (magnitude (out.record.final.get a))) := by
  simp [storeResults, storeSupply, hsn, hmode, setSupplyCeilings]

theorem storeResults_supply_of_other (sn : Snapshot) (out : PassOut) {s : State} (hsn : sn.mode ≠ .supplyDown)
    (hmode : s.modes.mode ≠ .supplyDown) : (storeResults sn out s).table.supply = s.table.supply := by
  simp [storeResults, storeSupply, hsn, hmode]

theorem storeResults_supply_of_falling {sn : Snapshot} {out : PassOut} {s : State} (hsn : sn.mode = .supplyDown) (a : Axle) :
    (storeResults sn out s).table.supply.get a = some (symmetric (out.supplyCeiling.get a)) := by
  simp [storeResults, storeSupply, hsn]

/-- The mailboxes that a pass end fills stand after its event, as does the rest of the link controller. -/
theorem passEnd_link {s e v : State} {t : Time} {sn : Snapshot} {out : PassOut} (he : e = passResults sn out { s with now := t })
    (hv : v.link = e.link) (hquiet : marksQuiet s v = false) :
    (settle s v).link = { s.link with mailboxes := (settle s v).link.mailboxes } ∧
    ∀ k, k.isReport = false → (settle s v).link.mailboxes.get k =
      (issueFrames sn out (storeResults sn out { s with now := t })).link.mailboxes.get k := by
  obtain ⟨hlink, hmail⟩ := settle_sameLink hquiet
  refine ⟨?_, fun k hk => ?_⟩
  · rw [hlink, hv, he, passResults_link_of_mailboxes]
  · rw [hmail k hk, hv, he, passResults_link.1]

/-- Settles O30. -/
theorem passEndWritesTheResults : Obligations.PassEndWritesTheResults := by
  unfold Obligations.PassEndWritesTheResults
  intro s t sn out activated wanted hflight hruns hactivated hwanted hout hopen
  have hactivates (a : Axle) : activated a = s.activates a := by
    rw [Bool.eq_iff_iff, hactivated a, State.activates, decide_eq_true_iff]
  rw [hactivates, hactivates] at hwanted
  have hwanted' : s.passesWanted = wanted := hwanted.symm
  obtain ⟨e, v, he, hv, hexec, hquiet, hnone, hsome⟩ := passEnd_of_open (t := t) hflight hruns hout hopen
  obtain ⟨g, hg⟩ : ∃ g, g = v.engine := ⟨_, rfl⟩
  rw [← hg] at hv hnone hsome
  rw [hwanted'] at hnone hsome
  obtain ⟨x, hx⟩ : ∃ x : State, x = { s with now := t } := ⟨_, rfl⟩
  rw [← hx] at he
  have hxflight : x.engine.flight ≠ none := by rw [hx]; simp [hflight]
  have hengine := passResults_engine (sn := sn) (out := out) (s := x)
  have htable := passResults_table (sn := sn) (out := out) (s := x)
  have haxles := passResults_axles (sn := sn) (out := out) (s := x)
  have hissuer := (passResults_link (sn := sn) (out := out) (s := x)).2
  have hreport := passResults_report (sn := sn) (out := out) (s := x)
  have hresults := resultsWritten_passResults (sn := sn) (out := out) hxflight
  rw [← he] at hengine htable haxles hissuer hreport hresults
  obtain ⟨hpower, -, -⟩ := passEndResults_report (sn := sn) (out := out) hxflight
  have hmodes : e.modes = s.modes := by rw [he, hx]; simp [passResults]
  have hrecords : e.records = s.records := by rw [he, hx]; simp [passResults]
  have hstreams : e.streams = s.streams := by rw [he, hx]; simp [passResults]
  have hfilters : e.filters = s.filters := by rw [he, hx]; simp [passResults]
  have hutable : (settle s v).table = e.table := by simp [hv]
  have huengine : (settle s v).engine = g := by simp [hv]
  have hnumber := passNumber_of_computePass hout
  have hissued : issueFrames sn out (storeResults sn out x) =
      placeReport out (issueBoth sn out (closingPass sn out (storeResults sn out x)) (storeResults sn out x)) :=
    issueFrames_of_running sn out (by rw [hx]; simpa using hruns)
  obtain ⟨hlink, hmail⟩ := passEnd_link (hx ▸ he) (by rw [hv]) hquiet
  rw [← hx] at hmail
  have hprevious : g.previous = e.engine.previous := by
    rcases Nat.eq_zero_or_pos wanted with h | h
    · rw [hnone h]
    · rw [hsome h]
      rfl
  refine ⟨settle s v, hexec, ?_, fun hzero => ?_, fun hpos => ?_, ?_, fun a => ⟨?_, ?_⟩, fun a b m hsn hb hm => ?_,
    fun a hsn hmode => ?_, fun hsn hmode => ?_, ?_, fun htakes => ?_, ?_, fun hexception => ?_, ?_, ?_, ?_, ?_, fun i => ?_, ?_, ?_, ?_⟩
  · rw [hx] at hresults
    exact resultsWritten_of_same (e := e) hresults (by rw [huengine, hprevious]) (by simp [hv]) (by simp [hv]) (by simp [hv])
  · rw [huengine, hnone hzero, hengine, hnumber, hx]
  · obtain ⟨y, hy⟩ : ∃ y : State, y = { e with engine.flight := none } := ⟨_, rfl⟩
    have hyengine : y.engine = { e.engine with flight := none } := by rw [hy]
    have hypar : y.par = s.par := by rw [hy]; simp [State.par, he, hx, passResults]
    have hynow : y.now = t := by rw [hy]; simp [he, hx, passResults]
    have hysnapshot : takeSnapshot y = s.snapshotAt e.table t := by
      have hsnapshot := takeSnapshot_eq (s := s) (e := y) (by rw [hy]; exact hrecords) (by rw [hy]; exact hstreams)
        (by rw [hy]; exact hfilters) (by rw [hy]; exact hmodes) (by rw [hyengine, hengine, hx]) (by rw [hyengine, hengine, hx])
      rw [hsnapshot, hynow, hy]
    have hstart : g = { (startPass y).engine with pendingPass := decide (1 < wanted) } := by rw [hy]; exact hsome hpos
    rw [hutable, huengine]
    rw [startPass, hysnapshot, hynow, hypar, hyengine, hengine, hnumber] at hstart
    rw [hstart]
  · rw [hutable, htable, hx]
  · rw [show (settle s v).axles = e.axles by simp [hv], haxles, PerAxle.get_of, hactivates, hx]
    rfl
  · rw [hutable, htable, hactivates, hx]
    simp only [PerAxle.get_of]
    rfl
  · rw [hutable, htable]
    refine (storeResults_supply_of_falling hsn a).trans ?_
    have hceiling : out.supplyCeiling.get a = m := by
      rw [← hout, hm]
      simp [computePass, loweredCeiling, hb]
    rw [hceiling]
    rfl
  · rw [hutable, htable]
    exact storeResults_supply_of_entered sn out hsn (by rw [hx]; exact hmode) a
  · rw [hutable, htable, hx]
    exact storeResults_supply_of_other sn out hsn hmode
  · rw [show (settle s v).issuer = e.issuer by simp [hv], hissuer, hissued, placeReport_issuer]
    simp [(issueBoth_issuer _ _ _ _).1, hx]
  · refine (hmail .splitReport rfl).trans ?_
    rw [hissued]
    have htakes' : (storeResults sn out x).takesFrames := by rw [hx]; simpa [State.takesFrames] using htakes
    refine (placeReport_mail out ((issueBoth_takesFrames _ _ _ _).2 htakes')).trans ?_
    rw [(issueBoth_issuer _ _ _ _).1, hx]
    simp
  · rw [show (settle s v).report.powerRun = e.report.powerRun by simp [hv], hreport, hpower, hx]
  · have hcuts := passEndResults_exception (sn := sn) (out := out) (s := x) (by rw [hx]; exact hexception)
    rw [hnumber] at hcuts
    have hkept : e.exception = (passEndResults sn out x).exception := by rw [he, passResults]; simp
    have hsettled : (settle s v).exception = e.exception := by simp [hv]
    exact hsettled.trans (hkept.trans hcuts)
  · simp [hv, hmodes]
  · simp [hv, hrecords]
  · simp [hv, he, hx, passResults]
  · simp [hv, hfilters]
  · rw [settle_stream_unflagged, show v.streams = s.streams by rw [hv, ← hstreams]]
  · simp [hv, he, hx, passResults]
  · rw [hlink]
  · rw [hlink]

/-! ## The commands of a pass end (O31) -/

theorem motorTenths_eq (ratio torque : Int) : motorTenths ratio torque = max (-6000) (min 6000 ((torque * 2560).tdiv ratio)) :=
  clampTo_eq _ (by decide)

/-- A pass that closes nothing is none to the issuer. -/
theorem closingPass_of_open {sn : Snapshot} {out : PassOut} {s : State}
    (h : s.modes.mode = .driving ∨ sn.mode ≠ s.modes.mode ∨ out.record.final ≠ ⟨0, 0⟩) : closingPass sn out s = false := by
  rw [← Bool.not_eq_true]
  intro hclosing
  simp only [closingPass, finalsZero, Bool.and_eq_true, Bool.or_eq_true, beq_iff_eq] at hclosing
  obtain ⟨⟨hmode, hsame⟩, hfront, hrear⟩ := hclosing
  rcases h with h | h | h
  · rw [h] at hsame
    rw [hsame] at hmode
    rcases hmode with hmode | hmode <;> cases hmode
  · exact h hsame
  · exact h (by rw [show out.record.final = ⟨out.record.final.front, out.record.final.rear⟩ from rfl, hfront, hrear])

/-- Settles O31. -/
theorem passEndPlacesServiceAndReleaseFrames : Obligations.PassEndPlacesServiceAndReleaseFrames := by
  unfold Obligations.PassEndPlacesServiceAndReleaseFrames
  refine ⟨fun x => by cases x <;> decide, fun s t sn out a p code hflight hruns hp htakes hcode hout hopen => ?_⟩
  have hpar : s.par = p := par_of_params hp
  rw [← hpar] at hout ⊢
  obtain ⟨e, v, he, hv, hexec, hquiet, -, -⟩ := passEnd_of_open (t := t) hflight hruns hout hopen
  obtain ⟨g, hg⟩ : ∃ g, g = v.engine := ⟨_, rfl⟩
  rw [← hg] at hv
  obtain ⟨y, hy⟩ : ∃ y, y = storeResults sn out { s with now := t } := ⟨_, rfl⟩
  have hyissuer : y.issuer = s.issuer := by rw [hy]; simp
  have hyaxles : y.axles = s.axles := by rw [hy]; simp
  have hylink : y.link = s.link := by rw [hy]; simp
  have hypar : y.par = s.par := by rw [hy]; simp [State.par]
  have hyreport : y.report = s.report := by rw [hy]; simp
  have hytakes : y.takesFrames := by rw [State.takesFrames, hylink]; exact htakes
  have hclosing : closingPass sn out y = false := closingPass_of_open (by rw [hy]; simpa using hopen)
  have hissued : issueFrames sn out y = placeReport out (issueBoth sn out false y) := by
    rw [issueFrames_of_running sn out (by rw [hy]; simpa using hruns), hclosing]
  obtain ⟨-, hmail⟩ := passEnd_link he (by rw [hv]) hquiet
  have hissuer := (passResults_link (sn := sn) (out := out) (s := { s with now := t })).2
  rw [← hy, hissued] at hmail hissuer
  rw [← he, placeReport_issuer] at hissuer
  obtain ⟨-, hboth⟩ := issueBoth_issuer sn out false y
  have hframe : (settle s v).link.mailboxes.get (commandKind a) =
      if y.commanded a = true then some (y.commandOf sn out false a) else s.link.mailboxes.get (commandKind a) := by
    rw [hmail _ (by cases a <;> rfl), placeReport_command, issueBoth_mail hytakes, hylink]
  obtain ⟨hsequence, hmark⟩ := hboth a
  have husequence : (settle s v).issuer.sequence.get a =
      if y.commanded a = true then s.issuer.sequence.get a + 1 else s.issuer.sequence.get a := by
    rw [show (settle s v).issuer = e.issuer by simp [hv], hissuer, hsequence, hyissuer]
  have humark : (settle s v).issuer.inService.get a = (s.axles.get a).state.inService := by
    rw [show (settle s v).issuer = e.issuer by simp [hv], hissuer, hmark, hyaxles]
    rfl
  have hstate : stateCodeOf sn.mode = code := by
    rcases hcode with ⟨hmode, rfl⟩ | ⟨hmode, rfl⟩ | ⟨hmode, rfl⟩ <;> rw [hmode] <;> rfl
  have hcommanded : y.commanded a = ((s.axles.get a).state.inService || s.issuer.inService.get a) := by
    rw [State.commanded, hyaxles, hyissuer]
  rw [hcommanded] at hframe husequence
  rw [State.commandOf, hyissuer, hyaxles, hypar, hstate, motorTenths_eq] at hframe
  refine ⟨settle s v, hexec, ?_, fun hserving => ?_, fun hleft hmarked => ?_, fun hleft hunmarked => ?_⟩
  · have hsuperseded : y.supersededAfter = s.supersededAfter := by
      have hreplaced : y.commandsReplaced = s.commandsReplaced := by
        simp only [State.commandsReplaced, hyaxles, hyissuer, hylink]
      rw [State.supersededAfter, State.supersededAfter, hreplaced, hyreport]
    have hresults := congrArg (·.counters) (passResults_report (sn := sn) (out := out) (s := { s with now := t }))
    have hcounters := (passEndResults_report (sn := sn) (out := out) (s := { s with now := t }) (by simp [hflight])).2.2
    rw [← hy, hissued, placeReport_report, issueBoth_report _ _ _ hytakes, hyreport, hsuperseded] at hcounters
    rw [← he] at hresults
    rw [show (settle s v).report.counters = e.report.counters by simp [hv], hresults]
    exact hcounters
  · rw [hframe, husequence, humark, hserving]
    simp
  · rw [hframe, husequence, humark, hleft, hmarked]
    simp
  · rw [hframe, husequence, humark, hleft, hunmarked]
    simp

/-! ## Activation (O32) -/

theorem enterMode_still_standby {new : Mode} {s : State} {a : Axle} (h : new.runsPasses = false)
    (hstandby : (s.axles.get a).state = .standby) : ((enterMode new .none s).axles.get a).state = .standby := by
  obtain ⟨-, -, -, -, haxles, -⟩ := enterMode_still_frame .none s h
  rw [haxles, Supervisor.stoodDown_state, hstandby]
  rfl

/-- No axle is activated by steps 7 and 8. -/
theorem finishFlight_not_active (sn : Snapshot) (out : PassOut) {s : State} {a : Axle}
    (hstandby : (s.axles.get a).state = .standby) : ((finishFlight sn out s).axles.get a).state ≠ .active := by
  obtain ⟨y, hy⟩ : ∃ y : State, y = { s with engine.flight := none } := ⟨_, rfl⟩
  have hystandby : (y.axles.get a).state = .standby := by rw [hy]; exact hstandby
  have hkept : (y.axles.get a).state ≠ .active := by rw [hystandby]; decide
  have hfade : ((fadeComplete y).axles.get a).state ≠ .active := by
    unfold fadeComplete
    split
    · rw [enterMode_still_standby rfl hystandby]
      decide
    · exact hkept
  have hramp : ((rampComplete y).axles.get a).state ≠ .active := by
    unfold rampComplete
    split
    · split
      · obtain ⟨-, -, -, -, haxles, -⟩ := warmRestart_blocks y
        rw [haxles]
        cases a <;> decide
      · rw [enterMode_still_standby rfl hystandby]
        decide
    · exact hkept
  simp only [finishFlight, ← hy]
  split
  · split
    · exact hfade
    · split
      · exact hramp
      · exact hkept
  · exact hkept

/-- Settles O32. -/
theorem passEndActivatesStandbyAxles : Obligations.PassEndActivatesStandbyAxles := by
  unfold Obligations.PassEndActivatesStandbyAxles
  intro s t sn a hflight hstandby
  obtain ⟨out, hout⟩ : ∃ out, computePass s.par sn s.engine.previous s.grip (s.engine.passNumber + 1) = out := ⟨_, rfl⟩
  obtain ⟨x, hx⟩ : ∃ x : State, x = { s with now := t } := ⟨_, rfl⟩
  have haxles := passResults_axles (sn := sn) (out := out) (s := x)
  have hactivates : x.activates a = s.activates a := by rw [hx]; rfl
  have haxle : (passResults sn out x).axles.get a = if s.activates a then freshlyActive else s.axles.get a := by
    rw [haxles, PerAxle.get_of, hactivates, hx]
  refine ⟨fun hmode => ?_, fun hdriving haccepting => ?_, fun hdriving hrefusing => ?_⟩
  · have hnone : s.activates a = false := by simp [State.activates, hmode]
    rw [hnone] at haxle
    refine ⟨_, (exec_passEnd hflight hout).2, ?_⟩
    have hfinished := finishFlight_not_active sn out (s := passResults sn out x) (a := a) (by rw [haxle]; exact hstandby)
    rw [(exec_passEnd hflight hout).1, ← hx]
    simpa using hfinished
  · have hone : s.activates a = true := by simp [State.activates, hdriving, hstandby, haccepting]
    obtain ⟨e, v, he, hv, hexec, -, -, hsome⟩ :=
      passEnd_of_open (t := t) hflight (by rw [hdriving]; rfl) hout (.inl hdriving)
    have hwanted : 0 < s.passesWanted := by
      unfold State.passesWanted
      cases a <;> simp [hone]
    obtain ⟨g, hg⟩ : ∃ g, g = v.engine := ⟨_, rfl⟩
    have hstart := hsome hwanted
    rw [← hg] at hv hstart
    rw [← hx] at he
    rw [← he, hone] at haxle
    have htable := passResults_table (sn := sn) (out := out) (s := x)
    rw [← he] at htable
    have hrow : e.table.axle.get a = none := by
      rw [htable]
      simp only [PerAxle.get_of, hactivates, hone, if_true]
    have hmodes : e.modes = s.modes := by rw [he, hx]; simp [passResults]
    have hnow : e.now = t := by rw [he, hx]; simp [passResults]
    refine ⟨settle s v, takeSnapshot { e with engine.flight := none }, hexec, ?_, ?_, ?_, hrow, hnow, hmodes ▸ hdriving, ?_, ?_, ?_⟩
    · simp [hv, haxle, freshlyActive]
    · simp [hv, hrow]
    · simp [hv, hstart, startPass]
    · simp [hv, hmodes]
    · simp [hv, he, hx, passResults]
    · simp [hv, he, hx, passResults]
  · have hnone : s.activates a = false := by simp [State.activates, hrefusing]
    obtain ⟨e, v, he, hv, hexec, -⟩ := passEnd_of_open (t := t) hflight (by rw [hdriving]; rfl) hout (.inl hdriving)
    refine ⟨settle s v, hexec, ?_⟩
    rw [hnone] at haxle
    rw [show (settle s v).axles = e.axles by rw [hv]; simp, he, ← hx, haxle]
    rfl

end Sys2Proof.Machine

namespace Sys2Proof.Machine

/-! The closing pass (O35). -/

/-- What a closing pass leaves, `v` being the machine at the end of step 8: an IDLE engine at 0, the results, the axles standing by,
and the release frames, which count what they supersede (R107, R135, R141). -/
structure State.PassClosed (s v : State) (sn : Snapshot) (out : PassOut) (code : StateCode) : Prop where
  idle : v.engine.flight = none ∧ v.engine.pendingPass = false ∧ v.engine.timer = none
  reset : v.engine.previous = ⟨0, 0⟩ ∧ v.engine.deferred = []
  unmarked : v.issuer.inService = ⟨false, false⟩
  results : s.ResultsWritten v sn out
  stood : ∀ a, (v.axles.get a).state = if (s.axles.get a).state.inService then .standby else (s.axles.get a).state
  superseded : s.takesFrames → v.report.counters.superseded = s.supersededAfter
  released : ∀ a, s.takesFrames → ((s.axles.get a).state.inService = true ∨ s.issuer.inService.get a = true) →
    v.link.mailboxes.get (commandKind a) = some
      { kind := commandKind a, sequence := s.issuer.sequence.get a, content := .command 0 code false false }
  kept : v.records = s.records ∧ v.intake = s.intake ∧ v.filters = s.filters ∧ v.table.driveline = s.table.driveline

section Closing

variable {s : State} {t : Time} {sn : Snapshot} {out : PassOut}

/-- The issuer's step of a closing pass (R107). -/
theorem issueFrames_of_closing (hruns : s.modes.mode.runsPasses = true) (hsame : sn.mode = s.modes.mode)
    (hmode : s.modes.mode = .fading ∨ s.modes.mode = .supplyDown) (hzero : out.record.final = ⟨0, 0⟩) :
    issueFrames sn out s = placeReport out (issueBoth sn out true s) := by
  have hclosing : closingPass sn out s = true := by
    simp only [closingPass, finalsZero, hsame, hzero]
    rcases hmode with h | h <;> rw [h] <;> rfl
  rw [issueFrames_of_running sn out hruns, hclosing]

/-- Steps 1 to 6 of a closing pass: no axle is activated, and the issuer releases the axles. -/
theorem passResults_of_closing (hflight : s.engine.flight = some sn) (hsame : sn.mode = s.modes.mode)
    (hmode : s.modes.mode = .fading ∨ s.modes.mode = .supplyDown) (hzero : out.record.final = ⟨0, 0⟩) :
    (passResults sn out s).axles = s.axles ∧ (passResults sn out s).issuer.inService = ⟨false, false⟩ ∧
    (passResults sn out s).engine.previous = ⟨0, 0⟩ ∧
    (s.takesFrames → (passResults sn out s).report.counters.superseded = s.supersededAfter) ∧
    ∀ a, s.takesFrames → s.commanded a = true →
      (passResults sn out s).link.mailboxes.get (commandKind a) = some
        { kind := commandKind a, sequence := s.issuer.sequence.get a, content := .command 0 (stateCodeOf sn.mode) false false } := by
  obtain ⟨y, hy⟩ : ∃ y, y = storeResults sn out s := ⟨_, rfl⟩
  have hyissuer : y.issuer = s.issuer := by rw [hy]; simp
  have hyaxles : y.axles = s.axles := by rw [hy]; simp
  have hylink : y.link = s.link := by rw [hy]; simp
  have hyreport : y.report = s.report := by rw [hy]; simp
  have hymodes : y.modes = s.modes := by rw [hy]; simp
  have hissued : issueFrames sn out y = placeReport out (issueBoth sn out true y) :=
    issueFrames_of_closing (by rw [hymodes]; rcases hmode with h | h <;> rw [h] <;> rfl) (by rw [hymodes]; exact hsame)
      (by rw [hymodes]; exact hmode) hzero
  have hytakes : y.takesFrames ↔ s.takesFrames := by rw [State.takesFrames, State.takesFrames, hylink]
  obtain ⟨hlink, hissuer⟩ := passResults_link (sn := sn) (out := out) (s := s)
  rw [← hy, hissued] at hlink hissuer
  have hactivates (a : Axle) : s.activates a = false := by
    rcases hmode with h | h <;> simp [State.activates, h]
  refine ⟨?_, ?_, ?_, fun htakes => ?_, fun a htakes hcommanded => ?_⟩
  · rw [passResults_axles]
    simp only [hactivates, Bool.false_eq_true, if_false]
    rfl
  · have hmark (a : Axle) := ((issueBoth_issuer sn out true y).2 a).2
    rw [hissuer, placeReport_issuer]
    exact PerAxle.ext_get fun a => (hmark a).trans (by cases a <;> rfl)
  · rw [passResults_engine, hzero]
    simp
  · have hsuperseded : y.supersededAfter = s.supersededAfter := by
      have hreplaced : y.commandsReplaced = s.commandsReplaced := by
        simp only [State.commandsReplaced, hyaxles, hyissuer, hylink]
      rw [State.supersededAfter, State.supersededAfter, hreplaced, hyreport]
    have hcounters := (passEndResults_report (sn := sn) (out := out) (s := s) (by simp [hflight])).2.2
    rw [← hy, hissued, placeReport_report, issueBoth_report _ _ _ (hytakes.2 htakes), hsuperseded] at hcounters
    rw [passResults_report, hcounters]
  · have hcommanded' : y.commanded a = true := by rw [State.commanded, hyaxles, hyissuer]; exact hcommanded
    rw [hlink, placeReport_command, issueBoth_mail (hytakes.2 htakes), if_pos hcommanded', State.commandOf, hyissuer]
    simp

/-- The end of a closing pass, but for a warm restart: the fade, or the ramp with no restore pending, is over. -/
theorem passEnd_of_closing {new : Mode} {code : StateCode} (hflight : s.engine.flight = some sn)
    (hout : computePass s.par sn s.engine.previous s.grip (s.engine.passNumber + 1) = out) (hsame : sn.mode = s.modes.mode)
    (hzero : out.record.final = ⟨0, 0⟩)
    (hmode : s.modes.mode = .fading ∧ new = .dozing ∧ code = .fade ∨
      s.modes.mode = .supplyDown ∧ s.modes.restorePending = false ∧ new = .supplyHalted ∧ code = .supply) :
    ∃ v, exec (.passEnd t) s = .next (settle s v) ∧ s.PassClosed v sn out code ∧ v.modes.mode = new ∧
      (new = .supplyHalted → v.table.supply = ⟨none, none⟩) ∧
      v.link = { s.link with mailboxes := v.link.mailboxes, quiet := if new = .supplyHalted then true else s.link.quiet } := by
  obtain ⟨heffect, hexec⟩ := exec_passEnd (t := t) hflight hout
  obtain ⟨x, hx⟩ : ∃ x : State, x = { s with now := t } := ⟨_, rfl⟩
  obtain ⟨e, he⟩ : ∃ e, e = passResults sn out x := ⟨_, rfl⟩
  obtain ⟨y, hy⟩ : ∃ y : State, y = { e with engine.flight := none } := ⟨_, rfl⟩
  obtain ⟨w, hw⟩ : ∃ w, w = enterMode new .none y := ⟨_, rfl⟩
  obtain ⟨v, hv⟩ : ∃ v : State, v = { w with engine.pendingPass := false } := ⟨_, rfl⟩
  have hstill : new.runsPasses = false := by rcases hmode with ⟨-, rfl, -⟩ | ⟨-, -, rfl, -⟩ <;> rfl
  have hclosing : s.modes.mode = .fading ∨ s.modes.mode = .supplyDown := hmode.imp (·.1) (·.1)
  have hemodes : e.modes = s.modes := by rw [he, hx]; simp [passResults]
  have hfinish : finishFlight sn out e = w := by
    have hz : finalsZero out = true := by rw [finalsZero, hzero]; rfl
    simp only [finishFlight, hz, if_true, ← hy, hw, hsame]
    have hymodes : y.modes = s.modes := by rw [hy]; exact hemodes
    rcases hmode with ⟨hm, rfl, -⟩ | ⟨hm, hrestore, rfl, -⟩
    · rw [if_pos hm, fadeComplete, hymodes, if_pos hm]
    · rw [if_neg (by rw [hm]; decide), if_pos hm, rampComplete, hymodes, if_pos hm, if_neg (by simp [hrestore])]
  have hwmode : w.modes.mode = new := by rw [hw]; simp
  have hstart : startPending w = v := by
    rw [hv]
    unfold startPending
    split
    · exact if_neg (by simp [hwmode, hstill])
    next h => rw [Bool.not_eq_true] at h; rw [← h]
  have hactivates (a : Axle) : s.activates a = false := by
    rcases hclosing with h | h <;> simp [State.activates, h]
  rw [← hx, ← he, hfinish, hstart, hactivates, hactivates] at heffect
  simp only [requestPassIf, Bool.false_eq_true, if_false] at heffect
  rw [heffect] at hexec
  obtain ⟨hwengine, hwgrip, hwrow, hwsupply, hwaxles, -, hwlimiting, hwcounters⟩ := enterMode_still_frame .none y hstill
  rw [← hw] at hwengine hwgrip hwrow hwsupply hwaxles hwlimiting hwcounters
  have hwlink := enterMode_link new .none y
  rw [← hw] at hwlink
  obtain ⟨haxles, hmarks, hprevious, hsuperseded, hreleased⟩ :=
    passResults_of_closing (s := x) (by rw [hx]; exact hflight) (by rw [hx]; exact hsame) (by rw [hx]; exact hclosing) hzero
  rw [← he] at haxles hmarks hprevious hsuperseded hreleased
  have hengine := passResults_engine (sn := sn) (out := out) (s := x)
  have hlink := passResults_link_of_mailboxes (sn := sn) (out := out) (s := x)
  have hresults := resultsWritten_passResults (sn := sn) (out := out) (s := x) (by rw [hx]; simp [hflight])
  rw [← he] at hengine hlink hresults
  have hdeferred : e.engine.deferred = [] := by rw [hengine]
  have hvlink : v.link = { e.link with quiet := if new = .supplyHalted then true else e.link.quiet } := by
    rw [show v.link = w.link by rw [hv], hwlink]
    rcases hmode with ⟨-, rfl, -⟩ | ⟨-, -, rfl, -⟩ <;> simp [hy]
  have hcode : stateCodeOf sn.mode = code := by
    rw [hsame]
    rcases hmode with ⟨hm, -, rfl⟩ | ⟨hm, -, -, rfl⟩ <;> rw [hm] <;> rfl
  refine ⟨v, hexec, ⟨?_, ?_, ?_, ?_, fun a => ?_, fun htakes => ?_, fun a htakes hcommanded => ?_, ?_⟩, ?_, ?_, ?_⟩
  · simp [hv, hwengine, hy]
  · simp [hv, hwengine, hy, hprevious, hdeferred]
  · simp [hv, hw, hy, hmarks]
  · rw [hx] at hresults
    exact resultsWritten_of_same (e := e) hresults (by simp [hv, hwengine, hy]) (by simp [hv, hwgrip, hy]) (by simp [hv, hwrow, hy])
      (by simp [hv, hwlimiting, hy])
  · have hvaxle : v.axles.get a = (s.axles.get a).stoodDown := by simp [hv, hwaxles, hy, haxles, hx]
    rw [hvaxle, Supervisor.stoodDown_state]
  · have hcounters : v.report.counters.superseded = e.report.counters.superseded := by
      rw [show v.report = w.report by rw [hv], hwcounters, hy]
    rw [hcounters, hsuperseded (by rw [hx]; exact htakes), hx]
    rfl
  · have hboth : x.commanded a = true := by rw [hx]; simpa [State.commanded] using hcommanded
    rw [hvlink, ← hcode]
    exact (hreleased a (by rw [hx]; exact htakes) hboth).trans (by rw [hx])
  · have htable := congrArg (·.driveline) (passResults_table (sn := sn) (out := out) (s := x))
    rw [← he] at htable
    have hdriveline : v.table.driveline = s.table.driveline := by
      simp only [hv, hw, enterMode_table_frame, hy, htable, hx]
    exact ⟨by simp [hv, hw, hy, he, hx, passResults], by simp [hv, hw, hy, he, hx, passResults],
      by simp [hv, hw, hy, he, hx, passResults], hdriveline⟩
  · rw [hv]
    exact hwmode
  · intro hhalted
    have hm : s.modes.mode = .supplyDown := by
      rcases hmode with ⟨-, rfl, -⟩ | ⟨hm, -⟩
      · cases hhalted
      · exact hm
    rw [show v.table = w.table by rw [hv], hwsupply]
    exact if_pos ⟨hhalted, by rw [hy]; simp [hemodes, hm]⟩
  · rw [hvlink, hlink, hx]

/-- The end of the ramp with a restore pending is a warm restart (R141, R145). -/
theorem passEnd_of_restoring (hflight : s.engine.flight = some sn)
    (hout : computePass s.par sn s.engine.previous s.grip (s.engine.passNumber + 1) = out) (hsame : sn.mode = s.modes.mode)
    (hzero : out.record.final = ⟨0, 0⟩) (hmode : s.modes.mode = .supplyDown) (hrestore : s.modes.restorePending = true) :
    exec (.passEnd t) s =
      .next (settle s (warmRestart { passResults sn out { s with now := t } with engine.flight := none })) := by
  obtain ⟨heffect, hexec⟩ := exec_passEnd (t := t) hflight hout
  obtain ⟨e, he⟩ : ∃ e, e = passResults sn out { s with now := t } := ⟨_, rfl⟩
  have hemodes : e.modes = s.modes := by rw [he]; simp [passResults]
  have hz : finalsZero out = true := by rw [finalsZero, hzero]; rfl
  have hfinish : finishFlight sn out e = warmRestart { e with engine.flight := none } := by
    simp only [finishFlight, hz, if_true, hsame]
    rw [if_neg (by rw [hmode]; decide), if_pos hmode, rampComplete]
    simp only [hemodes, hmode, hrestore, if_true]
  have hactivates (a : Axle) : s.activates a = false := by simp [State.activates, hmode]
  rw [← he, hfinish, startPending_warmRestart, hactivates, hactivates] at heffect
  simp only [requestPassIf, Bool.false_eq_true, if_false] at heffect
  rw [hexec, heffect, he]

end Closing

/-- Settles O35. -/
theorem closingPassEndsTheFadeOrTheSupplyRamp : Obligations.ClosingPassEndsTheFadeOrTheSupplyRamp := by
  unfold Obligations.ClosingPassEndsTheFadeOrTheSupplyRamp
  intro s t sn out hflight hsame hout hzero
  refine ⟨fun hmode => ?_, fun hmode hrestore hactive hquiet => ?_, fun hmode hrestore => ?_⟩
  · obtain ⟨v, hexec, hclosed, hvmode, -, hvlink⟩ := passEnd_of_closing (t := t) hflight hout hsame hzero (.inl ⟨hmode, rfl, rfl⟩)
    obtain ⟨⟨hidle, hpending, htimer⟩, ⟨hprevious, hdeferred⟩, hunmarked, hresults, hstood, hsuperseded, hreleased,
      hrecords, hintake, hfilters, hdriveline⟩ := hclosed
    obtain ⟨-, hmail⟩ := settle_sameLink (before := s) (s := v) (marksQuiet_same (by rw [hvlink]; simp))
    refine ⟨settle s v, hexec, by simp [hvmode], by simp [hidle], by simp [hpending], by simp [htimer], by simp [hprevious],
      by simp [hunmarked], by simp [hdeferred], ?_, fun a => by simpa using hstood a, fun htakes => by simpa using hsuperseded htakes,
      fun a htakes hcommanded => ?_, by simp [hrecords], by simp [hintake], by simp [hfilters], by simp [hdriveline]⟩
    · exact resultsWritten_of_same hresults (by simp) (by simp) (by simp) (by simp)
    · rw [hmail _ (by cases a <;> rfl)]
      exact hreleased a htakes hcommanded
  · obtain ⟨v, hexec, hclosed, hvmode, hvsupply, hvlink⟩ :=
      passEnd_of_closing (t := t) hflight hout hsame hzero (.inr ⟨hmode, hrestore, rfl, rfl⟩)
    obtain ⟨⟨hidle, -, htimer⟩, ⟨hprevious, hdeferred⟩, hunmarked, hresults, hstood, hsuperseded, hreleased,
      hrecords, hintake, -⟩ := hclosed
    have htakes : s.takesFrames := ⟨by rw [hactive]; decide, hquiet⟩
    have hvquiet : v.link.quiet = true := by
      rw [hvlink]
      rfl
    have hmarks : marksQuiet s v = true := by simp [marksQuiet, hvquiet, hquiet]
    have hchange : reportsChange s v = true := reportsChange_of_mode (by rw [hmode, hvmode]; decide)
    obtain ⟨v', -, ⟨hlink, hmail⟩, hsettled, hstatus⟩ :=
      settle_link_of_quietEntry hmarks hchange (by rw [hvlink]; exact hactive) (by rw [hvmode]; decide)
    refine ⟨settle s v, hexec, by simp [hvmode], by simp [hvsupply rfl], ?_, ?_, by rw [hsettled]; exact hstatus, by simp [hidle],
      by simp [htimer], by simp [hprevious], by simp [hunmarked], by simp [hdeferred], ?_, by simpa using hsuperseded htakes,
      fun a => by simpa using hstood a, fun a hcommanded => ?_, by simp [hrecords], by simp [hintake]⟩
    · rw [hsettled, hlink, hvlink]
      rfl
    · rw [hsettled, hlink, hvlink]
      exact hactive
    · exact resultsWritten_of_same hresults (by simp) (by simp) (by simp) (by simp)
    · rw [hsettled, hmail _ (by cases a <;> rfl)]
      exact hreleased a htakes hcommanded
  · have hexec := passEnd_of_restoring (t := t) hflight hout hsame hzero hmode hrestore
    obtain ⟨y, hy⟩ : ∃ y : State, y = { passResults sn out { s with now := t } with engine.flight := none } := ⟨_, rfl⟩
    rw [← hy] at hexec
    have hylink : y.link = (passResults sn out { s with now := t }).link := by rw [hy]
    rw [passResults_link_of_mailboxes] at hylink
    obtain ⟨-, hengine, -⟩ := warmRestart_blocks y
    have hyengine : y.engine.passNumber = s.engine.passNumber + 1 ∧ y.engine.result = out.record := by
      rw [hy, ← passNumber_of_computePass hout]
      simp [passResults_engine]
    have huengine : (settle s (warmRestart y)).engine = y.engine.restarted := by rw [← hengine]; simp
    refine ⟨settle s (warmRestart y), hexec, ?_, ?_, ?_⟩
    · refine warmRestarted_settle (fun i => ?_) ?_ ?_ ?_ ?_ ?_ ?_
      · simp [hy, passResults]
      · simp [hy, passResults]
      · rw [hylink]
      · simp [hy, passResults]
      · simp [hy, passResults]
      · simp [hy, passResults]
      · rw [hy]
        exact (shows_passEndResults sn out { s with now := t }).alerts
    · rw [huengine]
      exact hyengine.1
    · rw [huengine]
      exact hyengine.2

end Sys2Proof.Machine
